-- ==== Sys2Proof/Word.lean ====
section
/-! DEFINITION. The words of the NZ496 and the fixed shapes that hold them: bytes, the wrapping numbers of
spec/00_scope.md section 3.4, the four channels of section 3.3, and tables of a fixed number of places. -/
namespace Sys2Proof

/-- One byte of a frame (spec/10, R182: eight data bits). -/
abbrev Byte := BitVec 8

/-- A line sequence number: unsigned 16 bits, 65535 is followed by 0 (R12). -/
abbrev SeqNo := BitVec 16

/-- A piece number: unsigned 32 bits, 4294967295 is followed by 0 (R60). -/
abbrev PieceNo := BitVec 32

/-- A recipe generation: unsigned 16 bits, 65535 is followed by 0 (R115). -/
abbrev Gen := BitVec 16

/-- The four channels of a cell, in the order of spec/00_scope.md section 3.3. -/
inductive Chan where
  | ind | vis | na | nb
  deriving DecidableEq, Repr

/-- The index of a channel (spec/00_scope.md section 3.3). -/
def Chan.index : Chan → Nat
  | .ind => 0 | .vis => 1 | .na => 2 | .nb => 3

/-- The four channels in index order. -/
def Chan.all : List Chan := [.ind, .vis, .na, .nb]

/-- The channel with an index, where there is one. -/
def Chan.ofIndex : Nat → Option Chan
  | 0 => some .ind | 1 => some .vis | 2 => some .na | 3 => some .nb | _ => none

/-- One value for each channel. -/
structure Quad (α : Type) where
  ind : α
  vis : α
  na : α
  nb : α
  deriving DecidableEq, Repr

/-- The value of one channel. -/
def Quad.get {α : Type} (q : Quad α) : Chan → α
  | .ind => q.ind | .vis => q.vis | .na => q.na | .nb => q.nb

/-- A value for each channel, made channel by channel. -/
def Quad.make {α : Type} (f : Chan → α) : Quad α :=
  { ind := f .ind, vis := f .vis, na := f .na, nb := f .nb }

/-- The four values in channel order. -/
def Quad.toList {α : Type} (q : Quad α) : List α := [q.ind, q.vis, q.na, q.nb]

/-- The quad with one channel's value replaced. -/
def Quad.put {α : Type} (q : Quad α) (k : Chan) (a : α) : Quad α :=
  Quad.make fun j => if j = k then a else q.get j

/-- A table of `n` places, filled place by place. -/
def tabulate {α : Type} (n : Nat) (f : Fin n → α) : Vector α n :=
  ⟨((List.finRange n).map f).toArray, by simp⟩

/-- What stands at one place of a table. -/
def look {α : Type} {n : Nat} (v : Vector α n) (i : Fin n) : α := v[i.val]'i.isLt

/-- The table with one place replaced. -/
def put {α : Type} {n : Nat} (v : Vector α n) (i : Fin n) (a : α) : Vector α n := v.set i.val a i.isLt

@[simp] theorem look_tabulate {α : Type} {n : Nat} (f : Fin n → α) (i : Fin n) :
    look (tabulate n f) i = f i := by
  simp [look, tabulate]

@[simp] theorem look_put_self {α : Type} {n : Nat} (v : Vector α n) (i : Fin n) (a : α) :
    look (put v i a) i = a := by
  simp [look, put]

theorem look_put_ne {α : Type} {n : Nat} (v : Vector α n) (i j : Fin n) (a : α) (h : i ≠ j) :
    look (put v i a) j = look v j := by
  have : i.val ≠ j.val := fun e => h (Fin.ext e)
  simp [look, put, this]

theorem look_put {α : Type} {n : Nat} (v : Vector α n) (i j : Fin n) (a : α) :
    look (put v i a) j = if i = j then a else look v j := by
  by_cases h : i = j
  · subst h; simp
  · simp [h, look_put_ne v i j a h]

@[simp] theorem look_replicate {α : Type} {n : Nat} (a : α) (i : Fin n) :
    look (Vector.replicate n a) i = a := by
  simp [look]

@[simp] theorem Quad.get_make {α : Type} (f : Chan → α) (k : Chan) : (Quad.make f).get k = f k := by
  cases k <;> rfl

@[simp] theorem Quad.get_put {α : Type} (q : Quad α) (k j : Chan) (a : α) :
    (q.put k a).get j = if j = k then a else q.get j := by
  simp [Quad.put]

end Sys2Proof
end

