-- ==== Sys2Proof/Syntax.lean ====
section
/-! DEFINITION. The commands of the NZ496: one constructor of `Instr` for each row of spec/opcode_table.json, with
the operands the step takes from the world. A request's operands are the body of the frame it takes from the inbound
queue (R187), so the request rows carry none. -/
namespace Sys2Proof

/-- A lane, 0 to 47 (spec/00_scope.md section 3.2). -/
abbrev Lane := Fin 48

/-- The row of a valve (spec/00_scope.md section 3.2). -/
inductive Row where
  | up | down
  deriving DecidableEq, Repr

/-- The level of AIR_OK: supply air present or lost (spec/00_scope.md section 1.2, R156, R157). -/
inductive Air where
  | present | lost
  deriving DecidableEq, Repr

/-- Which block made a hand-off to the lane scheduler (R123). -/
inductive HandoffSource where
  | classifier | segmenter
  deriving DecidableEq, Repr

/-- A coil status a driver board reports (R159). -/
inductive Coil where
  | ok | fault
  deriving DecidableEq, Repr

/-- What a return frame carries for one valve: its lane, its row and its coil status (R159). -/
structure CoilReport where
  lane : Lane
  row : Row
  coil : Coil
  deriving DecidableEq, Repr

/-- A command: one whole and indivisible step of the part (spec/95_what_each_step_holds.md). -/
inductive Instr where
  /-- ENCODER_TRANSITION: the new levels of the encoder inputs A and B. -/
  | encoderTransition (a b : Bool)
  /-- SPEED_UPDATE: the 1 ms speed update. -/
  | speedUpdate
  /-- LINE_REQUEST_SEND: the oldest waiting line request goes out. -/
  | lineRequestSend
  /-- SENSOR_FRAME_END: the bytes of the frame that ended, and whether it broke off in a framing error. -/
  | sensorFrameEnd (bytes : List Byte) (framingError : Bool)
  /-- BLT_TAKE_LINE: the baseline tracker takes its oldest processed line. -/
  | bltTakeLine
  /-- SEG_TAKE_LINE: the segmenter takes its oldest processed line. -/
  | segTakeLine
  /-- LDM_TAKE_LINE: the load monitor takes its oldest processed line. -/
  | ldmTakeLine
  /-- CAP_TAKE_LINE: the line capture takes its oldest processed line. -/
  | capTakeLine
  /-- WALK_START: the classifier takes the oldest queued piece. -/
  | walkStart
  /-- TEST_EVALUATE: one test of the walk. -/
  | testEvaluate
  /-- WALK_END: the walk ends with its result. -/
  | walkEnd
  /-- PLACE_PIECE: the lane scheduler takes the oldest hand-off of one source, a piece. -/
  | placePiece (src : HandoffSource)
  /-- PLACE_UNTRACKED: the lane scheduler takes a line's untracked runs. -/
  | placeUntracked
  /-- MAX_ON_EXPIRY of one valve. -/
  | maxOnExpiry (lane : Lane) (row : Row)
  /-- MIN_OFF_EXPIRY of one valve. -/
  | minOffExpiry (lane : Lane) (row : Row)
  /-- PULSE_EXPIRY of one valve. -/
  | pulseExpiry (lane : Lane) (row : Row)
  /-- AIR_LOST: AIR_OK reports loss. -/
  | airLost
  /-- AIR_RESTORED: AIR_OK reports the air returned. -/
  | airRestored
  /-- VALVE_RETURN_FRAME: the reports of the frame that ended, whether the CRC it carries equals the one computed
  over its content, and whether it broke off in a framing error. -/
  | valveReturnFrame (reports : List CoilReport) (crcMatches framingError : Bool)
  /-- LINK_FRAME_END: the characters collected since the frame began. -/
  | linkFrameEnd (bytes : List Byte)
  /-- LINK_FRAMING_ERROR: a stop bit read as 0, or a body length above 1024. -/
  | linkFramingError
  /-- GAP_ABORT: the idle inside a frame reaches four character times. -/
  | gapAbort
  /-- TRANSMIT_FRAME: the transmitter begins the next frame. -/
  | transmitFrame
  /-- UNKNOWN_KIND: a frame whose kind is no request kind is taken. -/
  | unknownKind
  /-- HELLO (01). -/
  | hello
  /-- STATUS (02). -/
  | status
  /-- SET (03). -/
  | set
  /-- GET (04). -/
  | get
  /-- HOLD (05). -/
  | hold
  /-- RELEASE (06). -/
  | release
  /-- SORT_START (07). -/
  | sortStart
  /-- SORT_STOP (08) with mode DRAIN. -/
  | sortStopDrain
  /-- SORT_STOP (08) with mode ABANDON. -/
  | sortStopAbandon
  /-- FLUSH (09). -/
  | flush
  /-- CLEAR (0A). -/
  | clear
  /-- RESET (0B). -/
  | reset
  /-- SOFT_RESET takes effect; the encoder levels and AIR_OK as they stand at its end. -/
  | softReset (a b : Bool) (air : Air)
  /-- HARD_RESET at power-on or by the RESET pin; the encoder levels, AIR_OK and the rate straps at its end. -/
  | hardReset (a b : Bool) (air : Air) (straps : Fin 4)
  /-- SURVEY_START (0C). -/
  | surveyStart
  /-- SURVEY_STOP (0D). -/
  | surveyStop
  /-- SURVEY_RESULT (0E). -/
  | surveyResult
  /-- BASELINE_READ (0F). -/
  | baselineRead
  /-- BASELINE_WRITE (10). -/
  | baselineWrite
  /-- RECIPE_OPEN (11). -/
  | recipeOpen
  /-- RECIPE_PUT_RECORDS (12). -/
  | recipePutRecords
  /-- RECIPE_PUT_CLASSES (13). -/
  | recipePutClasses
  /-- RECIPE_COMMIT (14). -/
  | recipeCommit
  /-- RECIPE_ABANDON (15). -/
  | recipeAbandon
  /-- RECIPE_INFO (16). -/
  | recipeInfo
  /-- LANE_READ (17). -/
  | laneRead
  /-- VALVE_SET (18) with action ENABLE. -/
  | valveEnable
  /-- VALVE_SET (18) with action DISABLE. -/
  | valveDisable
  /-- VALVE_PULSE (19). -/
  | valvePulse
  /-- VALVE_STATE (1A). -/
  | valveState
  /-- CAPTURE_ARM (1B) with trigger NOW. -/
  | captureArmNow
  /-- CAPTURE_ARM (1B) with trigger CLASS. -/
  | captureArmClass
  /-- CAPTURE_CANCEL (1C). -/
  | captureCancel
  /-- CAPTURE_READ (1D). -/
  | captureRead
  /-- STATS_READ (1E) with the clear mark clear. -/
  | statsRead
  /-- STATS_READ (1E) with the clear mark set. -/
  | statsReadClear
  /-- LINK_FRAME_START: a character after four character times of idle. -/
  | linkFrameStart
  /-- SENSOR_FRAME_START: a character after four character times of idle on the sensor bar link. -/
  | sensorFrameStart
  /-- RETURN_FRAME_START: a character after idle on the valve bus. -/
  | returnFrameStart
  /-- LINK_FRAME_SENT: the last character of the frame in transmission has gone out. -/
  | linkFrameSent
  deriving DecidableEq, Repr

end Sys2Proof
end

