-- ==== Sys2Proof/Decode.lean ====
section
/-! DEFINITION. The command that a word spells. No row of spec/opcode_table.json gives bits: the commands are events at
the part's connections and steps of its blocks, and none is read from an instruction word. -/
namespace Sys2Proof

/-- The command that the bits of a table row spell: none, since no row has bits. -/
def decodeTableWord (_nbits _w : Nat) : Option Instr := none

end Sys2Proof
end

