-- ==== Sys2Proof/Config.lean ====
section
/-! DEFINITION. What is fixed for the part: the capacities of spec/10 R191 and the limits of spec/00_scope.md
section 3.4; and the free values, which the spec leaves open. -/
namespace Sys2Proof.Config

/-- The greatest belt position, 2^48 − 1 (R8). -/
def posMax : Nat := 281474976710655

/-- The ceiling of every statistics count (R205). -/
def countMax : Nat := 4294967295

/-- Places of the outstanding-trigger list (spec/02 section 2.2). -/
def outstandingMax : Nat := 4

/-- Slots that may be OPEN at once (R66). -/
def openMax : Nat := 64

/-- Places of the classify queue (R86). -/
def queueMax : Nat := 16

/-- Entries of one lane schedule (R121). -/
def laneMax : Nat := 16

/-- The walk limit: tests evaluated in one walk (R99). -/
def walkLimit : Nat := 24

/-- Records of the capture ring (R202). -/
def ringMax : Nat := 256

/-- Places of the inbound queue and of the reply queue (R186, R187). -/
def linkQueueMax : Nat := 4

/-- Places of the notice queue (R194). -/
def noticeMax : Nat := 64

/-- Places of the notice queue that PIECE notices may take (R195). -/
def pieceNoticeMax : Nat := 56

/-- Greatest body length of a frame (R185). -/
def bodyMax : Nat := 1024

/-- FREE VALUE (log entry 15). The sequence numbers a CAPTURE_END notice carries for the oldest and the newest
record when the ring holds none: R203 names the two fields and states no value for that case. -/
opaque emptyRingSeq : Nat → SeqNo

end Sys2Proof.Config
end

