-- ==== Sys2Proof/Machine/Settings.lean ====
section
/-! DEFINITION. The settings of the part: the setting index of spec/10 section 10.8.4 with each setting's class,
range, rounding and default (the tables of spec/01 to spec/11), and the tables that hold the values. -/
namespace Sys2Proof.Machine

/-- The LINE-class settings: the ones a line's snapshot holds (R25). -/
inductive LineId where
  | lineTicks | winStart | winWidth | minRun
  | refcorr (k : Chan) | gain (k : Chan) | range (k : Chan) | occHi (k : Chan) | occLo (k : Chan)
  | metalThresh | gapLines | maxPieceLines
  deriving DecidableEq, Repr

/-- The settings of the classes IMMEDIATE and IDLE_ONLY. -/
inductive OwnId where
  | encPolarity | reverseLimit
  | blMode | settleThresh | settleLen | blDamp | blMaxStep | surveyStep
  | minArea | finesReport | overflowDest | reportShift
  | barOffset | minPulse | ovfMargin
  | openDelay | closeDelay | maxOn | minOff | mergeGap
  | thinLevel | noticeMask
  | loadEmpty | loadHyst | loadDense
  deriving DecidableEq, Repr

/-- What a setting identifier names: one setting, or the four gains at once (GAIN_ALL, R30). -/
inductive SettingTarget where
  | line (i : LineId)
  | own (i : OwnId)
  | gainAll
  deriving DecidableEq, Repr

/-- The place of a LINE-class setting in the tables below. -/
def LineId.ix : LineId → Fin 27
  | .lineTicks => 0 | .winStart => 1 | .winWidth => 2 | .minRun => 3
  | .refcorr k => ⟨4 + k.index, by cases k <;> decide⟩
  | .gain k => ⟨8 + k.index, by cases k <;> decide⟩
  | .range k => ⟨12 + k.index, by cases k <;> decide⟩
  | .occHi k => ⟨16 + k.index, by cases k <;> decide⟩
  | .occLo k => ⟨20 + k.index, by cases k <;> decide⟩
  | .metalThresh => 24 | .gapLines => 25 | .maxPieceLines => 26

/-- The place of another setting in the tables below. -/
def OwnId.ix : OwnId → Fin 25
  | .encPolarity => 0 | .reverseLimit => 1 | .blMode => 2 | .settleThresh => 3 | .settleLen => 4
  | .blDamp => 5 | .blMaxStep => 6 | .surveyStep => 7 | .minArea => 8 | .finesReport => 9
  | .overflowDest => 10 | .reportShift => 11 | .barOffset => 12 | .minPulse => 13 | .ovfMargin => 14
  | .openDelay => 15 | .closeDelay => 16 | .maxOn => 17 | .minOff => 18 | .mergeGap => 19
  | .thinLevel => 20 | .noticeMask => 21 | .loadEmpty => 22 | .loadHyst => 23 | .loadDense => 24

/-- Every LINE-class setting, in the order of the table places. -/
def LineId.all : List LineId :=
  [.lineTicks, .winStart, .winWidth, .minRun] ++ Chan.all.map .refcorr ++ Chan.all.map .gain ++
    Chan.all.map .range ++ Chan.all.map .occHi ++ Chan.all.map .occLo ++
    [.metalThresh, .gapLines, .maxPieceLines]

/-- Every other setting, in the order of the table places. -/
def OwnId.all : List OwnId :=
  [.encPolarity, .reverseLimit, .blMode, .settleThresh, .settleLen, .blDamp, .blMaxStep, .surveyStep,
   .minArea, .finesReport, .overflowDest, .reportShift, .barOffset, .minPulse, .ovfMargin,
   .openDelay, .closeDelay, .maxOn, .minOff, .mergeGap, .thinLevel, .noticeMask,
   .loadEmpty, .loadHyst, .loadDense]

/-- Least and greatest value of a LINE-class setting. -/
def LineId.bounds : LineId → Nat × Nat
  | .lineTicks => (4, 64) | .winStart => (0, 94) | .winWidth => (2, 96) | .minRun => (1, 4)
  | .refcorr _ => (0, 1) | .gain _ => (8, 255) | .range _ => (0, 1)
  | .occHi _ => (1, 2047) | .occLo _ => (0, 2048)
  | .metalThresh => (0, 2047) | .gapLines => (0, 3) | .maxPieceLines => (16, 2048)

/-- Least and greatest value, or code, of another setting. -/
def OwnId.bounds : OwnId → Nat × Nat
  | .encPolarity => (0, 1) | .reverseLimit => (16, 65535)
  | .blMode => (0, 2) | .settleThresh => (1, 255) | .settleLen => (1, 64)
  | .blDamp => (0, 7) | .blMaxStep => (1, 255) | .surveyStep => (1, 16383)
  | .minArea => (1, 255) | .finesReport => (0, 1) | .overflowDest => (0, 2) | .reportShift => (0, 7)
  | .barOffset => (256, 65535) | .minPulse => (1, 255) | .ovfMargin => (0, 255)
  | .openDelay => (0, 5000) | .closeDelay => (0, 5000) | .maxOn => (1000, 100000)
  | .minOff => (0, 20000) | .mergeGap => (0, 255)
  | .thinLevel => (8, 56) | .noticeMask => (0, 7)
  | .loadEmpty => (0, 1000) | .loadHyst => (0, 1000) | .loadDense => (0, 1000)

/-- Default of a LINE-class setting. -/
def LineId.default : LineId → Nat
  | .lineTicks => 8 | .winStart => 0 | .winWidth => 96 | .minRun => 1
  | .refcorr _ => 1 | .gain _ => 32 | .range _ => 0
  | .occHi .ind => 64 | .occHi _ => 48 | .occLo _ => 0
  | .metalThresh => 200 | .gapLines => 1 | .maxPieceLines => 512

/-- Default of another setting. -/
def OwnId.default : OwnId → Nat
  | .encPolarity => 0 | .reverseLimit => 4096
  | .blMode => 0 | .settleThresh => 24 | .settleLen => 16 | .blDamp => 0 | .blMaxStep => 64
  | .surveyStep => 400
  | .minArea => 4 | .finesReport => 0 | .overflowDest => 2 | .reportShift => 4
  | .barOffset => 4096 | .minPulse => 4 | .ovfMargin => 8
  | .openDelay => 1800 | .closeDelay => 1200 | .maxOn => 40000 | .minOff => 3000 | .mergeGap => 12
  | .thinLevel => 40 | .noticeMask => 0
  | .loadEmpty => 5 | .loadHyst => 20 | .loadDense => 350

/-- The settings of the IDLE_ONLY class (spec/10 section 10.8.4). -/
def OwnId.idleOnly : OwnId → Bool
  | .encPolarity => true
  | .barOffset => true
  | _ => false

/-- A number brought into a range: clamped, a negative number being below every range (R189). -/
def clampInto (b : Nat × Nat) (v : Int) : Nat :=
  if v < (b.1 : Int) then b.1 else if (b.2 : Int) < v then b.2 else v.toNat

/-- The value a SET of a LINE-class setting takes: clamped, then rounded where the setting's own rule rounds:
WIN_START to the next lower even value, WIN_WIDTH to the next higher one (R27, R189). -/
def LineId.taken (i : LineId) (v : Int) : Nat :=
  let c := clampInto i.bounds v
  match i with
  | .winStart => c - c % 2
  | .winWidth => c + c % 2
  | _ => c

/-- The value a SET of another setting takes (R189). -/
def OwnId.taken (i : OwnId) (v : Int) : Nat := clampInto i.bounds v

/-- The setting an identifier names (spec/10 section 10.8.4). -/
def SettingTarget.ofCode (c : Nat) : Option SettingTarget :=
  match c with
  | 0x0101 => some (.own .encPolarity) | 0x0102 => some (.own .reverseLimit)
  | 0x0103 => some (.line .lineTicks)
  | 0x0201 => some (.line .winStart) | 0x0202 => some (.line .winWidth) | 0x0203 => some (.line .minRun)
  | 0x0210 => some (.line (.refcorr .ind)) | 0x0211 => some (.line (.refcorr .vis))
  | 0x0212 => some (.line (.refcorr .na)) | 0x0213 => some (.line (.refcorr .nb))
  | 0x0220 => some (.line (.gain .ind)) | 0x0221 => some (.line (.gain .vis))
  | 0x0222 => some (.line (.gain .na)) | 0x0223 => some (.line (.gain .nb))
  | 0x0224 => some .gainAll
  | 0x0230 => some (.line (.range .ind)) | 0x0231 => some (.line (.range .vis))
  | 0x0232 => some (.line (.range .na)) | 0x0233 => some (.line (.range .nb))
  | 0x0240 => some (.line (.occHi .ind)) | 0x0241 => some (.line (.occHi .vis))
  | 0x0242 => some (.line (.occHi .na)) | 0x0243 => some (.line (.occHi .nb))
  | 0x0250 => some (.line (.occLo .ind)) | 0x0251 => some (.line (.occLo .vis))
  | 0x0252 => some (.line (.occLo .na)) | 0x0253 => some (.line (.occLo .nb))
  | 0x0301 => some (.own .blMode) | 0x0302 => some (.own .settleThresh) | 0x0303 => some (.own .settleLen)
  | 0x0304 => some (.own .blDamp) | 0x0305 => some (.own .blMaxStep) | 0x0306 => some (.own .surveyStep)
  | 0x0401 => some (.line .metalThresh) | 0x0402 => some (.line .gapLines)
  | 0x0403 => some (.line .maxPieceLines)
  | 0x0404 => some (.own .minArea) | 0x0405 => some (.own .finesReport) | 0x0406 => some (.own .overflowDest)
  | 0x0501 => some (.own .reportShift)
  | 0x0701 => some (.own .barOffset) | 0x0702 => some (.own .minPulse) | 0x0703 => some (.own .ovfMargin)
  | 0x0801 => some (.own .openDelay) | 0x0802 => some (.own .closeDelay) | 0x0803 => some (.own .maxOn)
  | 0x0804 => some (.own .minOff) | 0x0805 => some (.own .mergeGap)
  | 0x0A01 => some (.own .thinLevel) | 0x0A02 => some (.own .noticeMask)
  | 0x0B01 => some (.own .loadEmpty) | 0x0B02 => some (.own .loadHyst) | 0x0B03 => some (.own .loadDense)
  | _ => none

/-- A value for every LINE-class setting: the settings in force, or a snapshot of them (R25). -/
structure LineSettings where
  vals : Vector Nat 27
  deriving DecidableEq, Repr

/-- A value for every setting of the other classes. -/
structure OwnSettings where
  vals : Vector Nat 25
  deriving DecidableEq, Repr

/-- At most one staged value for each LINE-class setting (spec/02 section 2.8). -/
structure StagedSet where
  vals : Vector (Option Nat) 27
  deriving DecidableEq, Repr

def LineSettings.get (s : LineSettings) (i : LineId) : Nat := look s.vals i.ix
def LineSettings.put (s : LineSettings) (i : LineId) (v : Nat) : LineSettings := ⟨Sys2Proof.put s.vals i.ix v⟩
def OwnSettings.get (s : OwnSettings) (i : OwnId) : Nat := look s.vals i.ix
def OwnSettings.put (s : OwnSettings) (i : OwnId) (v : Nat) : OwnSettings := ⟨Sys2Proof.put s.vals i.ix v⟩
def StagedSet.get (s : StagedSet) (i : LineId) : Option Nat := look s.vals i.ix
def StagedSet.put (s : StagedSet) (i : LineId) (v : Nat) : StagedSet := ⟨Sys2Proof.put s.vals i.ix (some v)⟩

/-- Nothing staged. -/
def StagedSet.empty : StagedSet := ⟨Vector.replicate 27 none⟩

/-- The LINE-class settings at their defaults. -/
def LineSettings.defaults : LineSettings :=
  ⟨tabulate 27 fun p => ((LineId.all.map LineId.default)[p.val]?).getD 0⟩

/-- The other settings at their defaults. -/
def OwnSettings.defaults : OwnSettings :=
  ⟨tabulate 25 fun p => ((OwnId.all.map OwnId.default)[p.val]?).getD 0⟩

/-- The settings in force with every staged value brought into force at once (R36). -/
def LineSettings.release (s : LineSettings) (g : StagedSet) : LineSettings :=
  ⟨tabulate 27 fun p => (look g.vals p).getD (look s.vals p)⟩

/-- The disturbing settings (spec/02 section 2.9). -/
def LineId.disturbing : List LineId :=
  [.lineTicks, .winStart, .winWidth] ++ Chan.all.map .refcorr ++ Chan.all.map .gain ++ Chan.all.map .range

/-- The values of the disturbing settings, which the SLI keeps from trigger to trigger (R38). -/
def LineSettings.disturbingValues (s : LineSettings) : List Nat := LineId.disturbing.map s.get

/-- First cell of a line's scan window (R27). -/
def LineSettings.windowStart (s : LineSettings) : Nat := s.get .winStart

/-- Effective width of a line's scan window: WIN_WIDTH, or what fits the belt (R27). -/
def LineSettings.windowWidth (s : LineSettings) : Nat := min (s.get .winWidth) (96 - s.get .winStart)

/-- Last cell of a line's scan window (R27). -/
def LineSettings.windowLast (s : LineSettings) : Nat := s.windowStart + s.windowWidth - 1

/-- Does the window hold this belt cell? -/
def LineSettings.inWindow (s : LineSettings) (cell : Nat) : Bool :=
  s.windowStart ≤ cell && cell < s.windowStart + s.windowWidth

end Sys2Proof.Machine
end

