-- ==== Sys2Proof/Machine/State.lean ====
section
/-! DEFINITION. The state of the NZ496 as plain data, block by block in the order of spec/00_scope.md section 2.1, the
reasons a step can stop, and the machine right after a hard reset. -/
namespace Sys2Proof.Machine

/-- A slot of the piece table, 0 to 255 (spec/04 section 4.1). -/
abbrev Slot := Fin 256

/-- One of the two recipe banks (spec/06 section 6.1). -/
abbrev BankId := Fin 2

/-! ### Lines -/

/-- A run of belt cells, both ends included (spec/00_scope.md section 3.2). -/
structure Run where
  left : Nat
  right : Nat
  deriving DecidableEq, Repr

/-- Occupancy mark of a belt cell (R32). -/
inductive Mark where
  | occupied | cleared | vacant | outside
  deriving DecidableEq, Repr

/-- The marks of the 96 belt cells. -/
abbrev Marks := Vector Mark 96

/-- One belt cell of a line from a frame: raw, corrected and conditioned samples and the clip mark (R33). -/
structure CellSample where
  raw : Quad Nat
  corrected : Quad Nat
  cond : Quad Int
  clipped : Bool
  deriving DecidableEq, Repr

/-- The samples of a line from a frame: the 16 reference cells (L0 to L7, then RT0 to RT7), raw, and the belt
cells. -/
structure Samples where
  refs : Vector (Quad Nat) 16
  cells : Vector CellSample 96
  deriving DecidableEq, Repr

/-- A processed line (R33). A missing line has no samples; `prevMarks` are the marks of the line processed before
it, which the baseline tracker reads with it (R41). -/
structure Line where
  seq : SeqNo
  start : Nat
  stop : Nat
  snap : LineSettings
  disturbed : Bool
  samples : Option Samples
  marks : Marks
  prevMarks : Marks
  deriving DecidableEq, Repr

/-- An entry of the outstanding-trigger list (spec/02 section 2.2). `requested` says that its line request has been
sent; while it is false the request waits (R17). -/
structure Trigger where
  seq : SeqNo
  start : Nat
  stop : Nat
  snap : LineSettings
  disturbed : Bool
  requested : Bool
  deriving DecidableEq, Repr

/-! ### Pieces -/

/-- A destination (R100). -/
inductive Dest where
  | up | down | pass
  deriving DecidableEq, Repr

/-- A class: C0 to C15, UNRESOLVED or OVERFLOW. -/
inductive PieceClass where
  | cls (c : Fin 16)
  | unresolved
  | overflow
  deriving DecidableEq, Repr

/-- The final result of a piece (R164). -/
inductive PieceOutcome where
  | notEjected | complete | shortfall | partialOutcome | flushed | abandoned
  deriving DecidableEq, Repr

/-- Why an entry leaves its lane by retirement (spec/08 section 8.10). -/
inductive RetireReason where
  | fired | firedLate | truncated | recoverMiss | airLost | unavailable | guardHeld
  deriving DecidableEq, Repr

/-- The nine flags of a piece record (spec/04 section 4.2). -/
structure PieceFlags where
  edge : Bool
  disturbed : Bool
  gapfill : Bool
  merged : Bool
  long : Bool
  continued : Bool
  clipped : Bool
  limited : Bool
  queueFull : Bool
  deriving DecidableEq, Repr

/-- Who holds an occupied slot (spec/04 section 4.1). -/
inductive Phase where
  | openPiece | queued | walking | scheduled
  deriving DecidableEq, Repr

/-- The class-table terms handed on with a piece (R100). -/
structure Terms where
  prec : Nat
  lead : Nat
  trail : Nat
  widen : Nat
  report : Bool
  deriving DecidableEq, Repr

/-- The sixteen features, by index (R90). -/
abbrev Features := Vector Int 16

/-- The classification part of a record (R101, R81). -/
structure Classification where
  cls : PieceClass
  dest : Dest
  steps : Nat
  chainFault : Bool
  terms : Terms
  features : Features
  deriving DecidableEq, Repr

/-- The tallies of a SCHEDULED piece (R129, R163). -/
structure Tallies where
  planned : Nat := 0
  fired : Nat := 0
  firedLate : Nat := 0
  truncated : Nat := 0
  guardHeld : Nat := 0
  trimmed : Nat := 0
  shared : Nat := 0
  dropUnavailable : Nat := 0
  dropFull : Nat := 0
  dropLate : Nat := 0
  dropRecoverMiss : Nat := 0
  dropAirLost : Nat := 0
  deriving DecidableEq, Repr

/-- A piece record, the content of an occupied slot (spec/04 section 4.2). -/
structure Piece where
  number : PieceNo
  bank : BankId
  gen : Gen
  /-- Number and start position of the first line in which the piece received cells. -/
  first : Option (SeqNo × Nat)
  /-- Number and end position of the last line in which the piece received cells. -/
  last : Option (SeqNo × Nat)
  contributed : Nat
  gap : Nat
  /-- Left and right cell. -/
  extent : Option Run
  area : Nat
  sums : Quad Int
  indPeak : Option Int
  metal : Nat
  clipped : Nat
  absorbed : Nat
  front : List Run
  received : List Run
  flags : PieceFlags
  phase : Phase
  classed : Option Classification
  /-- Lane entries that name the piece as owner (R129). -/
  pendingEntries : Nat
  tallies : Tallies
  deriving DecidableEq, Repr

/-! ### Belt Position Unit -/

/-- The BPU (spec/01 section 1.1). -/
structure Bpu where
  refA : Bool
  refB : Bool
  debt : Nat
  excursion : Bool
  pos : Nat
  /-- The positions read at the last eight speed updates, oldest first. -/
  history : Vector Nat 8
  speed : Nat
  nextLine : Nat
  seq : SeqNo
  deriving DecidableEq, Repr

/-! ### Sensor Line Interface and Conditioning Unit -/

/-- The SLI (spec/02). -/
structure Sli where
  outstanding : List Trigger
  missingRun : Nat
  prevMarks : Marks
  kept : List Nat
  /-- Is the receiver of the sensor bar link inside a frame? -/
  inFrame : Bool
  /-- OUTPUT: the line requests sent since the last reset, oldest first (log entry 19). -/
  sentRequests : List (List Byte)
  deriving DecidableEq, Repr

/-- The CDU: settings in force, staged set, HOLD flag (spec/02 section 2.8). -/
structure Cdu where
  line : LineSettings
  own : OwnSettings
  staged : StagedSet
  hold : Bool
  deriving DecidableEq, Repr

/-! ### Baseline Tracker -/

/-- Settle state of one cell and channel (spec/03 section 3.4). -/
inductive Settle where
  | track
  | settle (count : Nat)
  deriving DecidableEq, Repr

/-- Survey status (spec/03 section 3.1). -/
inductive SurveyStatus where
  | none | running | done | spoiled | aborted
  deriving DecidableEq, Repr

/-- Survey accumulators (spec/03 section 3.5). -/
structure SurveyAcc where
  /-- MODEL: the lines processed before the SURVEY_START that the tracker has still to take, none of which is the
  survey's (R47, log entry 28). -/
  early : Nat
  good : Nat
  target : Nat
  levelSum : Vector (Quad Nat) 96
  stepSum : Vector (Quad Nat) 96
  refSum : Quad Nat
  prev : Vector (Quad Nat) 96
  deriving DecidableEq, Repr

/-- Survey results (R51 to R53). -/
structure SurveyResults where
  lines : Nat
  refLevel : Quad Nat
  firstCell : Nat
  lastCell : Nat
  recommended : Quad Nat
  noise : Vector (Quad Nat) 96
  deriving DecidableEq, Repr

/-- The BLT (spec/03 section 3.1). -/
structure Blt where
  baseline : Vector (Quad Nat) 96
  settle : Vector (Quad Settle) 96
  refLevel : Quad Nat
  valid : Bool
  status : SurveyStatus
  acc : SurveyAcc
  results : Option SurveyResults
  deriving DecidableEq, Repr

/-! ### Segmenter and Classifier -/

/-- The SEG: the piece table and the piece-number counter (spec/04). -/
structure Seg where
  slots : Vector (Option Piece) 256
  nextNumber : PieceNo
  deriving DecidableEq, Repr

/-- Where a walk stands: at a record to be evaluated next, or ended with a result (R98, R99). -/
inductive WalkPoint where
  | record (index : Fin 256)
  | ended (result : PieceClass) (chainFault : Bool)
  deriving DecidableEq, Repr

/-- A walk record (spec/05 section 5.1). -/
structure Walk where
  slot : Slot
  bank : BankId
  features : Features
  point : WalkPoint
  steps : Nat
  deriving DecidableEq, Repr

/-- The CLS (spec/05 section 5.1). -/
structure Cls where
  queue : List Slot
  walk : Option Walk
  deriving DecidableEq, Repr

/-! ### Recipe Store -/

/-- Bank state (R108). -/
inductive BankState where
  | empty | loading | active | retiring
  deriving DecidableEq, Repr

/-- Test operator (R97). -/
inductive TestOp where
  | ge | lt | inside | outside | anyBit
  deriving DecidableEq, Repr

/-- A target of a test record (spec/05 section 5.5). -/
inductive Target where
  | record (index : Fin 256)
  | cls (c : Fin 16)
  | unresolved
  deriving DecidableEq, Repr

/-- A test record (spec/06 section 6.2). -/
structure TestRecord where
  feature : Fin 16
  op : TestOp
  a : BitVec 16
  b : BitVec 16
  onTrue : Target
  onFalse : Target
  deriving DecidableEq, Repr

/-- An entry of the class table (spec/06 section 6.2). -/
structure ClassEntry where
  dest : Dest
  terms : Terms
  deriving DecidableEq, Repr

/-- A recipe bank (spec/06 section 6.1). While the bank is LOADING its written set is the indices and classes
that hold a record or an entry. -/
structure Bank where
  state : BankState
  records : Vector (Option TestRecord) 256
  classes : Vector (Option ClassEntry) 16
  count : Nat
  root : Nat
  unresolved : Dest
  label : Nat
  gen : Gen
  pins : Nat
  deriving DecidableEq, Repr

/-- A bank that holds nothing. -/
def Bank.blank : Bank :=
  { state := .empty, records := Vector.replicate 256 none, classes := Vector.replicate 16 none,
    count := 0, root := 0, unresolved := .up, label := 0, gen := 0, pins := 0 }

/-- The RCS (spec/06 section 6.1). -/
structure Rcs where
  banks : Vector Bank 2
  generation : Gen
  deriving DecidableEq, Repr

/-! ### Lane Scheduler -/

/-- Row of a lane entry (spec/07 section 7.1). -/
inductive EntryRow where
  | up | down | guard
  deriving DecidableEq, Repr

/-- The row of a valve as the row of an entry. -/
def EntryRow.ofRow : Row → EntryRow
  | .up => .up | .down => .down

/-- A lane entry (spec/07 section 7.1). `active` is false while it is PENDING; an entry with no owner is
anonymous. -/
structure Entry where
  row : EntryRow
  start : Nat
  stop : Nat
  owner : Option (Slot × PieceNo)
  prec : Nat
  active : Bool
  lateStart : Bool
  sharedCut : Bool
  trimmed : Bool
  deriving DecidableEq, Repr

/-- A hand-off made to the lane scheduler and not yet taken (R123). -/
inductive Handoff where
  | piece (src : HandoffSource) (slot : Slot)
  | untracked (seq : SeqNo) (start stop : Nat) (runs : List Run)
  deriving DecidableEq, Repr

/-- The LSC (spec/07 section 7.1) with the hand-offs that wait, oldest first. -/
structure Lsc where
  lanes : Vector (List Entry) 48
  handoffs : List Handoff
  deriving DecidableEq, Repr

/-! ### Valve Driver -/

/-- Valve state (R151). -/
inductive ValveState where
  | closed | opened | recover | disabled | faulted
  deriving DecidableEq, Repr

/-- What an OPEN valve is blowing for: nothing, the ACTIVE entry of its lane and row, or a test pulse. -/
inductive Served where
  | none | entry | pulse
  deriving DecidableEq, Repr

/-- A running MAX_ON timer: the time since the valve left CLOSED and the MAX_ON_US it was started under, in
microseconds. -/
structure OnTimer where
  elapsed : Nat
  limit : Nat
  deriving DecidableEq, Repr

/-- A valve record (spec/08 section 8.1). A timer that is `none` is stopped; MIN_OFF and pulse hold the
microseconds left. -/
structure Valve where
  state : ValveState
  served : Served
  maxOn : Option OnTimer
  minOff : Option Nat
  pulse : Option Nat
  coil : Coil
  actuations : Nat
  deriving DecidableEq, Repr

/-- The two valves of a lane. -/
structure ValvePair where
  up : Valve
  down : Valve
  deriving DecidableEq, Repr

/-- A change of a valve's output as the valve bus carries it (R151). -/
structure BusWrite where
  lane : Lane
  row : Row
  opened : Bool
  deriving DecidableEq, Repr

/-- The VDR (spec/08 section 8.1). -/
structure Vdr where
  valves : Vector ValvePair 48
  air : Air
  leadOpen : Nat
  leadClose : Nat
  /-- Is the receiver of the valve bus inside a return frame? -/
  inFrame : Bool
  /-- OUTPUT: what the valve bus has carried since the last reset, oldest first (log entry 19). -/
  busWrites : List BusWrite
  deriving DecidableEq, Repr

/-! ### Engine Control -/

/-- Engine state (R168). -/
inductive EngState where
  | idle | survey | sorting | draining | halted
  deriving DecidableEq, Repr

/-- Fault kind (spec/09 section 9.4). -/
inductive FaultKind where
  | sensorLost | beltReversed | positionExhausted | airLost | valveFault
  deriving DecidableEq, Repr

/-- The five fault flags. -/
structure FaultFlags where
  sensorLost : Bool := false
  beltReversed : Bool := false
  positionExhausted : Bool := false
  airLost : Bool := false
  valveFault : Bool := false
  deriving DecidableEq, Repr

/-- Cause of a change of engine state (R169). -/
inductive EngCause where
  | sortStart | stopDrain | stopAbandon | drained | flush | clear | surveyStart | surveyEnd
  | sensorLost | beltReversed | positionExhausted | reset
  deriving DecidableEq, Repr

/-- Kind of a reset as a notice gives it. -/
inductive ResetKind where
  | none | hard | soft
  deriving DecidableEq, Repr

/-- The ENG (spec/09 section 9.1). `resetReplySent` is the model's own: the reply to the RESET request has been sent
in full (R180, log entry 22). -/
structure Eng where
  state : EngState
  flags : FaultFlags
  resetPending : Bool
  resetReplySent : Bool
  deriving DecidableEq, Repr

/-! ### Load Monitor and Line Capture -/

/-- Load state (spec/11 section 11.1). -/
inductive LoadState where
  | empty | normal | dense
  deriving DecidableEq, Repr

/-- The LDM (spec/11 section 11.1). -/
structure Ldm where
  state : LoadState
  lines : Nat
  occupied : Nat
  width : Nat
  merges : Nat
  permille : Nat
  deriving DecidableEq, Repr

/-- Capture state (spec/11 section 11.2). -/
inductive CapState where
  | idle | ringing | post | full
  deriving DecidableEq, Repr

/-- Capture mode. -/
inductive CapMode where
  | raw | cond
  deriving DecidableEq, Repr

/-- Capture trigger. -/
inductive CapTrigger where
  | now
  | onClass (c : PieceClass)
  deriving DecidableEq, Repr

/-- A line record of the capture ring (R202): 448 samples in cell and channel order. -/
structure LineRecord where
  seq : SeqNo
  start : Nat
  missing : Bool
  disturbed : Bool
  samples : List Int
  deriving DecidableEq, Repr

/-- The CAP (spec/11 section 11.2). -/
structure Cap where
  state : CapState
  mode : CapMode
  trigger : CapTrigger
  post : Nat
  ring : List LineRecord
  piece : Option PieceNo
  deriving DecidableEq, Repr

/-! ### Link Unit -/

/-- A good frame: kind, tag and body (R183, R185). -/
structure Frame where
  kind : Byte
  tag : Byte
  body : List Byte
  deriving DecidableEq, Repr

/-- Status of a reply (R187). -/
inductive Status where
  | ok | badLength | badId | range | state | busy | notReady | duplicate | bankBusy | incomplete
  | badTarget | check | unknownKind
  deriving DecidableEq, Repr

/-- A reply: the tag and kind of its request, the status and the reply data (R187). -/
structure Reply where
  tag : Byte
  kind : Byte
  status : Status
  data : List Byte
  deriving DecidableEq, Repr

/-- What a FAULT notice reports (R174, R177). -/
inductive FaultReport where
  | raised (k : FaultKind)
  | airRestored
  deriving DecidableEq, Repr

/-- A notice with the content its offering rule gives (spec/10 section 10.7). -/
inductive Notice where
  /-- PIECE: full form or short, the record as it stood, the outcome, the lost count (R165, R195). -/
  | piece (full : Bool) (p : Piece) (o : PieceOutcome) (lost : Nat)
  /-- FINES: the record as it stood (R79). -/
  | fines (p : Piece)
  /-- ENGINE: old and new state, cause, flags after, position, kind of reset (R169). -/
  | engine (old new : EngState) (cause : EngCause) (flags : FaultFlags) (pos : Nat) (kind : ResetKind)
  /-- FAULT: kind, engine state and flags after the raise, position (R174). -/
  | fault (k : FaultReport) (eng : EngState) (flags : FaultFlags) (pos : Nat)
  /-- SURVEY_END: status and good-line count (R49 to R51). -/
  | surveyEnd (status : SurveyStatus) (good : Nat)
  /-- LOAD: old and new load state, permille, merge count, number of the block's last line (R199). -/
  | load (old new : LoadState) (permille merges : Nat) (seq : SeqNo)
  /-- CAPTURE_END: mode, trigger, number of records, oldest and newest number, trigger piece (R203). -/
  | captureEnd (mode : CapMode) (trigger : CapTrigger) (records : Nat) (oldest newest : SeqNo)
      (piece : Option PieceNo)
  deriving DecidableEq, Repr

/-- A frame in transmission; `resetReply` marks the OK reply to a RESET request. -/
structure Sending where
  bytes : List Byte
  resetReply : Bool
  deriving DecidableEq, Repr

/-- The LNK (spec/10, opening table). `rate` is the strap code of R182. -/
structure Lnk where
  rate : Fin 4
  /-- The receiver: IN_FRAME when true, HUNT when false. -/
  inFrame : Bool
  inbound : List Frame
  replies : List Reply
  notices : List Notice
  pendingLost : Nat
  /-- The transmitter: free when `none`. -/
  sending : Option Sending
  deriving DecidableEq, Repr

/-! ### Statistics -/

/-- The counts of the five groups the STA holds, in the order of spec/11 section 11.3. -/
inductive Counter where
  | triggered | missing | disturbed | stray | frameErrors | encoderErrors | reverseLost
  | opened | absorbed | fines | finesSuppressed | ofClass (c : PieceClass) | chainFaults
  | ofOutcome (o : PieceOutcome) | ofRetire (r : RetireReason)
  | placed | trimmed | droppedFull | droppedLate | untracked | anonymous
  | framesGood | checkErrors | framingErrors | gapAborts | overruns | noticesLost | piecesLost | suppressed
  deriving DecidableEq, Repr

/-- The STA: 7 LINE, 23 PIECE, 13 OUTCOME, 6 LANE and 8 LINK counts, in that order. -/
structure Sta where
  counts : Vector Nat 57
  deriving DecidableEq, Repr

/-! ### The whole part -/

/-- The state of the NZ496. -/
structure State where
  bpu : Bpu
  sli : Sli
  cdu : Cdu
  blt : Blt
  seg : Seg
  cls : Cls
  rcs : Rcs
  lsc : Lsc
  vdr : Vdr
  eng : Eng
  lnk : Lnk
  ldm : Ldm
  cap : Cap
  sta : Sta
  /-- Processed lines handed to the baseline tracker and not yet taken, oldest first (R33). -/
  bltLines : List Line
  /-- The same for the segmenter. -/
  segLines : List Line
  /-- The same for the load monitor. -/
  ldmLines : List Line
  /-- The same for the line capture. -/
  capLines : List Line
  /-- MODEL: microseconds since the last speed update (log entry 2). -/
  sinceSpeed : Nat
  /-- MODEL: free values drawn so far (log entry 15). -/
  freeIndex : Nat
  /-- MODEL: the commands that wait, first in, first out (log entry 1). -/
  pending : List Instr
  deriving DecidableEq, Repr

/-- Why the model stops on a command. Both reasons are SAFE: they stand only where a block's record names
something that is not there, which no run from reset reaches (log entry 20). -/
inductive Fault where
  /-- A slot that the classify queue, the walk or a hand-off names holds no piece in the state that needs; raised by
  WALK_START, WALK_END and PLACE_PIECE. -/
  | pieceAbsent
  /-- The bank of a walk does not hold the test record or the class entry the walk names; raised by TEST_EVALUATE
  and WALK_END. -/
  | recipeAbsent
  deriving DecidableEq, Repr

/-- Why a command is refused by the model. -/
inductive Refusal where
  /-- The command has no meaning yet; answered by exec's arm only. SAFE. -/
  | notModelled (mnemonic : String)
  deriving DecidableEq, Repr

/-! ### Reset -/

/-- Marks of a line in which every belt cell is unoccupied (R22, R39). -/
def Marks.none : Marks := Vector.replicate 96 .vacant

/-- Survey accumulators that hold nothing. -/
def SurveyAcc.zero : SurveyAcc :=
  { early := 0, good := 0, target := 0, levelSum := Vector.replicate 96 ⟨0, 0, 0, 0⟩,
    stepSum := Vector.replicate 96 ⟨0, 0, 0, 0⟩, refSum := ⟨0, 0, 0, 0⟩,
    prev := Vector.replicate 96 ⟨0, 0, 0, 0⟩ }

/-- A valve after a hard reset (R167). -/
def Valve.rest : Valve :=
  { state := .closed, served := .none, maxOn := none, minOff := none, pulse := none, coil := .ok,
    actuations := 0 }

/-- The 96 valves in lane order, UP before DOWN (R162). -/
def valveOrder : List (Lane × Row) :=
  (List.finRange 48).flatMap fun l => [(l, .up), (l, .down)]

/-- The closed state of all 96 valves as the bus carries it after a reset (R167). -/
def closedBus : List BusWrite := valveOrder.map fun v => ⟨v.1, v.2, false⟩

/-- The machine right after a hard reset at power-on: every value the reset tables of spec/01 to spec/11 state, with
the first notice of R181 placed. The encoder levels (0, 0), AIR_OK present and strap code 0 are DESIGN CHOICE
(log entry 4); so are the microseconds since the last speed update, 0 at either reset (R10, log entry 2), and the post
count, 0 at either reset (R204, log entry 27). -/
def State.reset : State :=
  { bpu := { refA := false, refB := false, debt := 0, excursion := false, pos := 0,
             history := Vector.replicate 8 0, speed := 0, nextLine := 8, seq := 0 }
    sli := { outstanding := [], missingRun := 0, prevMarks := Marks.none,
             kept := LineSettings.defaults.disturbingValues, inFrame := false, sentRequests := [] }
    cdu := { line := LineSettings.defaults, own := OwnSettings.defaults, staged := StagedSet.empty,
             hold := false }
    blt := { baseline := Vector.replicate 96 ⟨131072, 131072, 131072, 131072⟩,
             settle := Vector.replicate 96 ⟨.track, .track, .track, .track⟩,
             refLevel := ⟨8192, 8192, 8192, 8192⟩, valid := false, status := .none,
             acc := SurveyAcc.zero, results := none }
    seg := { slots := Vector.replicate 256 none, nextNumber := 1 }
    cls := { queue := [], walk := none }
    rcs := { banks := Vector.replicate 2 Bank.blank, generation := 0 }
    lsc := { lanes := Vector.replicate 48 [], handoffs := [] }
    vdr := { valves := Vector.replicate 48 ⟨Valve.rest, Valve.rest⟩, air := .present, leadOpen := 0,
             leadClose := 0, inFrame := false, busWrites := closedBus }
    eng := { state := .idle, flags := {}, resetPending := false, resetReplySent := false }
    lnk := { rate := 0, inFrame := false, inbound := [], replies := [],
             notices := [.engine .idle .idle .reset {} 0 .hard], pendingLost := 0, sending := none }
    ldm := { state := .normal, lines := 0, occupied := 0, width := 0, merges := 0, permille := 0 }
    cap := { state := .idle, mode := .raw, trigger := .now, post := 0, ring := [], piece := none }
    sta := { counts := Vector.replicate 57 0 }
    bltLines := [], segLines := [], ldmLines := [], capLines := []
    sinceSpeed := 0, freeIndex := 0, pending := [] }

end Sys2Proof.Machine
end

