-- ==== Sys2Proof/Machine/Arith.lean ====
section
/-! DEFINITION. The arithmetic terms of spec/00_scope.md section 3.5, byte strings with the most significant byte first
(spec/10 section 10.8), the CRC-16 of R184, and runs of cells. -/
namespace Sys2Proof.Machine

/-- A quotient rounded to nearest, halfway away from zero. -/
def roundNear (n : Int) (d : Nat) : Int :=
  if 0 ≤ n then (((2 * n.natAbs + d) / (2 * d) : Nat) : Int)
  else -(((2 * n.natAbs + d) / (2 * d) : Nat) : Int)

/-- A quotient rounded up. -/
def ceilDiv (n d : Nat) : Nat := (n + (d - 1)) / d

/-- A quotient truncated: rounded toward zero. -/
def truncDiv (n d : Int) : Int := Int.tdiv n d

/-- A value clamped to a range. -/
def clamp (lo hi v : Int) : Int := if v < lo then lo else if hi < v then hi else v

/-- A sum that stops at a ceiling (R205 and the saturating fields of the spec). -/
def satAdd (top a n : Nat) : Nat := min top (a + n)

/-- |a − b| of two samples. -/
def absDiff (a b : Nat) : Nat := if a ≤ b then b - a else a - b

/-! ### Bytes -/

/-- `n` bytes of a number, most significant first; the number is taken modulo 256^n. -/
def toBytes : Nat → Nat → List Byte
  | 0, _ => []
  | n + 1, v => BitVec.ofNat 8 (v / 256 ^ n) :: toBytes n v

/-- `n` bytes of a signed number in two's complement. -/
def intBytes (n : Nat) (v : Int) : List Byte := toBytes n (v % ((256 ^ n : Nat) : Int)).toNat

/-- The number a byte string spells, most significant byte first. -/
def ofBytes (bs : List Byte) : Nat := bs.foldl (fun acc b => acc * 256 + b.toNat) 0

/-- The number of `n` bytes that begin at byte `i` of a body. -/
def field (bs : List Byte) (i n : Nat) : Nat := ofBytes ((bs.drop i).take n)

/-- A byte of a body as a number. -/
def byteAt (bs : List Byte) (i : Nat) : Nat := field bs i 1

/-- A number of `8 * n` bits read as two's complement. -/
def asSigned (n v : Nat) : Int := if 2 * v < 256 ^ n then (v : Int) else (v : Int) - ((256 ^ n : Nat) : Int)

/-- The byte string cut into whole pieces of `n` bytes, at most `k` of them. -/
def chunks (n : Nat) : Nat → List Byte → List (List Byte)
  | 0, _ => []
  | k + 1, bs => if bs.length < n then [] else bs.take n :: chunks n k (bs.drop n)

/-- One bit of the CRC register (R184): shift, and take in the polynomial 1021 (hex). -/
def crcShift (r : BitVec 16) : BitVec 16 :=
  if r.msb then (r <<< 1) ^^^ 0x1021#16 else r <<< 1

/-- One byte into the CRC register, most significant bit first. -/
def crcByte (r : BitVec 16) (b : Byte) : BitVec 16 :=
  (List.range 8).foldl (fun x _ => crcShift x) (r ^^^ ((b.setWidth 16) <<< 8))

/-- CRC-16: x^16 + x^12 + x^5 + 1, the register starts at FFFF (hex), no inversion (R184). -/
def crc16 (bs : List Byte) : BitVec 16 := bs.foldl crcByte 0xFFFF#16

/-! ### Runs -/

/-- The maximal runs of true places, from place `i` on; `cur` is the left end of a run still growing. -/
def runsFrom : Nat → Option Nat → List Bool → List Run
  | _, none, [] => []
  | i, some a, [] => [⟨a, i - 1⟩]
  | i, none, b :: t => if b then runsFrom (i + 1) (some i) t else runsFrom (i + 1) none t
  | i, some a, b :: t => if b then runsFrom (i + 1) (some a) t else ⟨a, i - 1⟩ :: runsFrom (i + 1) none t

/-- The maximal runs of true places of a list, left to right. -/
def runsOf (bs : List Bool) : List Run := runsFrom 0 none bs

/-- Cells in a run. -/
def Run.width (r : Run) : Nat := r.right + 1 - r.left

/-- The cells of a run, left to right. -/
def Run.cells (r : Run) : List Nat := (List.range r.width).map (r.left + ·)

/-- A segment touches a run of the match set: overlap, or adjacency directly or diagonally (R65). -/
def Run.touches (seg r : Run) : Bool := r.left ≤ seg.right + 1 && seg.left ≤ r.right + 1

/-- The union of two extents (R69). -/
def Run.union (a b : Run) : Run := ⟨min a.left b.left, max a.right b.right⟩

/-- A run put into a list kept in left-to-right order. -/
def insertRun (r : Run) : List Run → List Run
  | [] => [r]
  | x :: t => if r.left ≤ x.left then r :: x :: t else x :: insertRun r t

/-- Two lists of runs joined in left-to-right order (R69). -/
def joinRuns (a b : List Run) : List Run := a.foldr insertRun b

/-- The segments of a line: its maximal runs of OCCUPIED cells (R64). -/
def segmentsOf (m : Marks) : List Run := runsOf (m.toList.map (· == .occupied))

/-- The mark of a belt cell; a cell number off the belt has none. -/
def markAt (m : Marks) (cell : Nat) : Option Mark := m.toList[cell]?

/-- Is this cell number a belt cell marked OCCUPIED? -/
def occupiedAt (m : Marks) (cell : Nat) : Bool := markAt m cell == some .occupied

/-- How many belt cells carry the mark OCCUPIED. -/
def occupiedCount (m : Marks) : Nat := (m.toList.filter (· == .occupied)).length

end Sys2Proof.Machine
end

