-- ==== Sys2Proof/Machine/Flags.lean ====
section
/-! DEFINITION. The codes and weights in which states, flags and marks travel (spec/10 section 10.8, spec/05 R95, spec/06
section 6.2), and what is read from a set of flags. -/
namespace Sys2Proof.Machine

/-- A mark as a number. -/
def bit (b : Bool) (weight : Nat) : Nat := if b then weight else 0

/-- No flag set. -/
def PieceFlags.none : PieceFlags := ⟨false, false, false, false, false, false, false, false, false⟩

/-- The union of two flag sets (R69). -/
def PieceFlags.union (a b : PieceFlags) : PieceFlags :=
  ⟨a.edge || b.edge, a.disturbed || b.disturbed, a.gapfill || b.gapfill, a.merged || b.merged,
   a.long || b.long, a.continued || b.continued, a.clipped || b.clipped, a.limited || b.limited,
   a.queueFull || b.queueFull⟩

/-- The flag set as a number (R95). -/
def PieceFlags.number (f : PieceFlags) : Nat :=
  bit f.edge 1 + bit f.disturbed 2 + bit f.gapfill 4 + bit f.merged 8 + bit f.long 16 +
    bit f.continued 32 + bit f.clipped 64 + bit f.limited 128 + bit f.queueFull 256

/-- The fault flags as a number (spec/10 section 10.8.3). -/
def FaultFlags.number (f : FaultFlags) : Nat :=
  bit f.sensorLost 1 + bit f.beltReversed 2 + bit f.positionExhausted 4 + bit f.airLost 8 +
    bit f.valveFault 16

/-- The flags with one kind set (R174). -/
def FaultFlags.raise (f : FaultFlags) : FaultKind → FaultFlags
  | .sensorLost => { f with sensorLost := true }
  | .beltReversed => { f with beltReversed := true }
  | .positionExhausted => { f with positionExhausted := true }
  | .airLost => { f with airLost := true }
  | .valveFault => { f with valveFault := true }

/-- Is a kind's flag set? -/
def FaultFlags.has (f : FaultFlags) : FaultKind → Bool
  | .sensorLost => f.sensorLost
  | .beltReversed => f.beltReversed
  | .positionExhausted => f.positionExhausted
  | .airLost => f.airLost
  | .valveFault => f.valveFault

/-- Does a fault of this kind halt sorting? (spec/09 section 9.4) -/
def FaultKind.halting : FaultKind → Bool
  | .sensorLost => true
  | .beltReversed => true
  | .positionExhausted => true
  | .airLost => false
  | .valveFault => false

/-- The cause that a halting fault gives an ENGINE notice (R169). -/
def FaultKind.cause : FaultKind → EngCause
  | .sensorLost => .sensorLost
  | .beltReversed => .beltReversed
  | _ => .positionExhausted

def FaultReport.code : FaultReport → Nat
  | .raised .sensorLost => 0
  | .raised .beltReversed => 1
  | .raised .positionExhausted => 2
  | .raised .airLost => 3
  | .raised .valveFault => 4
  | .airRestored => 5

def EngState.code : EngState → Nat
  | .idle => 0 | .survey => 1 | .sorting => 2 | .draining => 3 | .halted => 4

def EngCause.code : EngCause → Nat
  | .sortStart => 0 | .stopDrain => 1 | .stopAbandon => 2 | .drained => 3 | .flush => 4 | .clear => 5
  | .surveyStart => 6 | .surveyEnd => 7 | .sensorLost => 8 | .beltReversed => 9
  | .positionExhausted => 10 | .reset => 11

def ResetKind.code : ResetKind → Nat
  | .none => 0 | .hard => 1 | .soft => 2

def LoadState.code : LoadState → Nat
  | .empty => 0 | .normal => 1 | .dense => 2

def SurveyStatus.code : SurveyStatus → Nat
  | .none => 0 | .running => 1 | .done => 2 | .spoiled => 3 | .aborted => 4

def CapState.code : CapState → Nat
  | .idle => 0 | .ringing => 1 | .post => 2 | .full => 3

def CapMode.code : CapMode → Nat
  | .raw => 0 | .cond => 1

def CapTrigger.code : CapTrigger → Nat
  | .now => 0 | .onClass _ => 1

def airCode : Air → Nat
  | .present => 0 | .lost => 1

def coilCode : Coil → Nat
  | .ok => 0 | .fault => 1

def PieceClass.code : PieceClass → Nat
  | .cls c => c.val | .unresolved => 16 | .overflow => 17

/-- The class byte of CAPTURE_END: that of CAPTURE_ARM, 0 under NOW (spec/10 section 10.8.6). -/
def CapTrigger.classCode : CapTrigger → Nat
  | .now => 0 | .onClass c => c.code

def Dest.code : Dest → Nat
  | .up => 0 | .down => 1 | .pass => 2

/-- The destination of a code; a code above 2 is taken as 2 (R111, R112, R189). -/
def Dest.ofCode : Nat → Dest
  | 0 => .up | 1 => .down | _ => .pass

def PieceOutcome.code : PieceOutcome → Nat
  | .notEjected => 0 | .complete => 1 | .shortfall => 2 | .partialOutcome => 3 | .flushed => 4
  | .abandoned => 5

def RetireReason.index : RetireReason → Nat
  | .fired => 0 | .firedLate => 1 | .truncated => 2 | .recoverMiss => 3 | .airLost => 4
  | .unavailable => 5 | .guardHeld => 6

def Status.code : Status → Nat
  | .ok => 0 | .badLength => 1 | .badId => 2 | .range => 3 | .state => 4 | .busy => 5 | .notReady => 6
  | .duplicate => 7 | .bankBusy => 8 | .incomplete => 9 | .badTarget => 10 | .check => 11
  | .unknownKind => 12

def BankState.code : BankState → Nat
  | .empty => 0 | .loading => 1 | .active => 2 | .retiring => 3

def ValveState.code : ValveState → Nat
  | .closed => 0 | .opened => 1 | .recover => 2 | .disabled => 3 | .faulted => 4

def Served.code : Served → Nat
  | .none => 0 | .entry => 1 | .pulse => 2

def EntryRow.code : EntryRow → Nat
  | .up => 0 | .down => 1 | .guard => 2

def TestOp.code : TestOp → Nat
  | .ge => 0 | .lt => 1 | .inside => 2 | .outside => 3 | .anyBit => 4

/-- The operator of a code; a code above 4 is taken as 4, ANY (R110). -/
def TestOp.ofCode : Nat → TestOp
  | 0 => .ge | 1 => .lt | 2 => .inside | 3 => .outside | _ => .anyBit

/-- Targets: record index 0 to 255, class 256 + c, UNRESOLVED 272 (spec/06 section 6.2). -/
def Target.code : Target → Nat
  | .record i => i.val | .cls c => 256 + c.val | .unresolved => 272

/-- The target of a code; a code above 272 is taken as 272 (R110). -/
def Target.ofCode (c : Nat) : Target :=
  if h : c < 256 then .record ⟨c, h⟩
  else if h2 : c - 256 < 16 then .cls ⟨c - 256, h2⟩
  else .unresolved

/-- Marks of a lane entry: LATE_START 1, SHARED_CUT 2, TRIMMED 4. -/
def Entry.marks (e : Entry) : Nat := bit e.lateStart 1 + bit e.sharedCut 2 + bit e.trimmed 4

/-- The place of a count in the statistics table: the groups in code order, each in the order returned
(spec/11 section 11.3). -/
def Counter.ix : Counter → Fin 57
  | .triggered => 0 | .missing => 1 | .disturbed => 2 | .stray => 3 | .frameErrors => 4
  | .encoderErrors => 5 | .reverseLost => 6
  | .opened => 7 | .absorbed => 8 | .fines => 9 | .finesSuppressed => 10
  | .ofClass (.cls c) => ⟨11 + c.val, by omega⟩
  | .ofClass .unresolved => 27 | .ofClass .overflow => 28 | .chainFaults => 29
  | .ofOutcome o => ⟨30 + o.code, by cases o <;> decide⟩
  | .ofRetire r => ⟨36 + r.index, by cases r <;> decide⟩
  | .placed => 43 | .trimmed => 44 | .droppedFull => 45 | .droppedLate => 46 | .untracked => 47
  | .anonymous => 48
  | .framesGood => 49 | .checkErrors => 50 | .framingErrors => 51 | .gapAborts => 52 | .overruns => 53
  | .noticesLost => 54 | .piecesLost => 55 | .suppressed => 56

/-- First place and number of places of a statistics group by its code; the VALVE group (4) is held by the valve
driver and has none here. -/
def groupPlaces : Nat → Nat × Nat
  | 0 => (0, 7) | 1 => (7, 23) | 2 => (30, 13) | 3 => (43, 6) | 5 => (49, 8) | _ => (0, 0)

/-- The counts of a group the STA holds, in the order returned. -/
def Sta.group (t : Sta) (code : Nat) : List Nat :=
  (t.counts.toList.drop (groupPlaces code).1).take (groupPlaces code).2

/-- The table with one group's counts at 0 (R206, R207). -/
def Sta.clearGroup (t : Sta) (code : Nat) : Sta :=
  ⟨tabulate 57 fun p =>
    if (groupPlaces code).1 ≤ p.val ∧ p.val < (groupPlaces code).1 + (groupPlaces code).2 then 0
    else look t.counts p⟩

/-- One count. -/
def Sta.get (t : Sta) (c : Counter) : Nat := look t.counts c.ix

end Sys2Proof.Machine
end

