-- ==== Sys2Proof/Machine/Ops.lean ====
section
/-! DEFINITION. The named operations that several commands share: counts, settings, slots and pins, notices, the engine
state, the survey's end, the raise of a fault, and the end of pieces by abandon, flush or completion. -/
namespace Sys2Proof.Machine

/-! ### Counts and settings -/

/-- A count raised by an amount; it stops at 4294967295 (R205). -/
def State.count (c : Counter) (n : Nat) (s : State) : State :=
  { s with sta.counts := put s.sta.counts c.ix (satAdd Config.countMax (look s.sta.counts c.ix) n) }

/-- The value in force of a setting of the class IMMEDIATE or IDLE_ONLY. -/
def State.own (s : State) (i : OwnId) : Nat := s.cdu.own.get i

/-! ### The piece table -/

/-- The record in a slot, none when the slot is FREE. -/
def State.piece (s : State) (i : Slot) : Option Piece := look s.seg.slots i

/-- A slot's content replaced. -/
def State.setSlot (s : State) (i : Slot) (p : Option Piece) : State :=
  { s with seg.slots := put s.seg.slots i p }

/-- An occupied slot's record changed; a FREE slot is left FREE. -/
def State.updatePiece (s : State) (i : Slot) (f : Piece → Piece) : State :=
  s.setSlot i ((s.piece i).map f)

/-- Is the slot occupied by a piece in this state? -/
def State.slotIs (s : State) (ph : Phase) (i : Slot) : Bool :=
  match s.piece i with
  | some p => p.phase == ph
  | none => false

/-- The slots in a piece state, in slot order. -/
def State.slotsIn (s : State) (ph : Phase) : List Slot := (List.finRange 256).filter (s.slotIs ph)

/-- How many slots are OPEN (R58). -/
def State.openCount (s : State) : Nat := (s.slotsIn .openPiece).length

/-- How many slots are occupied (R58). -/
def State.occupied (s : State) : Nat := ((List.finRange 256).filter fun i => (s.piece i).isSome).length

/-- The lowest-numbered FREE slot (R59). -/
def State.freeSlot? (s : State) : Option Slot := (List.finRange 256).find? fun i => (s.piece i).isNone

/-! ### Pins -/

/-- A bank's record changed. -/
def State.updateBank (s : State) (b : BankId) (f : Bank → Bank) : State :=
  { s with rcs.banks := put s.rcs.banks b (f (look s.rcs.banks b)) }

/-- One bank. -/
def State.bank (s : State) (b : BankId) : Bank := look s.rcs.banks b

/-- The bank in a state, the lower number first. -/
def State.bankIn (s : State) (st : BankState) : Option BankId :=
  [(0 : BankId), 1].find? fun b => (s.bank b).state == st

/-- One pin more (R116). -/
def Bank.pin (b : Bank) : Bank := { b with pins := b.pins + 1 }

/-- One pin less; a RETIRING bank whose count falls to 0 becomes EMPTY (R116, R117). -/
def Bank.unpin (b : Bank) : Bank :=
  if b.state = .retiring ∧ b.pins - 1 = 0 then Bank.blank else { b with pins := b.pins - 1 }

/-! ### Notices -/

/-- Is this a PIECE notice? -/
def Notice.isPiece : Notice → Bool
  | .piece _ _ _ _ => true
  | _ => false

/-- Is a weight of NOTICE_MASK set? (spec/10 section 10.7) -/
def State.masked (s : State) (weight : Nat) : Bool := s.own .noticeMask / weight % 2 == 1

/-- The weight that suppresses a notice: LOAD 2, FINES 4. -/
def State.suppresses (s : State) : Notice → Bool
  | .load _ _ _ _ _ => s.masked 2
  | .fines _ => s.masked 4
  | _ => false

/-- A notice placed at the newest end of the queue. -/
def State.enqueueNotice (s : State) (n : Notice) : State :=
  { s with lnk.notices := s.lnk.notices ++ [n] }

/-- A notice other than PIECE is offered: suppressed by NOTICE_MASK, placed, or lost (R194). -/
def State.offer (n : Notice) (s : State) : State :=
  if s.suppresses n then s.count .suppressed 1
  else if s.lnk.notices.length < Config.noticeMax then s.enqueueNotice n
  else s.count .noticesLost 1

/-- A PIECE notice is offered: suppressed, dropped as lost, or placed in its form with the pending lost count
(R195). -/
def State.offerPiece (p : Piece) (o : PieceOutcome) (s : State) : State :=
  if s.masked 1 then s.count .suppressed 1
  else if Config.pieceNoticeMax ≤ s.lnk.notices.length then
    let t := s.count .piecesLost 1
    { t with lnk.pendingLost := satAdd 65535 t.lnk.pendingLost 1 }
  else
    let t := s.enqueueNotice
      (.piece (s.lnk.notices.length < s.own .thinLevel) p o s.lnk.pendingLost)
    { t with lnk.pendingLost := 0 }

/-! ### Engine state -/

/-- The engine state changes with one ENGINE notice; a change to the state it is in is none (R169). -/
def State.setEngine (new : EngState) (cause : EngCause) (s : State) : State :=
  if s.eng.state = new then s
  else ({ s with eng.state := new }).offer
    (.engine s.eng.state new cause s.eng.flags s.bpu.pos .none)

/-- In DRAINING with no slot occupied the engine becomes IDLE, cause DRAINED (R173). -/
def State.judgeDrained (s : State) : State :=
  if s.eng.state = .draining ∧ s.occupied = 0 then s.setEngine .idle .drained else s

/-! ### The end of a piece -/

/-- A slot becomes FREE and its pin is released (R58, R116, R117). -/
def State.releaseSlot (i : Slot) (s : State) : State :=
  match s.piece i with
  | none => s
  | some p => (s.setSlot i none).updateBank p.bank Bank.unpin

/-- A slot is freed and the freeing made known to the Engine Control (R58, R173). -/
def State.freeSlot (i : Slot) (s : State) : State := (s.releaseSlot i).judgeDrained

/-- A piece in flight is ended with an outcome the event sets: counted, reported, freed, unpinned (R83, R84, R103,
R104, R166). The freeing is judged by the caller. -/
def State.endPiece (o : PieceOutcome) (i : Slot) (s : State) : State :=
  match s.piece i with
  | none => s
  | some p => (((s.count (.ofOutcome o) 1).offerPiece p o).releaseSlot i)

/-- The slots the classifier holds: the walk's first, then the queue from its oldest end (R103). -/
def Cls.held (c : Cls) : List Slot := (c.walk.map Walk.slot).toList ++ c.queue

/-- Every piece of a list ends ABANDONED, each freeing judged (R83, R104). -/
def State.abandonAll (is : List Slot) (s : State) : State :=
  is.foldl (fun t i => (t.endPiece .abandoned i).judgeDrained) s

/-- Every piece of a list ends FLUSHED; FLUSH judges the engine state once, at its end (R84, R103, R166, R179). -/
def State.flushAll (is : List Slot) (s : State) : State :=
  is.foldl (fun t i => t.endPiece .flushed i) s

/-- The segmenter abandons its OPEN pieces in slot order (R83). -/
def State.abandonOpen (s : State) : State := s.abandonAll (s.slotsIn .openPiece)

/-- The classifier abandons the pieces it holds (R104). -/
def State.abandonClassifier (s : State) : State :=
  State.abandonAll s.cls.held { s with cls := { queue := [], walk := none } }

/-! ### The survey's end and the raise of a fault -/

/-- A survey leaves RUNNING with a status and no results; its accumulators are discarded (R49, R50). -/
def State.stopSurvey (st : SurveyStatus) (s : State) : State :=
  { s with blt.status := st, blt.acc := SurveyAcc.zero }

/-- A running survey ends ABORTED: SURVEY_END, then the engine returns to IDLE (R50, R176). -/
def State.abortSurvey (cause : EngCause) (s : State) : State :=
  let good := s.blt.acc.good
  (((s.stopSurvey .aborted).offer (.surveyEnd .aborted good)).setEngine .idle cause)

/-- The fault flag of a kind set (R174). -/
def State.flag (k : FaultKind) (s : State) : State := { s with eng.flags := s.eng.flags.raise k }

/-- A halting fault in SORTING or DRAINING: FAULT notice, ENGINE notice, then the OPEN, WALKING and QUEUED pieces
are abandoned (R175). -/
def State.haltBy (k : FaultKind) (s : State) : State :=
  let t := s.flag k
  let u := (t.offer (.fault (.raised k) .halted t.eng.flags t.bpu.pos)).setEngine .halted k.cause
  u.abandonOpen.abandonClassifier

/-- A fault is raised to the Engine Control (R174 to R177). -/
def State.raiseFault (k : FaultKind) (s : State) : State :=
  if k.halting ∧ (s.eng.state = .sorting ∨ s.eng.state = .draining) then s.haltBy k
  else if k = .sensorLost ∧ s.eng.state = .survey then
    let t := s.flag k
    (t.offer (.fault (.raised k) .idle t.eng.flags t.bpu.pos)).abortSurvey .sensorLost
  else
    let t := s.flag k
    t.offer (.fault (.raised k) t.eng.state t.eng.flags t.bpu.pos)

/-! ### Completion -/

/-- Every dropped tally is 0. -/
def Tallies.noDrops (t : Tallies) : Bool :=
  t.dropUnavailable == 0 && t.dropFull == 0 && t.dropLate == 0 && t.dropRecoverMiss == 0 &&
    t.dropAirLost == 0

/-- The outcome of a completed piece from its destination and tallies (R164). -/
def Tallies.outcome (t : Tallies) (d : Dest) : PieceOutcome :=
  if d = .pass ∧ t.planned = 0 then .notEjected
  else if t.trimmed = 0 ∧ t.firedLate = 0 ∧ t.truncated = 0 ∧ t.noDrops then .complete
  else if d ≠ .pass ∧ t.fired = 0 ∧ t.firedLate = 0 ∧ t.truncated = 0 then .shortfall
  else .partialOutcome

/-- A piece whose pending-entry count is 0 completes: its report offered or suppressed, its class and outcome
counted, its slot freed (R164, R165). A slot without a classified piece has nothing to complete. -/
def State.complete (i : Slot) (s : State) : State :=
  match s.piece i with
  | none => s
  | some p =>
    match p.classed with
    | none => s
    | some c =>
      let o := p.tallies.outcome c.dest
      let t := if c.terms.report then s.offerPiece p o else s.count .suppressed 1
      (((t.count (.ofClass c.cls) 1).count (.ofOutcome o) 1).freeSlot i)

/-- The piece of a slot completes when no lane entry names it any more (R130, R135, R163). -/
def State.completeIfDone (i : Slot) (s : State) : State :=
  match s.piece i with
  | some p => if p.phase = .scheduled ∧ p.pendingEntries = 0 then s.complete i else s
  | none => s

end Sys2Proof.Machine
end

