-- ==== Sys2Proof/Machine/Drive.lean ====
section
/-! DEFINITION. Lane entries and valves as the Valve Driver handles them (spec/08): retirement, opening, closing and
bridging, the judgment of a valve, the leads, GUARD entries and taking a valve out of service. -/
namespace Sys2Proof.Machine

/-! ### Lanes -/

/-- The schedule of a lane. -/
def State.lane (s : State) (l : Lane) : List Entry := look s.lsc.lanes l

/-- A lane's schedule replaced. -/
def State.setLane (s : State) (l : Lane) (es : List Entry) : State :=
  { s with lsc.lanes := put s.lsc.lanes l es }

/-- An entry put at the place its start position gives it (R139). -/
def insertEntry (e : Entry) : List Entry → List Entry
  | [] => [e]
  | x :: t => if e.start ≤ x.start then e :: x :: t else x :: insertEntry e t

/-- An entry of a lane exchanged for another in the same place. -/
def exchange (old new : Entry) (es : List Entry) : List Entry := es.map fun x => if x = old then new else x

/-- The entry that follows another in start order (R153). -/
def nextAfter (es : List Entry) (e : Entry) : Option Entry := es.find? fun x => e.start < x.start

/-- All entries of all lanes together (STATUS, spec/10 section 10.8.3). -/
def State.entryTotal (s : State) : Nat := (s.lsc.lanes.toList.map List.length).sum

/-- The owner of an entry has its record changed; an anonymous entry has no owner (R144). -/
def State.tallyOwner (owner : Option (Slot × PieceNo)) (f : Piece → Piece) (s : State) : State :=
  match owner with
  | some o => s.updatePiece o.1 f
  | none => s

/-- The piece that an entry names completes when no entry names it any more (R135, R163). -/
def State.ownerDone (owner : Option (Slot × PieceNo)) (s : State) : State :=
  match owner with
  | some o => s.completeIfDone o.1
  | none => s

/-- The tallies with one raised for a retire reason (R163). -/
def Tallies.retired (t : Tallies) : RetireReason → Tallies
  | .fired => { t with fired := t.fired + 1 }
  | .firedLate => { t with firedLate := t.firedLate + 1 }
  | .truncated => { t with truncated := t.truncated + 1 }
  | .guardHeld => { t with guardHeld := t.guardHeld + 1 }
  | .recoverMiss => { t with dropRecoverMiss := t.dropRecoverMiss + 1 }
  | .airLost => { t with dropAirLost := t.dropAirLost + 1 }
  | .unavailable => { t with dropUnavailable := t.dropUnavailable + 1 }

/-- A piece loses one of its entries to retirement. -/
def Piece.retireOne (r : RetireReason) (p : Piece) : Piece :=
  { p with tallies := p.tallies.retired r, pendingEntries := p.pendingEntries - 1 }

/-- An entry retires with a reason: it leaves its lane, the reason is counted, its owner is tallied and completes
with its last entry (R163). -/
def State.retire (l : Lane) (e : Entry) (r : RetireReason) (s : State) : State :=
  let t := (s.setLane l ((s.lane l).erase e)).count (.ofRetire r) 1
  (t.tallyOwner e.owner (Piece.retireOne r)).ownerDone e.owner

/-! ### Valves -/

/-- One valve of a pair. -/
def ValvePair.get (p : ValvePair) : Row → Valve
  | .up => p.up | .down => p.down

/-- A pair with one valve replaced. -/
def ValvePair.put (p : ValvePair) (r : Row) (v : Valve) : ValvePair :=
  match r with
  | .up => { p with up := v }
  | .down => { p with down := v }

/-- The record of a valve. -/
def State.valve (s : State) (l : Lane) (r : Row) : Valve := (look s.vdr.valves l).get r

/-- A valve output is open only while its valve is in state OPEN (R151). -/
def Valve.isOpen (v : Valve) : Bool := v.state == .opened

/-- Is a valve in service for new entries? (R126) -/
def Valve.available (v : Valve) : Bool := v.state != .disabled && v.state != .faulted

/-- A valve record replaced; a change of its output goes out on the valve bus (R151). -/
def State.setValve (l : Lane) (r : Row) (v : Valve) (s : State) : State :=
  let t := { s with vdr.valves := put s.vdr.valves l ((look s.vdr.valves l).put r v) }
  if (s.valve l r).isOpen = v.isOpen then t
  else { t with vdr.busWrites := t.vdr.busWrites ++ [⟨l, r, v.isOpen⟩] }

/-- A valve with its timers stopped and nothing served. -/
def Valve.idleIn (v : Valve) (st : ValveState) : Valve :=
  { v with state := st, served := .none, maxOn := none, minOff := none, pulse := none }

/-- A valve at the end of a blast: RECOVER under MIN_OFF_US in force, or straight through it to CLOSED when that is
0 (R153, R155). -/
def Valve.recovering (v : Valve) (minOff : Nat) : Valve :=
  if minOff = 0 then v.idleIn .closed else { v.idleIn .recover with minOff := some minOff }

/-- A valve enters RECOVER. -/
def State.enterRecover (l : Lane) (r : Row) (s : State) : State :=
  s.setValve l r ((s.valve l r).recovering (s.own .minOff))

/-- Is an entry of this row of a lane? -/
def Entry.inRow (e : Entry) (r : Row) : Bool := e.row == EntryRow.ofRow r

/-- The entries of a valve's row, in start order (R150). -/
def State.rowEntries (s : State) (l : Lane) (r : Row) : List Entry := (s.lane l).filter (·.inRow r)

/-- The ACTIVE entry of a lane and row. -/
def State.activeEntry (s : State) (l : Lane) (r : Row) : Option Entry := (s.rowEntries l r).find? (·.active)

/-- The first PENDING entry of a valve's row (R150). -/
def State.firstPending (s : State) (l : Lane) (r : Row) : Option Entry :=
  (s.rowEntries l r).find? fun e => !e.active

/-- The open trigger, start minus lead_open, is reached (R149). -/
def State.openReached (s : State) (e : Entry) : Bool := e.start ≤ s.bpu.pos + s.vdr.leadOpen

/-- The close trigger, end minus lead_close, is reached (R149). -/
def State.closeReached (s : State) (e : Entry) : Bool := e.stop ≤ s.bpu.pos + s.vdr.leadClose

/-- The first PENDING entry of a valve's row whose close trigger is reached (R150, step 2). -/
def State.missedPending (s : State) (l : Lane) (r : Row) : Option Entry :=
  (s.rowEntries l r).find? fun e => !e.active && s.closeReached e

/-- A CLOSED valve opens for an entry, on time or late (R152, R155, R157). -/
def State.openFor (l : Lane) (r : Row) (e : Entry) (late : Bool) (s : State) : State :=
  let v := s.valve l r
  let t := s.setValve l r
    { v with state := .opened, served := .entry, maxOn := some ⟨0, s.own .maxOn⟩,
             actuations := satAdd Config.countMax v.actuations 1 }
  t.setLane l (exchange e { e with active := true, lateStart := e.lateStart || late } (t.lane l))

/-- Does a valve bridge from an entry to the one that follows it? (R153) -/
def State.bridges (s : State) (r : Row) (e n : Entry) : Bool :=
  n.inRow r && !n.active && n.start ≤ e.stop + s.own .mergeGap

/-- The served entry of an OPEN valve closes: it retires FIRED or FIRED_LATE, and the valve bridges to the entry
that follows or enters RECOVER (R153). -/
def State.closeEntry (l : Lane) (r : Row) (e : Entry) (s : State) : State :=
  let next := nextAfter (s.lane l) e
  let t := s.retire l e (if e.lateStart then .firedLate else .fired)
  match next with
  | some n =>
    if s.bridges r e n then t.setLane l (exchange n { n with active := true } (t.lane l))
    else t.enterRecover l r
  | none => t.enterRecover l r

/-- How a judgment marks the entry it opens. `late`: always LATE_START (R155, R157). `ordinary before`: only an entry
opened after the valve passed through a RECOVER of no length in this same event, and only when its open trigger had
been reached before the event, whose position plus lead_open was `before` (R155, log entry 14). -/
inductive Opening where
  | ordinary (before : Nat)
  | late
  deriving DecidableEq, Repr

/-- The mark for an entry; `passed` says that the valve passed through RECOVER in this event. -/
def Opening.marks (o : Opening) (passed : Bool) (e : Entry) : Bool :=
  match o with
  | .late => true
  | .ordinary before => passed && e.start ≤ before

/-- One step of a judgment, the first of R150 that applies, none when none does. The second component says whether
the valve passed through RECOVER to CLOSED in the step. -/
def State.judgeStep (l : Lane) (r : Row) (o : Opening) (passed : Bool) (s : State) : Option (State × Bool) :=
  let miss (reason : RetireReason) :=
    (s.missedPending l r).map fun e => (s.retire l e reason, passed)
  match (s.valve l r).state with
  | .opened =>
    match (s.valve l r).served with
    | .entry =>
      match s.activeEntry l r with
      | some e =>
        if s.closeReached e then
          let t := s.closeEntry l r e
          some (t, passed || (t.valve l r).state == .closed)
        else none
      | none => none
    | .pulse => miss .recoverMiss
    | .none => none
  | .recover => miss .recoverMiss
  | .closed =>
    match s.vdr.air with
    | .lost => miss .airLost
    | .present =>
      match s.firstPending l r with
      | some e => if s.openReached e then some (s.openFor l r e (o.marks passed e), passed) else none
      | none => none
  | .disabled => none
  | .faulted => none

/-- The steps of a judgment repeated until none applies, at most `fuel` times. -/
def State.judgeLoop (l : Lane) (r : Row) (o : Opening) : Nat → Bool → State → State
  | 0, _, s => s
  | fuel + 1, passed, s =>
    match s.judgeStep l r o passed with
    | some (t, p) => State.judgeLoop l r o fuel p t
    | none => s

/-- A valve is judged (R150). Each step retires an entry of the lane or opens one that the next steps retire, so
twice the lane's entries are steps enough. -/
def State.judge (l : Lane) (r : Row) (o : Opening) (s : State) : State :=
  s.judgeLoop l r o (2 * (s.lane l).length + 2) false

/-- Every valve is judged, in lane order, UP before DOWN (log entry 8). -/
def State.judgeAll (o : Opening) (s : State) : State :=
  valveOrder.foldl (fun t v => t.judge v.1 v.2 o) s

/-- Position plus lead_open as they stand: what a judgment in this event compares with (R155). -/
def State.openReach (s : State) : Nat := s.bpu.pos + s.vdr.leadOpen

/-! ### Leads -/

/-- lead_open at a speed, rounded up (R149). -/
def leadOpenAt (delay speed : Nat) : Nat := ceilDiv (delay * speed) 1000000

/-- lead_close at a speed, floored (R149). -/
def leadCloseAt (delay speed : Nat) : Nat := delay * speed / 1000000

/-- The leads computed anew from the speed estimate in force, and every valve judged (R149, R150). -/
def State.computeLeads (s : State) : State :=
  State.judgeAll (.ordinary s.openReach)
    { s with vdr.leadOpen := leadOpenAt (s.own .openDelay) s.bpu.speed,
             vdr.leadClose := leadCloseAt (s.own .closeDelay) s.bpu.speed }

/-! ### GUARD entries -/

/-- The GUARD entries of a lane whose end the belt position has reached (R160). -/
def State.heldGuards (s : State) (l : Lane) : List Entry :=
  (s.lane l).filter fun e => e.row == .guard && e.stop ≤ s.bpu.pos

/-- Every such GUARD entry retires GUARD_HELD, in lane order. -/
def State.retireGuards (s : State) : State :=
  (List.finRange 48).foldl
    (fun t l => (t.heldGuards l).foldl (fun u e => u.retire l e .guardHeld) t) s

/-! ### Out of service -/

/-- Every entry of a valve's row retires UNAVAILABLE, the ACTIVE one first (R158). -/
def State.retireRow (l : Lane) (r : Row) (s : State) : State :=
  let es := s.rowEntries l r
  (es.filter (·.active) ++ es.filter fun e => !e.active).foldl
    (fun t e => t.retire l e .unavailable) s

/-- A valve is taken out of service as DISABLED or FAULTED: output closed, timers stopped, entries retired (R158,
R159). -/
def State.takeOut (l : Lane) (r : Row) (st : ValveState) (s : State) : State :=
  (s.setValve l r ((s.valve l r).idleIn st)).retireRow l r

end Sys2Proof.Machine
end

