-- ==== Sys2Proof/Machine/Operands.lean ====
section
/-! DEFINITION. How a request is taken from the inbound queue and answered (R187), the body lengths of spec/10 section
10.8.5, and the layouts of frames, replies and notices (spec/10 section 10.8). -/
namespace Sys2Proof.Machine

/-! ### Taking a request -/

/-- Is this a request kind, 01 to 1E (hex)? (spec/10 section 10.8.1) -/
def isRequestKind (k : Nat) : Bool := 1 ≤ k && k ≤ 0x1E

/-- Does the layout of a request kind allow this body length? (spec/10 section 10.8.5) -/
def bodyFits (kind n : Nat) : Bool :=
  match kind with
  | 0x03 => n % 6 == 0 && 6 ≤ n && n ≤ 192
  | 0x04 => n % 2 == 0 && 2 ≤ n && n ≤ 64
  | 0x08 => n == 1
  | 0x0C => n == 2
  | 0x0F => n == 3
  | 0x10 => 3 ≤ n && (n - 3) % 4 == 0 && n ≤ 387
  | 0x12 => 11 ≤ n && (n - 1) % 10 == 0
  | 0x13 => 7 ≤ n && n % 7 == 0
  | 0x14 => n == 10
  | 0x17 => n == 1
  | 0x18 => n == 3
  | 0x19 => n == 6
  | 0x1B => n == 5
  | 0x1D => n == 2
  | 0x1E => n == 2
  | _ => n == 0

/-- What the owning block makes of a request: the state after it, the status and the reply data (R187). -/
structure Answer where
  state : State
  status : Status
  data : List Byte

/-- A request refused: nothing changes (R187). -/
def State.refuse (s : State) (st : Status) (data : List Byte) : Answer := ⟨s, st, data⟩

/-- A request taken. -/
def State.accept (s : State) (data : List Byte) : Answer := ⟨s, .ok, data⟩

/-- May the link unit take a request now? A reply place is free and no soft reset is pending (R187, R180). -/
def State.mayTake (s : State) : Bool :=
  s.lnk.replies.length < Config.linkQueueMax && !s.eng.resetPending

/-- The reply to a frame appended to the reply queue (R187). -/
def Answer.reply (a : Answer) (f : Frame) : State :=
  { a.state with
    lnk.replies := a.state.lnk.replies ++ [{ tag := f.tag, kind := f.kind, status := a.status, data := a.data }] }

/-- The oldest frame leaves the inbound queue and is answered (R187). -/
def State.takeFrame (f : Frame) (rest : List Frame) (act : List Byte → State → Answer) (s : State) : State :=
  (act f.body { s with lnk.inbound := rest }).reply f

/-- A request of a kind, its body length judged before anything else (R187). -/
def judgedLength (kind : Nat) (act : List Byte → State → Answer) (body : List Byte) (s : State) : Answer :=
  if bodyFits kind body.length then act body s else s.refuse .badLength []

/-- The event of taking a request of one kind (R187). It comes about when the oldest frame of the inbound queue is of
that kind, `mine` says that it is this row's (two rows share some kinds, log entry 18), and the link unit may take a
request; otherwise frames wait and nothing changes. -/
def State.takeRequest (kind : Nat) (mine : List Byte → Bool) (act : List Byte → State → Answer) (s : State) :
    Host.Outcome State Fault Refusal :=
  match s.lnk.inbound with
  | [] => .next s
  | f :: rest =>
    if s.mayTake ∧ f.kind.toNat = kind ∧ mine f.body then
      .next (s.takeFrame f rest (judgedLength kind act))
    else .next s

/-- Every frame of a kind that only one row takes. -/
def anyBody (_ : List Byte) : Bool := true

/-- A row that shares its request kind: the frames whose byte `i` is not the other row's value, and the frames whose
length the layout does not allow (log entry 18). -/
def notOther (n i other : Nat) (body : List Byte) : Bool := body.length != n || byteAt body i != other

/-! ### Notices -/

/-- A two-byte field that saturates (spec/10 section 10.8.2). -/
def sat16 (n : Nat) : List Byte := toBytes 2 (min n 65535)

/-- Lines spanned, from the first line to the last inclusive (spec/04 section 4.2, R74); 0 before there are both. -/
def Piece.spanned (p : Piece) : Nat :=
  match p.first, p.last with
  | some f, some l => (l.1 - f.1).toNat + 1
  | _, _ => 0

/-- First line, last line and extents of a record, when it has them all: the part that the EXTENTS mark of a notice is
about (spec/10 section 10.8.2, log entry 17). -/
def Piece.extents? (p : Piece) : Option ((SeqNo × Nat) × (SeqNo × Nat) × Run) :=
  match p.first, p.last, p.extent with
  | some f, some l, some x => some (f, l, x)
  | _, _, _ => none

/-- The tallies in the order of the PIECE notice. -/
def Tallies.list (t : Tallies) : List Nat :=
  [t.planned, t.fired, t.firedLate, t.truncated, t.guardHeld, t.trimmed, t.shared, t.dropUnavailable,
   t.dropFull, t.dropLate, t.dropRecoverMiss, t.dropAirLost]

/-- Body of a PIECE notice (spec/10 section 10.8.2). -/
def Piece.noticeBody (full : Bool) (p : Piece) (o : PieceOutcome) (lost : Nat) : List Byte :=
  let head :=
    toBytes 1 (bit full 1) ++ toBytes 4 p.number.toNat ++
    (match p.classed with
      | some c => toBytes 1 c.cls.code ++ toBytes 1 c.dest.code
      | none => toBytes 1 255 ++ toBytes 1 255) ++
    toBytes 1 o.code ++ toBytes 2 p.flags.number ++
    toBytes 1 (bit ((p.classed.map Classification.chainFault).getD false) 1 + bit p.classed.isSome 2 +
      bit p.extents?.isSome 4) ++
    toBytes 2 lost
  let lines :=
    match p.extents? with
    | some (f, l, x) => toBytes 6 f.2 ++ toBytes 6 l.2 ++ toBytes 1 x.left ++ toBytes 1 x.right
    | none => toBytes 14 0
  let classified :=
    match p.classed with
    | some c => (c.features.toList.take 12 ++ (c.features.toList.drop 13).take 2).flatMap (intBytes 2)
    | none => toBytes 28 0
  let steps := (p.classed.map Classification.steps).getD 0
  let tallies := if p.classed.isSome then p.tallies.list.flatMap sat16 else toBytes 24 0
  if full then
    head ++ toBytes 2 p.gen.toNat ++ lines ++ toBytes 4 p.area ++ classified ++ toBytes 1 steps ++
      toBytes 2 p.absorbed ++ tallies
  else head

/-- Number and position of a first or last line in a FINES notice; zeros for a record that has none. -/
def lineBytes (x : Option (SeqNo × Nat)) : List Byte :=
  match x with
  | some l => toBytes 2 l.1.toNat ++ toBytes 6 l.2
  | none => toBytes 8 0

/-- Body of a FINES notice (spec/10 section 10.8.6). The lines and the extents are each given where the record has them
(R79, log entry 17). -/
def Piece.finesBody (p : Piece) : List Byte :=
  toBytes 4 p.number.toNat ++ toBytes 2 p.gen.toNat ++ toBytes 1 (bit p.extents?.isSome 4) ++
    lineBytes p.first ++ lineBytes p.last ++ toBytes 2 p.spanned ++ toBytes 2 p.contributed ++
    toBytes 1 ((p.extent.map Run.left).getD 0) ++ toBytes 1 ((p.extent.map Run.right).getD 0) ++
    toBytes 4 p.area ++ toBytes 2 p.absorbed ++ toBytes 2 p.flags.number

/-- Kind of a notice (spec/10 section 10.7). -/
def Notice.kind : Notice → Nat
  | .piece _ _ _ _ => 0xC1
  | .fines _ => 0xC2
  | .engine _ _ _ _ _ _ => 0xC3
  | .fault _ _ _ _ => 0xC4
  | .surveyEnd _ _ => 0xC5
  | .load _ _ _ _ _ => 0xC6
  | .captureEnd _ _ _ _ _ _ => 0xC7

/-- Body of a notice (spec/10 sections 10.8.2 and 10.8.6). A CAPTURE_END notice whose trigger piece is marked absent
gives 0 as its number (DESIGN CHOICE, log entry 26). -/
def Notice.body : Notice → List Byte
  | .piece full p o lost => p.noticeBody full o lost
  | .fines p => p.finesBody
  | .engine old new cause flags pos kind =>
    toBytes 1 old.code ++ toBytes 1 new.code ++ toBytes 1 cause.code ++ toBytes 1 flags.number ++
      toBytes 6 pos ++ toBytes 1 kind.code
  | .fault k eng flags pos =>
    toBytes 1 k.code ++ toBytes 1 eng.code ++ toBytes 1 flags.number ++ toBytes 6 pos
  | .surveyEnd st good => toBytes 1 st.code ++ toBytes 2 good
  | .load old new permille merges seq =>
    toBytes 1 old.code ++ toBytes 1 new.code ++ toBytes 2 permille ++ toBytes 2 merges ++
      toBytes 2 seq.toNat
  | .captureEnd mode trigger records oldest newest tp =>
    toBytes 1 mode.code ++ toBytes 1 trigger.code ++ toBytes 1 trigger.classCode ++ toBytes 2 records ++
      toBytes 2 oldest.toNat ++ toBytes 2 newest.toNat ++ toBytes 1 (bit tp.isNone 1) ++
      toBytes 4 ((tp.map BitVec.toNat).getD 0)

/-! ### Frames -/

/-- Kind, tag, body length and body of a message (spec/10 section 10.8.1). -/
def frameContent (kind tag : Nat) (body : List Byte) : List Byte :=
  toBytes 1 kind ++ toBytes 1 tag ++ toBytes 2 body.length ++ body

/-- A message as the bytes of one frame, its CRC after the body (R184). -/
def frameBytes (kind tag : Nat) (body : List Byte) : List Byte :=
  let c := frameContent kind tag body
  c ++ toBytes 2 (crc16 c).toNat

/-- The frame of a reply: kind 80 (hex), the request's tag, the request's kind, the status and the data (R187). -/
def Reply.frame (r : Reply) : List Byte :=
  frameBytes 0x80 r.tag.toNat (r.kind :: toBytes 1 r.status.code ++ r.data)

/-- The frame of a notice: its kind and tag 0 (spec/10 section 10.7). -/
def Notice.frame (n : Notice) : List Byte := frameBytes n.kind 0 n.body

end Sys2Proof.Machine
end

