-- ==== Sys2Proof/Machine/Baseline.lean ====
section
/-! DEFINITION. The Baseline Tracker and the belt survey (spec/03): BLT_TAKE_LINE, SURVEY_START, SURVEY_STOP,
SURVEY_RESULT, BASELINE_READ and BASELINE_WRITE. -/
namespace Sys2Proof.Machine

/-! ### Tracking -/

/-- Is belt cell `i` of a line background? (R41; on an EMPTY belt without the guard conditions, R42) -/
def isBackground (load : LoadState) (ln : Line) (i : Nat) : Bool :=
  ln.samples.isSome && !ln.disturbed && markAt ln.marks i == some .vacant &&
    (load == .empty ||
      ((i == 0 || !occupiedAt ln.marks (i - 1)) && !occupiedAt ln.marks (i + 1) &&
        !occupiedAt ln.prevMarks i))

/-- What the tracking update reads of the settings in force. -/
structure TrackSettings where
  thresh : Nat
  len : Nat
  damp : Nat
  maxStep : Nat
  deriving DecidableEq, Repr

/-- The error of a background sample (R44). -/
def baselineError (corrected baseline : Nat) : Int := 16 * (corrected : Int) - (baseline : Int)

/-- A baseline moved by a step, clamped to 0..262143 (R44, R45). -/
def stepBaseline (baseline : Nat) (step : Int) : Nat := (clamp 0 262143 ((baseline : Int) + step)).toNat

/-- The step of a TRACK sample: e ÷ 32 truncated, damped, clamped (R44). -/
def trackStep (t : TrackSettings) (e : Int) : Int :=
  let q := truncDiv e 32
  let m := ((q.natAbs - t.damp : Nat) : Int)
  clamp (-(t.maxStep : Int)) t.maxStep (if e < 0 then -m else m)

/-- The step of a SETTLE sample: e ÷ 2 truncated and clamped (R45). -/
def settleStep (t : TrackSettings) (e : Int) : Int :=
  clamp (-(8 * (t.maxStep : Int))) (8 * (t.maxStep : Int)) (truncDiv e 2)

/-- The settle state after a SETTLE sample taken at a count (R45). -/
def Settle.after (count : Nat) : Settle := if count ≤ 1 then .track else .settle (count - 1)

/-- One background sample on one channel: the new baseline and settle state (R44, R45). -/
def trackSample (t : TrackSettings) (baseline : Nat) (st : Settle) (corrected : Nat) : Nat × Settle :=
  let e := baselineError corrected baseline
  match st with
  | .settle n => (stepBaseline baseline (settleStep t e), Settle.after n)
  | .track =>
    if 16 * t.thresh < e.natAbs then (stepBaseline baseline (settleStep t e), Settle.after t.len)
    else (stepBaseline baseline (trackStep t e), .track)

/-- The tracking settings in force. -/
def State.trackSettings (s : State) : TrackSettings :=
  { thresh := s.own .settleThresh, len := s.own .settleLen, damp := s.own .blDamp, maxStep := s.own .blMaxStep }

/-- One cell and channel after a line: updated from a background sample, else as it was. -/
def trackAt (t : TrackSettings) (load : LoadState) (ln : Line) (blt : Blt) (i : Fin 96) (k : Chan) :
    Nat × Settle :=
  let b := (look blt.baseline i).get k
  let st := (look blt.settle i).get k
  match ln.samples with
  | some sm =>
    if isBackground load ln i.val then trackSample t b st ((look sm.cells i).corrected.get k) else (b, st)
  | none => (b, st)

/-- The baseline updates of a line (R43 to R46). -/
def State.trackLine (ln : Line) (s : State) : State :=
  { s with
    blt.baseline := tabulate 96 fun i => Quad.make fun k =>
      (trackAt s.trackSettings s.ldm.state ln s.blt i k).1
    blt.settle := tabulate 96 fun i => Quad.make fun k =>
      (trackAt s.trackSettings s.ldm.state ln s.blt i k).2 }

/-! ### Survey -/

/-- Does a line from a frame spoil the survey? (R49) -/
def spoils (limit : Nat) (acc : SurveyAcc) (sm : Samples) : Bool :=
  decide (1 ≤ acc.good) && (List.finRange 96).any fun i => Chan.all.any fun k =>
    decide (limit < absDiff ((look sm.cells i).raw.get k) ((look acc.prev i).get k))

/-- A line counted by the survey (R48). -/
def SurveyAcc.add (acc : SurveyAcc) (sm : Samples) : SurveyAcc :=
  { early := acc.early
    good := acc.good + 1
    target := acc.target
    levelSum := tabulate 96 fun i => Quad.make fun k =>
      (look acc.levelSum i).get k + (look sm.cells i).raw.get k
    stepSum := tabulate 96 fun i => Quad.make fun k =>
      (look acc.stepSum i).get k +
        (if 1 ≤ acc.good then absDiff ((look sm.cells i).raw.get k) ((look acc.prev i).get k) else 0)
    refSum := Quad.make fun k => acc.refSum.get k + (sm.refs.toList.map (·.get k)).sum
    prev := tabulate 96 fun i => (look sm.cells i).raw }

/-- The largest noise figure of a channel over the cells of a window (R52). -/
def largestNoise (noise : Vector (Quad Nat) 96) (snap : LineSettings) (k : Chan) : Nat :=
  (List.finRange 96).foldl
    (fun m i => if snap.inWindow i.val then max m ((look noise i).get k) else m) 0

/-- The recommended OCC_HI of a channel (R52). -/
def recommendedOcc (noise : Vector (Quad Nat) 96) (snap : LineSettings) (k : Chan) : Nat :=
  (clamp 1 2047 (ceilDiv (4 * largestNoise noise snap k * snap.get (.gain k) * (1 + snap.get (.range k))) 32 :
    Nat)).toNat

/-- The results of a survey whose last counted line had a snapshot (R51, R52). -/
def SurveyAcc.results (acc : SurveyAcc) (snap : LineSettings) : SurveyResults :=
  let noise := tabulate 96 fun i => Quad.make fun k => ceilDiv ((look acc.stepSum i).get k) (acc.target - 1)
  { lines := acc.target
    refLevel := Quad.make fun k => (roundNear (acc.refSum.get k : Int) (16 * acc.target)).toNat
    firstCell := snap.windowStart
    lastCell := snap.windowLast
    recommended := Quad.make (recommendedOcc noise snap)
    noise := noise }

/-- The surveyed baseline of every cell and channel (R51). -/
def SurveyAcc.baselines (acc : SurveyAcc) : Vector (Quad Nat) 96 :=
  tabulate 96 fun i => Quad.make fun k =>
    (clamp 0 262143 (roundNear ((16 * (look acc.levelSum i).get k : Nat) : Int) acc.target)).toNat

/-- The survey completes: results written in one change, the engine returns to IDLE, SURVEY_END (R51). -/
def State.completeSurvey (acc : SurveyAcc) (snap : LineSettings) (s : State) : State :=
  let res := acc.results snap
  let t := { s with
    blt := { baseline := acc.baselines, settle := Vector.replicate 96 ⟨.track, .track, .track, .track⟩,
             refLevel := res.refLevel, valid := true, status := .done, acc := SurveyAcc.zero,
             results := some res } }
  (t.setEngine .idle .surveyEnd).offer (.surveyEnd .done acc.target)

/-- A line from a frame taken by the running survey (R48, R49, R51). -/
def State.surveyLine (ln : Line) (sm : Samples) (s : State) : State :=
  if spoils (s.own .surveyStep) s.blt.acc sm then
    ((s.stopSurvey .spoiled).setEngine .idle .surveyEnd).offer (.surveyEnd .spoiled s.blt.acc.good)
  else
    let acc := s.blt.acc.add sm
    if acc.target ≤ acc.good then s.completeSurvey acc ln.snap
    else { s with blt.acc := acc }

/-- A line taken while a survey runs. A line processed before the SURVEY_START is not the survey's (R47, log entry 28),
and makes no baseline update either (R43); a missing line is not counted (R48). -/
def State.surveyTakes (ln : Line) (s : State) : State :=
  if 0 < s.blt.acc.early then { s with blt.acc.early := s.blt.acc.early - 1 }
  else
    match ln.samples with
    | some sm => s.surveyLine ln sm
    | none => s

/-- BLT_TAKE_LINE (R41 to R49, R51): the oldest line handed over feeds the running survey, or in BL_MODE TRACK moves
the baselines. -/
def execBltTakeLine (s : State) : Host.Outcome State Fault Refusal :=
  match s.bltLines with
  | [] => .next s
  | ln :: rest =>
    let t := { s with bltLines := rest }
    if t.blt.status = .running then .next (t.surveyTakes ln)
    else if t.own .blMode = 0 then .next (t.trackLine ln)
    else .next t

/-! ### Requests -/

/-- SURVEY_START (R47). The lines that wait for the tracker were processed before it (log entry 28). -/
def State.surveyStart (body : List Byte) (s : State) : Answer :=
  if s.eng.state ≠ .idle then s.refuse .state []
  else
    let sent := field body 0 2
    let n := clampInto (64, 4096) sent
    let t := { s with
      blt.status := .running
      blt.acc := { SurveyAcc.zero with early := s.bltLines.length, target := n }
      blt.results := none }
    (t.setEngine .survey .surveyStart).accept (toBytes 2 n ++ toBytes 1 (bit (n != sent) 1))

/-- SURVEY_START: the event of taking it. -/
def execSurveyStart (s : State) : Host.Outcome State Fault Refusal :=
  s.takeRequest 0x0C anyBody fun body t => t.surveyStart body

/-- SURVEY_STOP (R50). -/
def State.surveyStop (s : State) : Answer :=
  if s.blt.status = .running then (s.abortSurvey .surveyEnd).accept [] else s.refuse .state []

/-- SURVEY_STOP: the event of taking it. -/
def execSurveyStop (s : State) : Host.Outcome State Fault Refusal :=
  s.takeRequest 0x0D anyBody fun _ t => t.surveyStop

/-- Two bytes for each channel. -/
def quadBytes (n : Nat) (q : Quad Nat) : List Byte := q.toList.flatMap (toBytes n)

/-- SURVEY_RESULT (R53). -/
def State.surveyResult (s : State) : Answer :=
  match s.blt.status, s.blt.results with
  | .done, some r =>
    s.accept (toBytes 2 r.lines ++ quadBytes 2 r.refLevel ++ toBytes 1 r.firstCell ++ toBytes 1 r.lastCell ++
      quadBytes 2 r.recommended ++ r.noise.toList.flatMap (quadBytes 2))
  | _, _ => s.refuse .notReady []

/-- SURVEY_RESULT: the event of taking it. -/
def execSurveyResult (s : State) : Host.Outcome State Fault Refusal :=
  s.takeRequest 0x0E anyBody fun _ t => t.surveyResult

/-- Settle state and settle count as BASELINE_READ gives them: 0 for TRACK (R55). -/
def Settle.bytes : Settle → List Byte
  | .track => toBytes 1 0 ++ toBytes 1 0
  | .settle n => toBytes 1 1 ++ toBytes 1 n

/-- Baseline and settle state of one cell on a channel. -/
def Blt.cellBytes (b : Blt) (k : Chan) (i : Fin 96) : List Byte :=
  toBytes 4 ((look b.baseline i).get k) ++ ((look b.settle i).get k).bytes

/-- The belt cells from a first cell on. -/
def cellsFrom (first count : Nat) : List (Fin 96) :=
  (List.finRange 96).filter fun i => first ≤ i.val && i.val < first + count

/-- BASELINE_READ (R55). -/
def State.baselineRead (body : List Byte) (s : State) : Answer :=
  let first := byteAt body 1
  let count := byteAt body 2
  match Chan.ofIndex (byteAt body 0) with
  | none => s.refuse .range []
  | some k =>
    if 95 < first ∨ count = 0 ∨ 96 < count ∨ 96 < first + count then s.refuse .range []
    else s.accept (toBytes 1 (bit s.blt.valid 1) ++ toBytes 1 (s.own .blMode) ++ toBytes 1 s.blt.status.code ++
      toBytes 2 (s.blt.refLevel.get k) ++ (cellsFrom first count).flatMap (s.blt.cellBytes k))

/-- BASELINE_READ: the event of taking it. -/
def execBaselineRead (s : State) : Host.Outcome State Fault Refusal :=
  s.takeRequest 0x0F anyBody fun body t => t.baselineRead body

/-- The baseline values a BASELINE_WRITE carries, four bytes each, unsigned (log entry 16). -/
def sentBaselines (body : List Byte) : List Nat := (chunks 4 96 (body.drop 3)).map ofBytes

/-- Baselines written to consecutive cells of a channel, their settle states TRACK (R56). -/
def Blt.write (b : Blt) (k : Chan) (first : Nat) (vals : List Nat) : Blt :=
  { b with
    baseline := tabulate 96 fun i =>
      if first ≤ i.val then
        match vals[i.val - first]? with
        | some v => (look b.baseline i).put k v
        | none => look b.baseline i
      else look b.baseline i
    settle := tabulate 96 fun i =>
      if first ≤ i.val && decide (i.val < first + vals.length) then (look b.settle i).put k .track
      else look b.settle i }

/-- BASELINE_WRITE (R56): the state check, then the range check, then the values clamped and written. Outside BL_MODE
MANUAL while a survey runs both refusals of the state check apply, and the model answers STATE (DESIGN CHOICE, log entry
25). -/
def State.baselineWrite (body : List Byte) (s : State) : Answer :=
  let first := byteAt body 1
  let sent := sentBaselines body
  if s.own .blMode ≠ 2 then s.refuse .state []
  else if s.blt.status = .running then s.refuse .busy []
  else
    match Chan.ofIndex (byteAt body 0) with
    | none => s.refuse .range []
    | some k =>
      if 95 < first ∨ sent = [] ∨ 96 < first + sent.length then s.refuse .range []
      else
        let vals := sent.map (min 262143)
        let blt := s.blt.write k first vals
        ({ s with blt := { blt with valid := blt.valid || decide (1 ≤ byteAt body 2) } } : State).accept
          (sent.flatMap fun v => toBytes 4 (min 262143 v) ++ toBytes 1 (bit (decide (262143 < v)) 1))

/-- BASELINE_WRITE: the event of taking it. -/
def execBaselineWrite (s : State) : Host.Outcome State Fault Refusal :=
  s.takeRequest 0x10 anyBody fun body t => t.baselineWrite body

end Sys2Proof.Machine
end

