-- ==== Sys2Proof/Machine/Lines.lean ====
section
/-! DEFINITION. Sensor lines (spec/02): the outstanding-trigger list, missing lines, the conditioning of a matched
frame, and the commands LINE_REQUEST_SEND, SENSOR_FRAME_START and SENSOR_FRAME_END. -/
namespace Sys2Proof.Machine

/-- A processed line is handed to its four takers and its marks become the previous processed line's (R33). -/
def State.handOver (ln : Line) (s : State) : State :=
  { s with
    sli.prevMarks := ln.marks
    bltLines := s.bltLines ++ [ln]
    segLines := s.segLines ++ [ln]
    ldmLines := s.ldmLines ++ [ln]
    capLines := s.capLines ++ [ln] }

/-- The carried occupancy of a missing line (R23). -/
def carriedMarks (snap : LineSettings) (prev : Marks) : Marks :=
  tabulate 96 fun i =>
    if !snap.inWindow i.val then .outside
    else if look prev i = .occupied then .occupied else .vacant

/-- A trigger's line, from its samples and marks. -/
def Trigger.line (t : Trigger) (sm : Option Samples) (marks prev : Marks) : Line :=
  { seq := t.seq, start := t.start, stop := t.stop, snap := t.snap, disturbed := t.disturbed,
    samples := sm, marks := marks, prevMarks := prev }

/-- An entry that has left the list is declared missing: its line is processed without samples, counted, and the
eighth in a run raises SENSOR_LOST (R21, R23, R24). -/
def State.declareMissing (t : Trigger) (s : State) : State :=
  let u := (s.handOver (t.line none (carriedMarks t.snap s.sli.prevMarks) s.sli.prevMarks)).count .missing 1
  let v := { u with sli.missingRun := min 8 (u.sli.missingRun + 1) }
  if u.sli.missingRun = 7 then v.raiseFault .sensorLost else v

/-- The SLI takes a line trigger: snapshot, DISTURBED judgment, a waiting request, and a place in the list, whose
oldest entry is declared missing when it is full (R18, R25, R38). -/
def State.takeTrigger (seq : SeqNo) (start stop : Nat) (s : State) : State :=
  let snap := s.cdu.line
  let disturbed := snap.disturbingValues != s.sli.kept
  let t := { s with sli.kept := snap.disturbingValues }
  let u := if disturbed then t.count .disturbed 1 else t
  let entry : Trigger :=
    { seq := seq, start := start, stop := stop, snap := snap, disturbed := disturbed, requested := false }
  let v :=
    match u.sli.outstanding with
    | [] => u
    | oldest :: rest =>
      if Config.outstandingMax ≤ u.sli.outstanding.length then
        State.declareMissing oldest { u with sli.outstanding := rest }
      else u
  { v with sli.outstanding := v.sli.outstanding ++ [entry] }

/-! ### The sensor frame -/

/-- Bytes of a correct line frame (spec/02 section 2.1). -/
def sensorFrameLength : Nat := 900

/-- The sample of a cell (0 to 111 in cell order) and channel in a line frame. -/
def frameSample (bytes : List Byte) (cell : Nat) (k : Chan) : Nat := field bytes (2 + 2 * (4 * cell + k.index)) 2

/-- The four samples of a cell. -/
def frameCell (bytes : List Byte) (cell : Nat) : Quad Nat := Quad.make (frameSample bytes cell)

/-- Does every sample of the frame lie in 0 to 16383? -/
def samplesInRange (bytes : List Byte) : Bool :=
  (List.range 448).all fun j => decide (field bytes (2 + 2 * j) 2 ≤ 16383)

/-- Is the frame good? (R19) -/
def sensorFrameGood (bytes : List Byte) (framingError : Bool) : Bool :=
  !framingError && bytes.length == sensorFrameLength &&
    (crc16 (bytes.take 898)).toNat == field bytes 898 2 && samplesInRange bytes

/-- The raw samples of the 16 reference cells, L0 to L7 then RT0 to RT7. -/
def frameRefs (bytes : List Byte) : Vector (Quad Nat) 16 :=
  tabulate 16 fun i => frameCell bytes (if i.val < 8 then i.val else 96 + i.val)

/-- The drift of a channel (R28). -/
def driftOf (refs : Vector (Quad Nat) 16) (refLevel : Quad Nat) (k : Chan) : Int :=
  roundNear (((refs.toList.map (·.get k)).sum : Nat) : Int) 16 - (refLevel.get k : Int)

/-- The corrected sample: raw minus drift, clamped, where REFCORR is ON (R28). -/
def correctSample (snap : LineSettings) (refs : Vector (Quad Nat) 16) (refLevel : Quad Nat) (k : Chan)
    (r : Nat) : Nat :=
  if snap.get (.refcorr k) = 1 then (clamp 0 16383 ((r : Int) - driftOf refs refLevel k)).toNat else r

/-- The conditioned sample before the clamp: difference, product and scale (R29). -/
def scaledSample (snap : LineSettings) (k : Chan) (corrected baseline : Nat) : Int :=
  roundNear ((16 * (corrected : Int) - (baseline : Int)) * (snap.get (.gain k) : Int) *
    (1 + (snap.get (.range k) : Int))) 512

/-- The conditioned sample (R29). -/
def conditionSample (snap : LineSettings) (k : Chan) (corrected baseline : Nat) : Int :=
  clamp (-2048) 2047 (scaledSample snap k corrected baseline)

/-- One belt cell conditioned on its four channels (R28, R29). -/
def conditionCell (snap : LineSettings) (refs : Vector (Quad Nat) 16) (refLevel baseline raw : Quad Nat) :
    CellSample :=
  let corrected := Quad.make fun k => correctSample snap refs refLevel k (raw.get k)
  { raw := raw
    corrected := corrected
    cond := Quad.make fun k => conditionSample snap k (corrected.get k) (baseline.get k)
    clipped := Chan.all.any fun k =>
      conditionSample snap k (corrected.get k) (baseline.get k) !=
        scaledSample snap k (corrected.get k) (baseline.get k) }

/-- The samples of a line from a good frame, under its snapshot and the baselines as they stand (R28, R29). -/
def conditionLine (snap : LineSettings) (blt : Blt) (bytes : List Byte) : Samples :=
  let refs := frameRefs bytes
  { refs := refs
    cells := tabulate 96 fun i =>
      conditionCell snap refs blt.refLevel (look blt.baseline i) (frameCell bytes (8 + i.val)) }

/-- Is a belt cell inside the window occupied by its thresholds? (R31) -/
def thresholdMet (snap : LineSettings) (c : Quad Int) : Bool :=
  Chan.all.any fun k =>
    decide ((snap.get (.occHi k) : Int) ≤ c.get k) ||
      (decide (0 < snap.get (.occLo k)) && decide (c.get k ≤ -(snap.get (.occLo k) : Int)))

/-- The occupancy marks of a line from a frame: thresholds, then MIN_RUN (R31, R32). -/
def occupancyMarks (snap : LineSettings) (cells : Vector CellSample 96) : Marks :=
  let met := tabulate 96 fun i => snap.inWindow i.val && thresholdMet snap (look cells i).cond
  let kept := (runsOf met.toList).filter fun r => snap.get .minRun ≤ r.width
  tabulate 96 fun i =>
    if !snap.inWindow i.val then .outside
    else if look met i then
      (if kept.any fun r => decide (r.left ≤ i.val) && decide (i.val ≤ r.right) then .occupied else .cleared)
    else .vacant

/-- The line of a matched entry is processed from its frame; the missing-line run ends (R20, R24). -/
def State.processFrame (t : Trigger) (bytes : List Byte) (s : State) : State :=
  let sm := conditionLine t.snap s.blt bytes
  let u := s.handOver (t.line (some sm) (occupancyMarks t.snap sm.cells) s.sli.prevMarks)
  { u with sli.missingRun := 0 }

/-- A good frame is matched by its number: older entries are declared missing, the matching one is processed, a
frame that matches none is stray (R20). -/
def State.matchFrame (bytes : List Byte) (s : State) : State :=
  let number := field bytes 0 2
  let older := s.sli.outstanding.takeWhile fun t => t.seq.toNat != number
  match s.sli.outstanding.dropWhile fun t => t.seq.toNat != number with
  | [] => s.count .stray 1
  | t :: rest =>
    (older.foldl (fun (u : State) o => u.declareMissing o) { s with sli.outstanding := rest }).processFrame t bytes

/-- The line request of a sequence number: the number and its CRC-16 (R17). -/
def lineRequest (seq : SeqNo) : List Byte :=
  let n := toBytes 2 seq.toNat
  n ++ toBytes 2 (crc16 n).toNat

/-- The oldest waiting request marked as sent. -/
def markRequested : List Trigger → List Trigger
  | [] => []
  | t :: ts => if t.requested then t :: markRequested ts else { t with requested := true } :: ts

/-- LINE_REQUEST_SEND (R17): the oldest waiting request goes out; a request waits while its entry is in the list. -/
def execLineRequestSend (s : State) : Host.Outcome State Fault Refusal :=
  match s.sli.outstanding.find? fun t => !t.requested with
  | none => .next s
  | some t =>
    .next { s with
      sli.outstanding := markRequested s.sli.outstanding
      sli.sentRequests := s.sli.sentRequests ++ [lineRequest t.seq] }

/-- SENSOR_FRAME_START (R17): the receiver leaves waiting for a frame start. Inside a frame, whose end R17 has judged by
then, it changes nothing (DESIGN CHOICE, log entry 5). -/
def execSensorFrameStart (s : State) : Host.Outcome State Fault Refusal :=
  .next { s with sli.inFrame := true }

/-- SENSOR_FRAME_END (R19, R20): the frame is checked and matched. A receiver that waits for a frame start has no
frame to end (R39). -/
def execSensorFrameEnd (bytes : List Byte) (framingError : Bool) (s : State) :
    Host.Outcome State Fault Refusal :=
  if s.sli.inFrame then
    let t := { s with sli.inFrame := false }
    if sensorFrameGood bytes framingError then .next (t.matchFrame bytes)
    else .next (t.count .frameErrors 1)
  else .next s

end Sys2Proof.Machine
end

