-- ==== Sys2Proof/Machine/Belt.lean ====
section
/-! DEFINITION. Belt motion and line timing (spec/01): the commands ENCODER_TRANSITION and SPEED_UPDATE. -/
namespace Sys2Proof.Machine

/-- The pair that follows a pair in the cycle of spec/01 section 1.2, forward under A_LEADS. -/
def nextPair : Bool × Bool → Bool × Bool
  | (false, false) => (true, false)
  | (true, false) => (true, true)
  | (true, true) => (false, true)
  | (false, true) => (false, false)

/-- Is a valid transition forward? The ENC_POLARITY in force decides the sense (R1, R3). -/
def isForward (polarity : Nat) (ref new : Bool × Bool) : Bool :=
  if polarity = 0 then nextPair ref == new else nextPair new == ref

/-- A backward tick (R4, R5). -/
def State.backwardTick (s : State) : State :=
  if s.bpu.debt < 65535 then
    let t := { s with bpu.debt := s.bpu.debt + 1 }
    if s.own .reverseLimit < t.bpu.debt ∧ t.bpu.excursion = false then
      State.raiseFault .beltReversed { t with bpu.excursion := true }
    else t
  else s.count .reverseLost 1

/-- The line timer at a new position: a line trigger where the position is the next-line position and the line fits
below 2^48 − 1 (R12, R14). -/
def State.lineTimer (s : State) : State :=
  let stop := s.bpu.pos + s.cdu.line.get .lineTicks
  if s.bpu.pos = s.bpu.nextLine ∧ stop ≤ Config.posMax then
    State.takeTrigger s.bpu.seq s.bpu.pos stop
      (State.count .triggered 1 { s with bpu.nextLine := stop, bpu.seq := s.bpu.seq + 1 })
  else s

/-- The belt position rises by one: POSITION_EXHAUSTED, the line timer, the valves and the GUARD entries are judged
at the new position (R7, R8, R12, R150, R160; their order in one tick: log entry 8). -/
def State.advance (s : State) : State :=
  let t := { s with bpu.pos := s.bpu.pos + 1 }
  let u := if t.bpu.pos = Config.posMax then t.raiseFault .positionExhausted else t
  (u.lineTimer.judgeAll (.ordinary s.openReach)).retireGuards

/-- A forward tick repays reverse debt, or raises the position while it is below 2^48 − 1 (R7). -/
def State.forwardTick (s : State) : State :=
  if 0 < s.bpu.debt then
    { s with bpu.debt := s.bpu.debt - 1, bpu.excursion := s.bpu.excursion && s.bpu.debt != 1 }
  else if s.bpu.pos < Config.posMax then s.advance
  else s

/-- ENCODER_TRANSITION (R1, R2): the new pair of levels is judged against the reference pair and becomes it. A pair
equal to the reference pair is no transition. -/
def execEncoderTransition (a b : Bool) (s : State) : Host.Outcome State Fault Refusal :=
  let ref := (s.bpu.refA, s.bpu.refB)
  let t := { s with bpu.refA := a, bpu.refB := b }
  if ref = (a, b) then .next s
  else if ref.1 ≠ a ∧ ref.2 ≠ b then .next (t.count .encoderErrors 1)
  else if isForward (s.own .encPolarity) ref (a, b) then .next t.forwardTick
  else .next t.backwardTick

/-- The speed estimate of an advance over 8 ms (R10). -/
def speedOf (advance : Nat) : Nat := min 65535 (advance * 125)

/-- The history with the oldest position removed and the position appended (R10). -/
def shiftHistory (h : Vector Nat 8) (pos : Nat) : Vector Nat 8 :=
  tabulate 8 fun i => if hi : i.val + 1 < 8 then look h ⟨i.val + 1, hi⟩ else pos

/-- SPEED_UPDATE (R10, R149): the estimate from the advance over the last 8 ms, then the leads and the valves. -/
def execSpeedUpdate (s : State) : Host.Outcome State Fault Refusal :=
  .next (State.computeLeads
    { s with bpu.speed := speedOf (s.bpu.pos - look s.bpu.history 0),
             bpu.history := shiftHistory s.bpu.history s.bpu.pos,
             sinceSpeed := 0 })

end Sys2Proof.Machine
end

