-- ==== Sys2Proof/Machine/Features.lean ====
section
/-! DEFINITION. Feature reduction (spec/05 section 5.4): the sixteen features of a closed piece from its record. -/
namespace Sys2Proof.Machine

/-- AREA and CLIPS: a count clamped to 32767 (R91, R95). -/
def capCount (n : Nat) : Nat := min n 32767

/-- The range of a signed 16-bit feature (R94, R95). -/
def clampFeature (v : Int) : Int := clamp (-32768) 32767 v

/-- WIDTH: right cell minus left cell plus 1 (R91). -/
def Piece.widthCells (p : Piece) : Nat := (p.extent.map fun x => x.right + 1 - x.left).getD 0

/-- FILL: AREA × 256 ÷ (LENGTH × WIDTH), floored (R91). -/
def Piece.fill (p : Piece) : Nat := capCount p.area * 256 / (p.spanned * p.widthCells)

/-- The mean of a channel, rounded to nearest (R92). -/
def Piece.mean (p : Piece) (k : Chan) : Int := roundNear (p.sums.get k) p.area

/-- MFRAC: metal cell count × 256 ÷ area, floored (R93). -/
def Piece.mfrac (p : Piece) : Nat := p.metal * 256 / p.area

/-- NDI from the rounded means of the two near-infrared bands (R93). -/
def Piece.ndi (p : Piece) : Int :=
  truncDiv ((p.mean .na - p.mean .nb) * 256) (((p.mean .na).natAbs + (p.mean .nb).natAbs + 1 : Nat) : Int)

/-- SUM_IND before its clamp: the IND sum shifted right by REPORT_SHIFT (R94). -/
def Piece.sumInd (p : Piece) (shift : Nat) : Int := Int.fdiv (p.sums.get .ind) ((2 ^ shift : Nat) : Int)

/-- RATIO_IV before its clamp (R95). -/
def Piece.ratioIv (p : Piece) : Int :=
  truncDiv (p.mean .ind * 64) (((p.mean .vis).natAbs + 1 : Nat) : Int)

/-- Does a clamp change one of AREA, SUM_IND, CLIPS or RATIO_IV? (R90) -/
def Piece.clampActs (p : Piece) (shift : Nat) : Bool :=
  decide (32767 < p.area) || decide (32767 < p.clipped) || clampFeature (p.sumInd shift) != p.sumInd shift ||
    clampFeature p.ratioIv != p.ratioIv

/-- The record with LIMITED set where a clamp acts (R90). -/
def Piece.limit (p : Piece) (shift : Nat) : Piece :=
  { p with flags.limited := p.flags.limited || p.clampActs shift }

/-- The sixteen features of a record, FLAGS computed last from its flags as they stand after LIMITED (R90 to
R95). -/
def Piece.features (p : Piece) (shift : Nat) : Features :=
  #v[(capCount p.area : Int), (p.spanned : Int), (p.widthCells : Int), (p.fill : Int),
     p.mean .ind, p.mean .vis, p.mean .na, p.mean .nb, p.indPeak.getD 0, (p.mfrac : Int), p.ndi,
     clampFeature (p.sumInd shift), ((p.limit shift).flags.number : Int), (capCount p.clipped : Int),
     clampFeature p.ratioIv, 0]

end Sys2Proof.Machine
end

