-- ==== Sys2Proof/Machine/Monitor.lean ====
section
/-! DEFINITION. The Load Monitor, the Line Capture and the Statistics (spec/11): LDM_TAKE_LINE, CAP_TAKE_LINE,
CAPTURE_ARM, CAPTURE_CANCEL, CAPTURE_READ and STATS_READ. -/
namespace Sys2Proof.Machine

/-! ### Load monitor -/

/-- A line added to the current block (R198). -/
def Ldm.add (ln : Line) (d : Ldm) : Ldm :=
  { d with
    lines := d.lines + 1
    occupied := d.occupied + occupiedCount ln.marks
    width := d.width + ln.snap.windowWidth }

/-- The load state judged from a permille with hysteresis (R199). -/
def LoadState.judged (st : LoadState) (permille empty hyst dense : Nat) : LoadState :=
  match st with
  | .empty =>
    if dense < permille ∧ empty + hyst ≤ permille then .dense
    else if empty + hyst ≤ permille then .normal
    else .empty
  | .normal => if permille < empty then .empty else if dense < permille then .dense else .normal
  | .dense =>
    if permille < empty then .empty
    else if (permille : Int) ≤ (dense : Int) - (hyst : Int) then .normal
    else .dense

/-- Occupied tally × 1000 ÷ width tally, floored (R199). -/
def Ldm.blockPermille (d : Ldm) : Nat := d.occupied * 1000 / d.width

/-- The end of a block at its last line (R199). -/
def State.endBlock (seq : SeqNo) (s : State) : State :=
  let p := s.ldm.blockPermille
  let st := s.ldm.state.judged p (s.own .loadEmpty) (s.own .loadHyst) (s.own .loadDense)
  let t := { s with ldm := { state := st, lines := 0, occupied := 0, width := 0, merges := 0, permille := p } }
  if st = s.ldm.state then t else t.offer (.load s.ldm.state st p s.ldm.merges seq)

/-- LDM_TAKE_LINE (R198, R199): the oldest line handed over joins the current block. -/
def execLdmTakeLine (s : State) : Host.Outcome State Fault Refusal :=
  match s.ldmLines with
  | [] => .next s
  | ln :: rest =>
    let t := { s with ldmLines := rest, ldm := s.ldm.add ln }
    if 256 ≤ t.ldm.lines then .next (t.endBlock ln.seq) else .next t

/-! ### Line capture -/

/-- Four values of a cell as samples of a record. -/
def rawSamples (q : Quad Nat) : List Int := q.toList.map fun n => (n : Int)

/-- The samples of a belt cell in a capture mode (R202). -/
def CellSample.captured (mode : CapMode) (c : CellSample) : List Int :=
  match mode with
  | .raw => rawSamples c.raw
  | .cond => c.cond.toList

/-- The 448 samples of a record in the cell and channel order of the line frame (R202). -/
def Samples.captured (mode : CapMode) (sm : Samples) : List Int :=
  (sm.refs.toList.take 8).flatMap rawSamples ++ sm.cells.toList.flatMap (CellSample.captured mode) ++
    (sm.refs.toList.drop 8).flatMap rawSamples

/-- The record of a line (R202). -/
def Line.record (mode : CapMode) (ln : Line) : LineRecord :=
  { seq := ln.seq, start := ln.start, missing := ln.samples.isNone, disturbed := ln.disturbed,
    samples :=
      match ln.samples with
      | some sm => sm.captured mode
      | none => List.replicate 448 0 }

/-- A record at the newest end of the ring; a full ring loses its oldest (R202). -/
def pushRecord (ring : List LineRecord) (r : LineRecord) : List LineRecord :=
  (if Config.ringMax ≤ ring.length then ring.drop 1 else ring) ++ [r]

/-- The capture completes: FULL, and a CAPTURE_END notice (R203). With an empty ring the two sequence numbers are
free values (log entry 15). -/
def State.completeCapture (s : State) : State :=
  let t := { s with cap.state := .full }
  let note (oldest newest : SeqNo) : Notice :=
    .captureEnd s.cap.mode s.cap.trigger s.cap.ring.length oldest newest s.cap.piece
  match s.cap.ring.head?, s.cap.ring.getLast? with
  | some a, some b => t.offer (note a.seq b.seq)
  | _, _ =>
    State.offer (note (Config.emptyRingSeq s.freeIndex) (Config.emptyRingSeq (s.freeIndex + 1)))
      { t with freeIndex := s.freeIndex + 2 }

/-- CAP_TAKE_LINE (R202): the oldest line handed over is recorded in RINGING or POST. -/
def execCapTakeLine (s : State) : Host.Outcome State Fault Refusal :=
  match s.capLines with
  | [] => .next s
  | ln :: rest =>
    let t := { s with capLines := rest }
    let ring := pushRecord s.cap.ring (ln.record s.cap.mode)
    match s.cap.state with
    | .ringing => .next { t with cap.ring := ring }
    | .post =>
      let u := { t with cap.ring := ring, cap.post := s.cap.post - 1 }
      if u.cap.post = 0 then .next u.completeCapture else .next u
    | .idle => .next t
    | .full => .next t

/-- The end of a walk announced with its piece number and class (R101, R203). -/
def State.announce (number : PieceNo) (c : PieceClass) (s : State) : State :=
  if s.cap.state = .ringing ∧ s.cap.trigger = .onClass c then
    let t := { s with cap.piece := some number }
    if s.cap.post = 0 then t.completeCapture else { t with cap.state := .post }
  else s

/-- The class that CAPTURE_ARM names: C0 to C15, or 16 for UNRESOLVED (R201). -/
def armedClass (c : Nat) : PieceClass := if h : c < 16 then .cls ⟨c, h⟩ else .unresolved

/-- What CAPTURE_ARM makes of the capture under NOW (R201). -/
def armNow (mode count : Nat) : Cap :=
  { state := .post, mode := if mode = 0 then .raw else .cond, trigger := .now,
    post := if count = 0 then 256 else count, ring := [], piece := none }

/-- What CAPTURE_ARM makes of the capture under CLASS (R201). -/
def armClass (mode cls count : Nat) : Cap :=
  { state := .ringing, mode := if mode = 0 then .raw else .cond, trigger := .onClass (armedClass cls),
    post := count, ring := [], piece := none }

/-- CAPTURE_ARM (R201): the capture state is judged, then the ranges. -/
def State.captureArm (body : List Byte) (s : State) : Answer :=
  let mode := byteAt body 0
  let trigger := byteAt body 1
  let cls := byteAt body 2
  let count := field body 3 2
  if s.cap.state = .ringing ∨ s.cap.state = .post then s.refuse .busy []
  else if 1 < mode ∨ 1 < trigger ∨ (trigger = 1 ∧ 16 < cls) ∨ 256 < count then s.refuse .range []
  else
    ({ s with cap := if trigger = 0 then armNow mode count else armClass mode cls count } : State).accept []

/-- CAPTURE_ARM with trigger NOW: the event of taking it. -/
def execCaptureArmNow (s : State) : Host.Outcome State Fault Refusal :=
  s.takeRequest 0x1B (notOther 5 1 1) fun body t => t.captureArm body

/-- CAPTURE_ARM with trigger CLASS: the event of taking it. -/
def execCaptureArmClass (s : State) : Host.Outcome State Fault Refusal :=
  s.takeRequest 0x1B (notOther 5 1 0) fun body t => t.captureArm body

/-- CAPTURE_CANCEL (R204): the ring is emptied and the trigger piece forgotten; mode, trigger and post count, of which
R204 says nothing, stay as they stood (DESIGN CHOICE, log entry 27). -/
def State.captureCancel (s : State) : Answer :=
  ({ s with cap.ring := [], cap.piece := none, cap.state := .idle } : State).accept []

/-- CAPTURE_CANCEL: the event of taking it. -/
def execCaptureCancel (s : State) : Host.Outcome State Fault Refusal :=
  s.takeRequest 0x1C anyBody fun _ t => t.captureCancel

/-- A line record as CAPTURE_READ gives it (spec/10 section 10.8.5). -/
def LineRecord.bytes (r : LineRecord) : List Byte :=
  toBytes 2 r.seq.toNat ++ toBytes 6 r.start ++ toBytes 1 (bit r.missing 1 + bit r.disturbed 2) ++
    r.samples.flatMap (intBytes 2)

/-- CAPTURE_READ (R204). -/
def State.captureRead (body : List Byte) (s : State) : Answer :=
  if s.cap.state ≠ .full then s.refuse .notReady []
  else
    match s.cap.ring[field body 0 2]? with
    | none => s.refuse .range []
    | some r =>
      s.accept (toBytes 1 s.cap.mode.code ++ toBytes 2 s.cap.ring.length ++
        toBytes 1 (bit s.cap.piece.isNone 1) ++ toBytes 4 ((s.cap.piece.map BitVec.toNat).getD 0) ++ r.bytes)

/-- CAPTURE_READ: the event of taking it. -/
def execCaptureRead (s : State) : Host.Outcome State Fault Refusal :=
  s.takeRequest 0x1D anyBody fun body t => t.captureRead body

/-! ### Statistics -/

/-- The VALVE group: the actuation counts of the 96 valves, in lane order, UP before DOWN (R162). -/
def State.actuationCounts (s : State) : List Nat := valveOrder.map fun v => (s.valve v.1 v.2).actuations

/-- The counts of a group in the order returned (spec/11 section 11.3). -/
def State.groupCounts (s : State) (code : Nat) : List Nat :=
  if code = 4 then s.actuationCounts else s.sta.group code

/-- STATS_READ (R206): the counts of the group, cleared in the same event under the clear mark; the VALVE group is
never cleared. -/
def State.statsAnswer (body : List Byte) (s : State) : Answer :=
  let code := byteAt body 0
  let mark := byteAt body 1
  if 5 < code ∨ 1 < mark then s.refuse .range []
  else
    (if mark = 1 then { s with sta := s.sta.clearGroup code } else s).accept
      (toBytes 1 code ++ (s.groupCounts code).flatMap (toBytes 4))

/-- STATS_READ with the clear mark clear: the event of taking it. -/
def execStatsRead (s : State) : Host.Outcome State Fault Refusal :=
  s.takeRequest 0x1E (notOther 2 1 1) fun body t => t.statsAnswer body

/-- STATS_READ with the clear mark set: the event of taking it. -/
def execStatsReadClear (s : State) : Host.Outcome State Fault Refusal :=
  s.takeRequest 0x1E (notOther 2 1 0) fun body t => t.statsAnswer body

end Sys2Proof.Machine
end

