-- ==== Sys2Proof/Machine/Segmenter.lean ====
section
/-! DEFINITION. The Segmenter (spec/04): linking, merging, accumulation, the end of a line, and the command
SEG_TAKE_LINE. -/
namespace Sys2Proof.Machine

/-! ### Opening -/

/-- The record of a piece that opens (R59). -/
def Piece.opened (number : PieceNo) (bank : BankId) (gen : Gen) (front : List Run) (continued : Bool) : Piece :=
  { number := number, bank := bank, gen := gen, first := none, last := none, contributed := 0, gap := 0,
    extent := none, area := 0, sums := ⟨0, 0, 0, 0⟩, indPeak := none, metal := 0, clipped := 0,
    absorbed := 0, front := front, received := [],
    flags := { PieceFlags.none with continued := continued }, phase := .openPiece, classed := none,
    pendingEntries := 0, tallies := {} }

/-- A piece opens in the lowest FREE slot, numbered and pinned to the ACTIVE bank, while fewer than 64 slots are
OPEN (R59 to R61, R66, R77). None when a condition fails. -/
def State.openPiece (front : List Run) (continued : Bool) (s : State) : Option (Slot × State) :=
  match s.freeSlot?, s.bankIn .active with
  | some i, some b =>
    if s.openCount < Config.openMax then
      let t := s.setSlot i (some (Piece.opened s.seg.nextNumber b s.rcs.generation front continued))
      some (i, (({ t with seg.nextNumber := t.seg.nextNumber + 1 } : State).updateBank b Bank.pin).count .opened 1)
    else none
  | _, _ => none

/-! ### Accumulation -/

/-- One cell accumulated into a record (R71). -/
def Piece.accumulate (metalThresh : Nat) (cell : Nat) (c : CellSample) (p : Piece) : Piece :=
  { p with
    area := p.area + 1
    sums := Quad.make fun k => p.sums.get k + c.cond.get k
    indPeak := some ((p.indPeak.map fun m => max m c.cond.ind).getD c.cond.ind)
    metal := p.metal + (if (metalThresh : Int) ≤ c.cond.ind then 1 else 0)
    clipped := p.clipped + (if c.clipped then 1 else 0)
    extent := some ((p.extent.map fun x => x.union ⟨cell, cell⟩).getD ⟨cell, cell⟩) }

/-- The sample of a belt cell of a line from a frame. -/
def Samples.at? (sm : Samples) (cell : Nat) : Option CellSample := sm.cells.toList[cell]?

/-- Every cell of a segment accumulated (R71). -/
def Piece.accumulateAll (metalThresh : Nat) (sm : Samples) (seg : Run) (p : Piece) : Piece :=
  seg.cells.foldl (fun q i =>
    match sm.at? i with
    | some c => q.accumulate metalThresh i c
    | none => q) p

/-- The flags that adding a segment sets (R72, R73). -/
def segmentFlags (ln : Line) (seg : Run) : PieceFlags :=
  { PieceFlags.none with
    edge := decide (seg.left ≤ ln.snap.windowStart) || decide (ln.snap.windowLast ≤ seg.right)
    disturbed := ln.disturbed
    gapfill := ln.samples.isNone
    clipped := match ln.samples with
      | some sm => seg.cells.any fun i => ((sm.at? i).map CellSample.clipped).getD false
      | none => false }

/-- A segment is added to a piece (R67, R71 to R73). -/
def Piece.receive (ln : Line) (seg : Run) (p : Piece) : Piece :=
  let q :=
    match ln.samples with
    | some sm => p.accumulateAll (ln.snap.get .metalThresh) sm seg
    | none => p
  { q with
    first := some (p.first.getD (ln.seq, ln.start))
    received := p.received ++ [seg]
    flags := p.flags.union (segmentFlags ln seg) }

/-! ### Merging -/

/-- The first-line start position by which a touched piece is ranked (R68). -/
def Piece.rankStart (ln : Line) (p : Piece) : Nat := (p.first.map Prod.snd).getD ln.start

/-- The survivor of the touched slots, which stand in slot order: the earliest start, the lowest slot among equals
(R68). -/
def State.survivor (ln : Line) (s : State) (i : Slot) (others : List Slot) : Slot :=
  let start (j : Slot) : Nat := ((s.piece j).map (Piece.rankStart ln)).getD ln.start
  others.foldl (fun best j => if start j < start best then j else best) i

/-- The earlier of two first lines, where both exist (R69). -/
def earlierLine (a b : Option (SeqNo × Nat)) : Option (SeqNo × Nat) :=
  match a, b with
  | some x, some y => if y.2 < x.2 then some y else some x
  | some x, none => some x
  | none, y => y

/-- The later of two last lines, where both exist (R69). -/
def laterLine (a b : Option (SeqNo × Nat)) : Option (SeqNo × Nat) :=
  match a, b with
  | some x, some y => if x.2 < y.2 then some y else some x
  | some x, none => some x
  | none, y => y

/-- The larger of two peaks, where both exist (R69). -/
def largerPeak (a b : Option Int) : Option Int :=
  match a, b with
  | some x, some y => some (max x y)
  | some x, none => some x
  | none, y => y

/-- The union of two extents, where both exist (R69). -/
def unionExtent (a b : Option Run) : Option Run :=
  match a, b with
  | some x, some y => some (x.union y)
  | some x, none => some x
  | none, y => y

/-- The record of an absorbed piece combined into the survivor's (R69). -/
def Piece.combine (q p : Piece) : Piece :=
  { p with
    first := earlierLine p.first q.first
    last := laterLine p.last q.last
    contributed := max p.contributed q.contributed
    extent := unionExtent p.extent q.extent
    area := p.area + q.area
    sums := Quad.make fun k => p.sums.get k + q.sums.get k
    metal := p.metal + q.metal
    clipped := p.clipped + q.clipped
    indPeak := largerPeak p.indPeak q.indPeak
    absorbed := satAdd 65535 p.absorbed (q.absorbed + 1)
    flags := { p.flags.union q.flags with merged := true }
    received := joinRuns p.received q.received }

/-- A piece is absorbed into the survivor: records combined, slot freed, pin released, the absorption counted (R69,
R70). -/
def State.absorb (into : Slot) (s : State) (i : Slot) : State :=
  match s.piece i with
  | none => s
  | some q =>
    let t := ((s.updatePiece into (Piece.combine q)).count .absorbed 1).freeSlot i
    { t with ldm.merges := satAdd 65535 t.ldm.merges 1 }

/-! ### Linking -/

/-- A run of the match set with the piece that owns it (R65). -/
structure MatchRun where
  run : Run
  slot : Slot
  deriving DecidableEq, Repr

/-- The match set at the start of a line: every run of the front of every OPEN piece (R65). -/
def State.matchSet (s : State) : List MatchRun :=
  (s.slotsIn .openPiece).flatMap fun i => ((s.piece i).map Piece.front).getD [] |>.map fun r => ⟨r, i⟩

/-- The pieces a segment touches, in slot order (R65). -/
def touchedSlots (seg : Run) (ms : List MatchRun) : List Slot :=
  (List.finRange 256).filter fun i => ms.any fun m => m.slot == i && seg.touches m.run

/-- Linking in progress: the state, the match set, and the untracked segments found so far, left to right. -/
structure Linking where
  state : State
  matches_ : List MatchRun
  untracked : List Run

/-- A segment without a piece is untracked (R82). -/
def Linking.leave (k : Linking) (seg : Run) : Linking :=
  { k with state := k.state.count .untracked seg.width, untracked := k.untracked ++ [seg] }

/-- One segment is linked: it opens a piece, is added to one, merges several, or is untracked (R66 to R68). -/
def Linking.link (ln : Line) (eng : EngState) (k : Linking) (seg : Run) : Linking :=
  match touchedSlots seg k.matches_ with
  | [] =>
    if eng = .sorting ∧ ln.samples.isSome then
      match k.state.openPiece [] false with
      | some (i, t) => { k with state := t.updatePiece i (Piece.receive ln seg) }
      | none => k.leave seg
    else k.leave seg
  | [i] => { k with state := k.state.updatePiece i (Piece.receive ln seg) }
  | i :: others =>
    let into := k.state.survivor ln i others
    let gone := (i :: others).filter fun j => j != into
    { k with
      state := (gone.foldl (State.absorb into) k.state).updatePiece into (Piece.receive ln seg)
      matches_ := k.matches_.map fun m => if gone.contains m.slot then { m with slot := into } else m }

/-! ### End of line -/

/-- A received list as a front of at most eight runs (R74, R75). -/
def coarsen (rs : List Run) : List Run :=
  match rs.drop 7, rs.getLast? with
  | [], _ => rs
  | r :: _, last => rs.take 7 ++ [⟨r.left, (last.map Run.right).getD r.right⟩]

/-- A piece that received cells, at the end of the line (R74, R75). -/
def Piece.settleLine (ln : Line) (p : Piece) : Piece :=
  { p with front := coarsen p.received, gap := 0, last := some (ln.seq, ln.stop),
           contributed := p.contributed + 1, received := [] }

/-- An OPEN piece at the end of a line, and whether it closes: LONG (R77), by its gap (R76), or not. -/
def Piece.endLine (ln : Line) (p : Piece) : Piece × Bool :=
  if p.received = [] then
    if ln.snap.get .gapLines < p.gap + 1 then (p, true) else ({ p with gap := p.gap + 1 }, false)
  else
    let q := p.settleLine ln
    if ln.snap.get .maxPieceLines ≤ q.spanned then ({ q with flags.long := true }, true) else (q, false)

/-- Close order: by first-line start, a piece with no first line after every piece with one (R78). -/
def Piece.closesBefore (p q : Piece) : Bool :=
  match p.first, q.first with
  | some a, some b => a.2 ≤ b.2
  | some _, none => true
  | none, some _ => false
  | none, none => true

/-- A closing piece put into a list kept in close order; equal pieces stand in slot order. -/
def insertCloser (x : Slot × Piece) : List (Slot × Piece) → List (Slot × Piece)
  | [] => [x]
  | y :: t => if x.2.closesBefore y.2 then x :: y :: t else y :: insertCloser x t

/-- The pieces that close at the end of a line, in close order (R76 to R78). -/
def State.closers (ln : Line) (s : State) : List Slot :=
  (((s.slotsIn .openPiece).filterMap fun i =>
    match s.piece i with
    | some p => if (p.endLine ln).2 then some (i, p) else none
    | none => none).foldr insertCloser []).map Prod.fst

/-- Every OPEN piece brought to the end of the line (R74 to R77). -/
def State.endLineAll (ln : Line) (s : State) : State :=
  (s.slotsIn .openPiece).foldl (fun t i => t.updatePiece i fun p => (p.endLine ln).1) s

/-- A hand-off to the lane scheduler (R123). -/
def State.handOff (h : Handoff) (s : State) : State :=
  { s with lsc.handoffs := s.lsc.handoffs ++ [h] }

/-- A closed piece below MIN_AREA is fines: slot freed, pin released, counted, reported or suppressed (R79). -/
def State.fines (i : Slot) (p : Piece) (s : State) : State :=
  let t := (s.freeSlot i).count .fines 1
  if s.own .finesReport = 1 then t.offer (.fines { p with front := [] }) else t.count .finesSuppressed 1

/-- The classification part of a piece that skips the walk (R81, R96, R128). -/
def Piece.overflowed (dest : Dest) (shift : Nat) (p : Piece) : Piece :=
  let q := { p with flags.queueFull := true, front := [] }
  let r := q.limit shift
  { r with
    phase := .scheduled
    classed := some
      { cls := .overflow, dest := dest, steps := 0, chainFault := false,
        terms := { prec := 0, lead := 0, trail := 0, widen := 0, report := true },
        features := q.features shift } }

/-- A closing piece leaves OPEN: fines, the classify queue, or the lane scheduler as OVERFLOW (R78 to R81). -/
def State.closePiece (i : Slot) (p : Piece) (s : State) : State :=
  if p.area < s.own .minArea then s.fines i p
  else if s.cls.queue.length < Config.queueMax then
    let t := s.updatePiece i fun q => { q with phase := .queued, front := [] }
    { t with cls.queue := t.cls.queue ++ [i] }
  else
    (s.updatePiece i (Piece.overflowed (Dest.ofCode (s.own .overflowDest)) (s.own .reportShift))).handOff
      (.piece .segmenter i)

/-- A closing piece is disposed of, and a LONG piece is continued in SORTING where a slot allows (R77, R78). -/
def State.dispose (eng : EngState) (s : State) (i : Slot) : State :=
  match s.piece i with
  | none => s
  | some p =>
    let t := s.closePiece i p
    if p.flags.long ∧ eng = .sorting then
      match t.openPiece p.front true with
      | some (_, u) => u
      | none => t
    else t

/-- The segmenter takes a line in SORTING or DRAINING, under the engine state it reads at the start (R63 to R82). -/
def State.segmentLine (ln : Line) (s : State) : State :=
  let eng := s.eng.state
  let k := (segmentsOf ln.marks).foldl (Linking.link ln eng) ⟨s, s.matchSet, []⟩
  let t := (k.state.closers ln).foldl (State.dispose eng) (k.state.endLineAll ln)
  if k.untracked = [] then t else t.handOff (.untracked ln.seq ln.start ln.stop k.untracked)

/-- SEG_TAKE_LINE (R63): the oldest line handed over is taken under the engine state. -/
def execSegTakeLine (s : State) : Host.Outcome State Fault Refusal :=
  match s.segLines with
  | [] => .next s
  | ln :: rest =>
    let t := { s with segLines := rest }
    if t.eng.state = .sorting ∨ t.eng.state = .draining then .next (t.segmentLine ln) else .next t

end Sys2Proof.Machine
end

