-- ==== Sys2Proof/Machine/Classifier.lean ====
section
/-! DEFINITION. The Classifier (spec/05): the commands WALK_START, TEST_EVALUATE and WALK_END. -/
namespace Sys2Proof.Machine

/-- The record of a walk that starts (R88). -/
def Walk.begun (i : Slot) (p : Piece) (root : Nat) (shift : Nat) : Walk :=
  { slot := i, bank := p.bank, features := p.features shift, point := .record (Fin.ofNat 256 root), steps := 0 }

/-- WALK_START (R88, R90): with no walk in progress, the oldest queued piece is taken and reduced. -/
def execWalkStart (s : State) : Host.Outcome State Fault Refusal :=
  match s.cls.walk, s.cls.queue with
  | none, i :: rest =>
    match s.piece i with
    | some p =>
      let shift := s.own .reportShift
      let t := s.setSlot i (some { p.limit shift with phase := .walking })
      .next { t with
        cls := { queue := rest, walk := some (Walk.begun i p (s.bank p.bank).root shift) } }
    | none => .fault .pieceAbsent
  | _, _ => .next s

/-- The 16-bit pattern of a value. -/
def pattern (v : Int) : BitVec 16 := BitVec.ofInt 16 v

/-- Is the test true of a feature? (R97) -/
def TestRecord.holds (r : TestRecord) (f : Int) : Bool :=
  match r.op with
  | .ge => decide (r.a.toInt ≤ f)
  | .lt => decide (f < r.a.toInt)
  | .inside => decide (r.a.toInt ≤ f) && decide (f ≤ r.b.toInt)
  | .outside => decide (f < r.a.toInt) || decide (r.b.toInt < f)
  | .anyBit => pattern f &&& r.a != 0

/-- Where a walk stands after a test that named a target at a step count (R98, R99). -/
def WalkPoint.after (target : Target) (steps : Nat) : WalkPoint :=
  match target with
  | .record i => if steps < Config.walkLimit then .record i else .ended .unresolved true
  | .cls c => .ended (.cls c) false
  | .unresolved => .ended .unresolved false

/-- A walk after one test (R97 to R99). -/
def Walk.tested (w : Walk) (r : TestRecord) : Walk :=
  { w with
    steps := w.steps + 1
    point := WalkPoint.after (if r.holds (look w.features r.feature) then r.onTrue else r.onFalse) (w.steps + 1) }

/-- TEST_EVALUATE (R97 to R99): the current record is evaluated with the walk's features. -/
def execTestEvaluate (s : State) : Host.Outcome State Fault Refusal :=
  match s.cls.walk with
  | none => .next s
  | some w =>
    match w.point with
    | .ended _ _ => .next s
    | .record i =>
      match look (s.bank w.bank).records i with
      | some r => .next { s with cls.walk := some (w.tested r) }
      | none => .fault .recipeAbsent

/-- The terms of an UNRESOLVED piece (R100). -/
def Terms.unresolved : Terms := { prec := 0, lead := 0, trail := 0, widen := 0, report := true }

/-- The destination and terms that a bank gives a result; none when it holds no entry for the class (R100). -/
def Bank.mapped (b : Bank) (c : PieceClass) : Option (Dest × Terms) :=
  match c with
  | .cls k => (look b.classes k).map fun e => (e.dest, e.terms)
  | .unresolved => some (b.unresolved, .unresolved)
  | .overflow => none

/-- The classification part of a piece whose walk has ended (R101). -/
def Walk.classification (w : Walk) (c : PieceClass) (chainFault : Bool) (m : Dest × Terms) : Classification :=
  { cls := c, dest := m.1, steps := w.steps, chainFault := chainFault, terms := m.2, features := w.features }

/-- The end of a walk with a result (R101): the record, the hand-off, the announcement, the chain-fault count, and
the walk record discarded. -/
def State.finishWalk (w : Walk) (p : Piece) (c : PieceClass) (chainFault : Bool) (m : Dest × Terms)
    (s : State) : State :=
  let t := s.setSlot w.slot
    (some { p with phase := .scheduled, classed := some (w.classification c chainFault m) })
  let u := (t.handOff (.piece .classifier w.slot)).announce p.number c
  let v := if chainFault then u.count .chainFaults 1 else u
  { v with cls.walk := none }

/-- WALK_END (R99 to R101): a walk that has its result is completed. -/
def execWalkEnd (s : State) : Host.Outcome State Fault Refusal :=
  match s.cls.walk with
  | none => .next s
  | some w =>
    match w.point with
    | .record _ => .next s
    | .ended c chainFault =>
      match s.piece w.slot with
      | none => .fault .pieceAbsent
      | some p =>
        match (s.bank w.bank).mapped c with
        | none => .fault .recipeAbsent
        | some m => .next (s.finishWalk w p c chainFault m)

end Sys2Proof.Machine
end

