-- ==== Sys2Proof/Machine/Lanes.lean ====
section
/-! DEFINITION. The Lane Scheduler (spec/07): the window and coverage of a piece, the insertion of a proposed entry
with its arbitration, the placement of pieces and of untracked runs, and the commands PLACE_PIECE and
PLACE_UNTRACKED. -/
namespace Sys2Proof.Machine

/-- A proposed entry (R131). -/
structure Proposal where
  row : EntryRow
  start : Nat
  stop : Nat
  owner : Option (Slot × PieceNo)
  prec : Nat
  deriving DecidableEq, Repr

/-- A fragment of a proposal with the marks it has gathered. -/
structure Fragment where
  start : Nat
  stop : Nat
  lateStart : Bool
  sharedCut : Bool
  trimmed : Bool
  deriving DecidableEq, Repr

/-- What is left of the window [a, b) when it is cut around [c, d): none, one or two fragments (spec/07 section
7.4). -/
def cutWindow (a b c d : Nat) : List (Nat × Nat) :=
  if a < d ∧ c < b then (if a < c then [(a, c)] else []) ++ (if d < b then [(d, b)] else []) else [(a, b)]

/-- A fragment cut around an entry. -/
def Fragment.cutAround (f : Fragment) (e : Entry) : List Fragment :=
  (cutWindow f.start f.stop e.start e.stop).map fun w => { f with start := w.1, stop := w.2 }

/-- An entry's window overlaps [a, b). -/
def Entry.overlaps (e : Entry) (a b : Nat) : Bool := e.start < b && a < e.stop

/-- What is left of an entry's window when it is cut around the fragments of a proposal. -/
def Entry.cutAround (e : Entry) (fs : List Fragment) : List (Nat × Nat) :=
  fs.foldl (fun ws f => ws.flatMap fun w => cutWindow w.1 w.2 f.start f.stop) [(e.start, e.stop)]

/-- A piece loses an entry that is cut to nothing (R134). -/
def Piece.loseEntry (p : Piece) : Piece := { p with pendingEntries := p.pendingEntries - 1 }

/-- A piece gains an entry (R134, R139). -/
def Piece.gainEntry (p : Piece) : Piece := { p with pendingEntries := p.pendingEntries + 1 }

def Piece.tallyTrimmed (p : Piece) : Piece := { p with tallies.trimmed := p.tallies.trimmed + 1 }
def Piece.tallyShared (p : Piece) : Piece := { p with tallies.shared := p.tallies.shared + 1 }
def Piece.tallyFull (p : Piece) : Piece := { p with tallies.dropFull := p.tallies.dropFull + 1 }
def Piece.tallyLate (p : Piece) : Piece := { p with tallies.dropLate := p.tallies.dropLate + 1 }
def Piece.tallyPlanned (p : Piece) : Piece := { p with tallies.planned := p.tallies.planned + 1 }
def Piece.tallyUnavailable (p : Piece) : Piece :=
  { p with tallies.dropUnavailable := p.tallies.dropUnavailable + 1 }

/-- An existing entry is cut around a proposal's fragments (R134, R135). -/
def State.cutEntry (l : Lane) (e : Entry) (fs : List Fragment) (s : State) : State :=
  let t := (s.tallyOwner e.owner Piece.tallyTrimmed).count .trimmed 1
  match (e.cutAround fs).filter fun w => s.own .minPulse ≤ w.2 - w.1 with
  | [] =>
    ((t.setLane l ((t.lane l).erase e)).tallyOwner e.owner Piece.loseEntry).ownerDone e.owner
  | [w] => t.setLane l (exchange e { e with start := w.1, stop := w.2, trimmed := true } (t.lane l))
  | w :: x :: _ =>
    let left := exchange e { e with start := w.1, stop := w.2, trimmed := true } (t.lane l)
    if (t.lane l).length < Config.laneMax then
      (t.setLane l (insertEntry { e with start := x.1, stop := x.2, trimmed := true } left)).tallyOwner
        e.owner Piece.gainEntry
    else ((t.setLane l left).tallyOwner e.owner Piece.tallyFull).count .droppedFull 1

/-- One existing entry that overlaps a proposal is handled: the proposal is cut around it, shared (R132) or trimmed
(R133), or it is cut around the proposal (R134). -/
def State.meetEntry (l : Lane) (n : Proposal) (e : Entry) (fs : List Fragment) (s : State) :
    List Fragment × State :=
  if e.row = n.row then
    ((fs.flatMap (·.cutAround e)).map fun f => { f with sharedCut := true },
      s.tallyOwner n.owner Piece.tallyShared)
  else if e.active ∨ n.prec ≤ e.prec then
    ((fs.flatMap (·.cutAround e)).map fun f => { f with trimmed := true },
      (s.tallyOwner n.owner Piece.tallyTrimmed).count .trimmed 1)
  else (fs, s.cutEntry l e fs)

/-- Every existing entry that overlaps the proposal is handled, in start order (R131). -/
def State.meetEntries (l : Lane) (n : Proposal) : List Entry → List Fragment → State → List Fragment × State
  | [], fs, s => (fs, s)
  | e :: es, fs, s =>
    let m := s.meetEntry l n e fs
    State.meetEntries l n es m.1 m.2

/-- Position and leads as a placement reads them once (R123). -/
structure Reading where
  pos : Nat
  leadOpen : Nat
  leadClose : Nat
  minPulse : Nat
  deriving DecidableEq, Repr

/-- The lateness judgment of a fragment: kept, started late, or none when it is dropped LATE (R137, R138). -/
def Fragment.judged (f : Fragment) (row : EntryRow) (rd : Reading) : Option Fragment :=
  if row = .guard then (if f.stop ≤ rd.pos then none else some f)
  else if rd.pos + rd.leadOpen < f.start then some f
  else if rd.pos + rd.leadClose + rd.minPulse ≤ f.stop ∧ rd.pos + rd.leadOpen < f.stop then
    some { f with start := rd.pos + rd.leadOpen, lateStart := true }
  else none

/-- The entry a fragment becomes. -/
def Fragment.entry (f : Fragment) (n : Proposal) : Entry :=
  { row := n.row, start := f.start, stop := f.stop, owner := n.owner, prec := n.prec, active := false,
    lateStart := f.lateStart, sharedCut := f.sharedCut, trimmed := f.trimmed }

/-- A fragment not too late is inserted while the lane has a place, or dropped DROPPED_FULL (R139, R143). -/
def State.insertFragment (l : Lane) (n : Proposal) (f : Fragment) (s : State) : State :=
  if (s.lane l).length < Config.laneMax then
    let t := ((s.setLane l (insertEntry (f.entry n) (s.lane l))).tallyOwner n.owner
      Piece.gainEntry).count .placed 1
    if n.owner.isNone then t.count .anonymous 1 else t
  else (s.tallyOwner n.owner Piece.tallyFull).count .droppedFull 1

/-- A fragment that remains is judged for lateness and inserted (R137 to R139). -/
def State.settleFragment (l : Lane) (n : Proposal) (rd : Reading) (f : Fragment) (s : State) : State :=
  match f.judged n.row rd with
  | some g => s.insertFragment l n g
  | none => (s.tallyOwner n.owner Piece.tallyLate).count .droppedLate 1

/-- A proposed entry is placed into one lane (R131 to R139). -/
def State.propose (l : Lane) (n : Proposal) (rd : Reading) (s : State) : State :=
  let whole : Fragment :=
    { start := n.start, stop := n.stop, lateStart := false, sharedCut := false, trimmed := false }
  let m := s.meetEntries l n ((s.lane l).filter (·.overlaps n.start n.stop)) [whole]
  (m.1.filter fun f => rd.minPulse ≤ f.stop - f.start).foldl (fun t f => t.settleFragment l n rd f) m.2

/-- Position, leads and MIN_PULSE as they stand. -/
def State.reading (s : State) : Reading :=
  { pos := s.bpu.pos, leadOpen := s.vdr.leadOpen, leadClose := s.vdr.leadClose, minPulse := s.own .minPulse }

/-- The end of a placement: every valve whose row the placement changed is judged (R150). -/
def State.judgeChanged (before s : State) : State :=
  valveOrder.foldl
    (fun t v => if before.rowEntries v.1 v.2 = s.rowEntries v.1 v.2 then t
      else t.judge v.1 v.2 (.ordinary s.openReach)) s

/-- The lanes that hold a belt cell of a run of cells (R125). -/
def lanesOver (first last : Nat) : List Lane :=
  (List.finRange 48).filter fun l => first / 2 ≤ l.val && l.val ≤ last / 2

/-- The end of a window beyond the greatest belt position is taken as that position (R124, R141). -/
def capPos (p : Nat) : Nat := min p Config.posMax

/-- The row a piece is blown by, none for PASS. -/
def Dest.row? : Dest → Option Row
  | .up => some .up | .down => some .down | .pass => none

/-- The terms a piece is placed with: those of its class, or for OVERFLOW the margin OVF_MARGIN in force (R128). -/
def State.placingTerms (s : State) (c : Classification) : Terms :=
  if c.cls = .overflow then { c.terms with lead := s.own .ovfMargin, trail := s.own .ovfMargin } else c.terms

/-- One covered lane of a placement: the proposal, or the tally of a window beyond reach (R124, R126, R127). -/
def State.proposeOrLate (l : Lane) (n : Proposal) (rd : Reading) (s : State) : State :=
  if n.start < n.stop then (s.tallyOwner n.owner Piece.tallyPlanned).propose l n rd
  else (s.tallyOwner n.owner Piece.tallyLate).count .droppedLate 1

/-- One covered lane of a piece to be blown: a valve out of service is tallied and gets no proposal (R126). -/
def State.proposeBlow (l : Lane) (r : Row) (n : Proposal) (rd : Reading) (s : State) : State :=
  if (s.valve l r).available then s.proposeOrLate l n rd
  else s.tallyOwner n.owner Piece.tallyUnavailable

/-- The window, coverage and owner of a SCHEDULED piece, where its record has all they are made from (R124,
R125). -/
def Piece.ground (p : Piece) : Option (Classification × Nat × Nat × Run) :=
  match p.classed, p.first, p.last, p.extent with
  | some c, some f, some t, some x => some (c, f.2, t.2, x)
  | _, _, _, _ => none

/-- The placement of a SCHEDULED piece (R123 to R130, R150). -/
def State.placePiece (i : Slot) (p : Piece) (c : Classification) (first last : Nat) (x : Run) (s : State) :
    State :=
  let s0 := s.updatePiece i fun q => { q with tallies := {}, pendingEntries := 0 }
  let tm := s.placingTerms c
  let start := first + s.own .barOffset - tm.lead
  let stop := capPos (last + s.own .barOffset + tm.trail)
  let lanes := lanesOver (x.left - tm.widen) (min 95 (x.right + tm.widen))
  let prop (row : EntryRow) : Proposal :=
    { row := row, start := start, stop := stop, owner := some (i, p.number), prec := tm.prec }
  let placed :=
    match c.dest.row? with
    | some r => lanes.foldl (fun (t : State) l => t.proposeBlow l r (prop (.ofRow r)) s.reading) s0
    | none =>
      if tm.prec = 0 then s0 else lanes.foldl (fun (t : State) l => t.proposeOrLate l (prop .guard) s.reading) s0
  s.judgeChanged (placed.completeIfDone i)

/-- The last overflow-row entry of a lane: the one in the row with the greatest start (R142). -/
def State.lastInRow (s : State) (l : Lane) (r : Row) : Option Entry := (s.rowEntries l r).getLast?

/-- How far an anonymous entry may be extended: the window's end, or the start of the entry that follows it in the
lane (R142). -/
def State.extendLimit (s : State) (l : Lane) (e : Entry) (stop : Nat) : Nat :=
  match nextAfter (s.lane l) e with
  | some n => min stop n.start
  | none => stop

/-- One overflow window in one lane: the last anonymous entry is extended, and what it does not hold is proposed as
a new one (R142, R143). -/
def State.placeOverflow (l : Lane) (r : Row) (start stop : Nat) (rd : Reading) (s : State) : State :=
  let prop (a : Nat) : Proposal := { row := .ofRow r, start := a, stop := stop, owner := none, prec := 0 }
  let extends? := (s.lastInRow l r).filter fun e => e.owner.isNone && start ≤ e.stop
  match extends? with
  | some e =>
    let stop' := max e.stop (s.extendLimit l e stop)
    let t := s.setLane l (exchange e { e with stop := stop' } (s.lane l))
    if stop' < stop then t.propose l (prop stop') rd else t
  | none => s.propose l (prop start) rd

/-- The placement of a line's untracked runs (R141 to R143, R150). -/
def State.placeUntracked (start stop : Nat) (runs : List Run) (s : State) : State :=
  match (Dest.ofCode (s.own .overflowDest)).row? with
  | none => s
  | some r =>
    let ws := start + s.own .barOffset - s.own .ovfMargin
    let we := capPos (stop + s.own .barOffset + s.own .ovfMargin)
    let lanes := (List.finRange 48).filter fun l => runs.any fun x =>
      decide (x.left / 2 ≤ l.val) && decide (l.val ≤ x.right / 2)
    let placed := lanes.foldl (fun (t : State) l =>
      if (t.valve l r).available then
        if ws < we then t.placeOverflow l r ws we s.reading else t.count .droppedLate 1
      else t) s
    s.judgeChanged placed

/-! ### Hand-offs -/

/-- Does a hand-off come from this block? The untracked runs are the segmenter's (R123). -/
def Handoff.isFrom (src : HandoffSource) : Handoff → Bool
  | .piece b _ => b == src
  | .untracked _ _ _ _ => src == .segmenter

/-- The oldest hand-off of one block (R123). -/
def State.oldestHandoff (s : State) (src : HandoffSource) : Option Handoff :=
  s.lsc.handoffs.find? (·.isFrom src)

/-- A hand-off leaves the list of those that wait. -/
def State.dropHandoff (h : Handoff) (s : State) : State :=
  { s with lsc.handoffs := s.lsc.handoffs.erase h }

/-- One hand-off is placed, whatever it is; a slot without a SCHEDULED piece is passed over. -/
def State.placeHandoff (h : Handoff) (s : State) : State :=
  match h with
  | .untracked _ start stop runs => s.placeUntracked start stop runs
  | .piece _ i =>
    match s.piece i with
    | some p =>
      match p.ground with
      | some (c, f, t, x) => if p.phase = .scheduled then s.placePiece i p c f t x else s
      | none => s
    | none => s

/-- Every hand-off that waits is placed, in the order they were made (R146, log entry 9). -/
def State.placeAllHandoffs (s : State) : State :=
  s.lsc.handoffs.foldl (fun t h => t.placeHandoff h) { s with lsc.handoffs := [] }

/-- PLACE_PIECE (R123 to R130): the oldest hand-off of the block, when it is a piece. -/
def execPlacePiece (src : HandoffSource) (s : State) : Host.Outcome State Fault Refusal :=
  match s.oldestHandoff src with
  | some (.piece b i) =>
    match s.piece i with
    | some p =>
      match p.ground with
      | some (c, f, t, x) =>
        if p.phase = .scheduled then .next ((s.dropHandoff (.piece b i)).placePiece i p c f t x)
        else .fault .pieceAbsent
      | none => .fault .pieceAbsent
    | none => .fault .pieceAbsent
  | _ => .next s

/-- PLACE_UNTRACKED (R141 to R143): the segmenter's oldest hand-off, when it is a line's untracked runs. -/
def execPlaceUntracked (s : State) : Host.Outcome State Fault Refusal :=
  match s.oldestHandoff .segmenter with
  | some (.untracked q a b runs) => .next ((s.dropHandoff (.untracked q a b runs)).placeUntracked a b runs)
  | _ => .next s

end Sys2Proof.Machine
end

