-- ==== Sys2Proof/Machine/Engine.lean ====
section
/-! DEFINITION. The requests of the Engine Control (spec/09: SORT_START, SORT_STOP, FLUSH, CLEAR, RESET), of the settings
(spec/02 section 2.8 and spec/10 section 10.5: SET, GET, HOLD, RELEASE), and HELLO and STATUS (spec/10 section 10.6). -/
namespace Sys2Proof.Machine

/-! ### Starting and stopping -/

/-- Is a recipe bank ACTIVE? -/
def State.hasActive (s : State) : Bool := (s.bankIn .active).isSome

/-- SORT_START (R170). -/
def State.sortStart (s : State) : Answer :=
  if s.eng.state ≠ .idle then s.refuse .state (toBytes 1 s.eng.state.code)
  else if s.blt.valid = false ∨ s.hasActive = false then
    s.refuse .notReady (toBytes 1 (bit (!s.blt.valid) 1 + bit (!s.hasActive) 2))
  else (s.setEngine .sorting .sortStart).accept []

/-- SORT_START: the event of taking it. -/
def execSortStart (s : State) : Host.Outcome State Fault Refusal :=
  s.takeRequest 0x07 anyBody fun _ t => t.sortStart

/-- Is sorting going on or draining? -/
def EngState.running : EngState → Bool
  | .sorting => true | .draining => true | .idle => false | .survey => false | .halted => false

/-- SORT_STOP with mode DRAIN, in a state that takes it (R171, R173). -/
def State.stopDrain (s : State) : State :=
  if s.eng.state = .sorting then (s.setEngine .draining .stopDrain).judgeDrained else s

/-- The pieces that an abandon reaches: OPEN, QUEUED and WALKING (R172). -/
def State.unscheduled (s : State) : Nat := s.openCount + s.cls.held.length

/-- SORT_STOP with mode ABANDON, in a state that takes it (R172, R173). -/
def State.stopAbandon (s : State) : State :=
  let t := if s.eng.state = .sorting then s.setEngine .draining .stopAbandon else s
  t.abandonOpen.abandonClassifier.judgeDrained

/-- SORT_STOP (R171, R172): the mode is judged, then the engine state. -/
def State.sortStop (body : List Byte) (s : State) : Answer :=
  let mode := byteAt body 0
  if 1 < mode then s.refuse .range []
  else if s.eng.state.running = false then s.refuse .state []
  else if mode = 0 then s.stopDrain.accept []
  else s.stopAbandon.accept (toBytes 2 s.unscheduled)

/-- SORT_STOP with mode DRAIN: the event of taking it. -/
def execSortStopDrain (s : State) : Host.Outcome State Fault Refusal :=
  s.takeRequest 0x08 (notOther 1 0 1) fun body t => t.sortStop body

/-- SORT_STOP with mode ABANDON: the event of taking it. -/
def execSortStopAbandon (s : State) : Host.Outcome State Fault Refusal :=
  s.takeRequest 0x08 (notOther 1 0 0) fun body t => t.sortStop body

/-! ### FLUSH -/

/-- The segmenter's flush (R84). -/
def State.flushOpen (s : State) : State := s.flushAll (s.slotsIn .openPiece)

/-- The classifier's flush (R103). -/
def State.flushClassifier (s : State) : State :=
  State.flushAll s.cls.held { s with cls := { queue := [], walk := none } }

/-- The lane scheduler's flush: every lane is emptied, with no reason and no count (R146). -/
def State.flushLanes (s : State) : State :=
  { s with lsc := { lanes := Vector.replicate 48 [], handoffs := [] } }

/-- The pending-entry count of a SCHEDULED piece whose entries the flush removed (R146). -/
def Piece.withoutEntries (p : Piece) : Piece := { p with pendingEntries := 0 }

/-- An OPEN valve closes to RECOVER at a flush (R166). -/
def State.flushValve (l : Lane) (r : Row) (s : State) : State :=
  if (s.valve l r).state = .opened then s.enterRecover l r else s

/-- The valve driver's flush: OPEN valves to RECOVER, then the SCHEDULED pieces ended FLUSHED in slot order (R166). The
closed outputs go out in lane order, UP before DOWN (DESIGN CHOICE, log entry 8). -/
def State.flushValves (s : State) : State :=
  let t := valveOrder.foldl (fun (u : State) v => u.flushValve v.1 v.2) s
  let is := t.slotsIn .scheduled
  State.flushAll is (is.foldl (fun (u : State) i => u.updatePiece i Piece.withoutEntries) t)

/-- DRAINING ends at a flush (R179). -/
def State.endDraining (s : State) : State := if s.eng.state = .draining then s.setEngine .idle .flush else s

/-- Everything a FLUSH does, in the order of R179; the hand-offs made before it are placed first (R146, log entry
9). Where such a placement completes the last piece of a DRAINING engine, the engine is IDLE with cause DRAINED before
the flush proper begins, and no FLUSH notice follows (DEDUCED, log entry 9). -/
def State.flushed (s : State) : State :=
  s.placeAllHandoffs.flushOpen.flushClassifier.flushLanes.flushValves.endDraining

/-- FLUSH (R179): the count is of the pieces in the table once the hand-offs are placed. -/
def State.flush (s : State) : Answer :=
  s.flushed.accept (toBytes 2 s.placeAllHandoffs.occupied)

/-- FLUSH: the event of taking it. -/
def execFlush (s : State) : Host.Outcome State Fault Refusal :=
  s.takeRequest 0x09 anyBody fun _ t => t.flush

/-! ### CLEAR and RESET -/

/-- CLEAR (R178). -/
def State.clear (s : State) : Answer :=
  if s.eng.state = .halted then
    if s.occupied = 0 then
      (State.setEngine .idle .clear { s with eng.flags := {} }).accept []
    else s.refuse .busy (toBytes 2 s.occupied)
  else ({ s with eng.flags := {} } : State).accept []

/-- CLEAR: the event of taking it. -/
def execClear (s : State) : Host.Outcome State Fault Refusal :=
  s.takeRequest 0x0A anyBody fun _ t => t.clear

/-- RESET (R180): the reset-pending mark is set; the reset itself is SOFT_RESET. -/
def State.requestReset (s : State) : Answer :=
  ({ s with eng.resetPending := true, eng.resetReplySent := false } : State).accept []

/-- RESET: the event of taking it. -/
def execReset (s : State) : Host.Outcome State Fault Refusal :=
  s.takeRequest 0x0B anyBody fun _ t => t.requestReset

/-! ### SET -/

/-- The identifier and the value of one item of a SET (R188). -/
structure SetItem where
  code : Nat
  value : Int
  deriving DecidableEq, Repr

/-- The items of a SET body (R188). -/
def setItems (body : List Byte) : List SetItem :=
  (chunks 6 32 body).map fun b => { code := field b 0 2, value := asSigned 4 (field b 2 4) }

/-- Is a setting one that only IDLE takes? (R34) -/
def SettingTarget.idleOnly : SettingTarget → Bool
  | .own i => i.idleOnly
  | .line _ => false
  | .gainAll => false

/-- The failure of one item: an unknown identifier, one named before, or an IDLE_ONLY setting outside IDLE, tested in
this order (R188). -/
def itemFailure (idle : Bool) (before : List Nat) (it : SetItem) : Option Status :=
  match SettingTarget.ofCode it.code with
  | none => some .badId
  | some t =>
    if before.contains it.code then some .duplicate
    else if t.idleOnly && !idle then some .state
    else none

/-- The first item that fails, with its position and its status (R188). -/
def firstFailure (idle : Bool) : Nat → List Nat → List SetItem → Option (Nat × SetItem × Status)
  | _, _, [] => none
  | n, before, it :: rest =>
    match itemFailure idle before it with
    | some st => some (n, it, st)
    | none => firstFailure idle (n + 1) (before ++ [it.code]) rest

/-- A value of a LINE-class setting staged under HOLD, else in force (R34). -/
def Cdu.writeLine (c : Cdu) (i : LineId) (v : Nat) : Cdu :=
  if c.hold then { c with staged := c.staged.put i v } else { c with line := c.line.put i v }

/-- The settings after one item, with the value taken and whether it was staged (R30, R34, R189). -/
def Cdu.applyItem (c : Cdu) (t : SettingTarget) (v : Int) : Cdu × Nat × Bool :=
  match t with
  | .line i => (c.writeLine i (i.taken v), i.taken v, c.hold)
  | .own i => ({ c with own := c.own.put i (i.taken v) }, i.taken v, false)
  | .gainAll =>
    let g := LineId.taken (.gain .ind) v
    (Chan.all.foldl (fun d k => d.writeLine (.gain k) g) c, g, c.hold)

/-- One item listed in the reply: identifier, value taken, marks CHANGED and STAGED (R189). -/
def itemReply (it : SetItem) (taken : Nat) (staged : Bool) : List Byte :=
  toBytes 2 it.code ++ toBytes 4 taken ++ toBytes 1 (bit (decide ((taken : Int) ≠ it.value)) 1 + bit staged 2)

/-- Every item applied in order, with the reply data (R189). -/
def Cdu.applyItems : Cdu → List SetItem → Cdu × List Byte
  | c, [] => (c, [])
  | c, it :: rest =>
    match SettingTarget.ofCode it.code with
    | none => Cdu.applyItems c rest
    | some t =>
      let a := c.applyItem t it.value
      let more := Cdu.applyItems a.1 rest
      (more.1, itemReply it a.2.1 a.2.2 ++ more.2)

/-- The effect of a new set of settings on the other blocks: a change of OPEN_DELAY_US or CLOSE_DELAY_US makes new
leads, and every valve is judged (R149). -/
def State.withSettings (c : Cdu) (s : State) : State :=
  let t := { s with cdu := c }
  if c.own.get .openDelay = s.own .openDelay ∧ c.own.get .closeDelay = s.own .closeDelay then t
  else t.computeLeads

/-- SET (R188, R189). -/
def State.setSettings (body : List Byte) (s : State) : Answer :=
  let items := setItems body
  match firstFailure (s.eng.state == .idle) 0 [] items with
  | some f => s.refuse f.2.2 (toBytes 1 f.1 ++ toBytes 2 f.2.1.code)
  | none =>
    let r := s.cdu.applyItems items
    (s.withSettings r.1).accept r.2

/-- SET: the event of taking it. -/
def execSet (s : State) : Host.Outcome State Fault Refusal :=
  s.takeRequest 0x03 anyBody fun body t => t.setSettings body

/-! ### GET, HOLD and RELEASE -/

/-- One identifier as GET answers it: identifier, item status, staged mark, value in force, staged value (R37,
R190). -/
def Cdu.getItem (c : Cdu) (code : Nat) : List Byte :=
  let line (st : Status) (staged : Option Nat) (v : Nat) : List Byte :=
    toBytes 2 code ++ toBytes 1 st.code ++ toBytes 1 (bit staged.isSome 1) ++ toBytes 4 v ++
      toBytes 4 (staged.getD 0)
  match SettingTarget.ofCode code with
  | some (.line i) => line .ok (c.staged.get i) (c.line.get i)
  | some (.own i) => line .ok none (c.own.get i)
  | some .gainAll => line .badId none 0
  | none => line .badId none 0

/-- GET (R190). -/
def State.getSettings (body : List Byte) (s : State) : Answer :=
  s.accept (((chunks 2 32 body).map ofBytes).flatMap s.cdu.getItem)

/-- GET: the event of taking it. -/
def execGet (s : State) : Host.Outcome State Fault Refusal :=
  s.takeRequest 0x04 anyBody fun body t => t.getSettings body

/-- HOLD (R35). -/
def State.holdSettings (s : State) : Answer := ({ s with cdu.hold := true } : State).accept []

/-- HOLD: the event of taking it. -/
def execHold (s : State) : Host.Outcome State Fault Refusal :=
  s.takeRequest 0x05 anyBody fun _ t => t.holdSettings

/-- The settings after a RELEASE (R36). -/
def Cdu.released (c : Cdu) : Cdu :=
  if c.hold then { c with line := c.line.release c.staged, staged := StagedSet.empty, hold := false } else c

/-- RELEASE (R36). -/
def State.releaseSettings (s : State) : Answer := ({ s with cdu := s.cdu.released } : State).accept []

/-- RELEASE: the event of taking it. -/
def execRelease (s : State) : Host.Outcome State Fault Refusal :=
  s.takeRequest 0x06 anyBody fun _ t => t.releaseSettings

/-! ### HELLO and STATUS -/

/-- The eleven capacities of the part (R191). -/
def capacities : List Nat :=
  [256, Config.openMax, Config.queueMax, 256, 48, Config.laneMax, Config.ringMax, Config.linkQueueMax,
   Config.linkQueueMax, Config.noticeMax, Config.pieceNoticeMax]

/-- HELLO (R191). -/
def State.hello (s : State) : Answer :=
  s.accept (toBytes 2 0x4D31 ++ toBytes 2 0xB2CE ++ toBytes 1 1 ++ toBytes 1 s.lnk.rate.val ++
    capacities.flatMap (toBytes 2))

/-- HELLO: the event of taking it. -/
def execHello (s : State) : Host.Outcome State Fault Refusal :=
  s.takeRequest 0x01 anyBody fun _ t => t.hello

/-- The ACTIVE bank and generation fields of the status record (R192). -/
def State.activeFields (s : State) : List Byte :=
  match s.bankIn .active with
  | some b => toBytes 1 b.val ++ toBytes 2 (s.bank b).gen.toNat
  | none => toBytes 1 255 ++ toBytes 2 s.rcs.generation.toNat

/-- The status record (spec/10 section 10.8.3). -/
def State.statusRecord (s : State) : List Byte :=
  toBytes 1 s.eng.state.code ++ toBytes 1 s.eng.flags.number ++ toBytes 6 s.bpu.pos ++ toBytes 2 s.bpu.speed ++
    toBytes 2 s.bpu.debt ++ toBytes 1 s.ldm.state.code ++ toBytes 2 s.ldm.permille ++
    toBytes 1 s.cls.queue.length ++ toBytes 2 s.entryTotal ++ s.activeFields ++ toBytes 1 (airCode s.vdr.air) ++
    toBytes 1 s.blt.status.code ++ toBytes 1 s.cap.state.code ++ toBytes 1 s.openCount ++
    toBytes 2 s.occupied ++ toBytes 1 s.lnk.notices.length

/-- STATUS (R192). -/
def State.status (s : State) : Answer := s.accept s.statusRecord

/-- STATUS: the event of taking it. -/
def execStatus (s : State) : Host.Outcome State Fault Refusal :=
  s.takeRequest 0x02 anyBody fun _ t => t.status

end Sys2Proof.Machine
end

