-- ==== Sys2Proof/Machine/Link.lean ====
section
/-! DEFINITION. The two directions of the line controller link (spec/10): reception of a frame, transmission of a frame,
and a frame whose kind is no request kind. -/
namespace Sys2Proof.Machine

/-! ### Reception -/

/-- A frame in progress is discarded with a count, and the receiver returns to HUNT (R183, R185). -/
def State.dropFrame (c : Counter) (s : State) : State := ({ s with lnk.inFrame := false } : State).count c 1

/-- LINK_FRAME_START (R183): a frame begins. Inside a frame the idle before this character has reached four character
times, so the frame in progress is aborted first (R183). -/
def execLinkFrameStart (s : State) : Host.Outcome State Fault Refusal :=
  let t := if s.lnk.inFrame then s.dropFrame .gapAborts else s
  .next { t with lnk.inFrame := true }

/-- The body length that bytes three and four of a frame give (R183). -/
def statedLength (bytes : List Byte) : Nat := field bytes 2 2

/-- The characters of a complete frame of a stated body length (spec/10 section 10.2). -/
def wholeLength (n : Nat) : Nat := n + 6

/-- Does a complete frame carry the CRC-16 of its kind, tag, length and body? (R184, R185) -/
def checkHolds (bytes : List Byte) (n : Nat) : Bool :=
  (crc16 (bytes.take (4 + n))).toNat == field bytes (4 + n) 2

/-- The frame that the characters spell (R183). -/
def frameOf (bytes : List Byte) (n : Nat) : Frame :=
  { kind := bytes.getD 0 0, tag := bytes.getD 1 0, body := (bytes.drop 4).take n }

/-- A good frame is offered to the inbound queue (R186). -/
def State.receive (f : Frame) (s : State) : State :=
  if s.lnk.inbound.length < Config.linkQueueMax then { s with lnk.inbound := s.lnk.inbound ++ [f] }
  else s.count .overruns 1

/-- A complete frame is judged by its CRC and the receiver returns to HUNT (R183, R185). -/
def State.judgeFrame (bytes : List Byte) (n : Nat) (s : State) : State :=
  if checkHolds bytes n then
    (State.count .framesGood 1 { s with lnk.inFrame := false }).receive (frameOf bytes n)
  else s.dropFrame .checkErrors

/-- LINK_FRAME_END (R183, R185): the frame completes when its stated length is held. Characters too few to complete a
frame leave the receiver in it; a stated length above 1024 is the oversize case. -/
def execLinkFrameEnd (bytes : List Byte) (s : State) : Host.Outcome State Fault Refusal :=
  let n := statedLength bytes
  if s.lnk.inFrame = false ∨ bytes.length < 4 then .next s
  else if Config.bodyMax < n then .next (s.dropFrame .framingErrors)
  else if bytes.length < wholeLength n then .next s
  else .next (s.judgeFrame bytes n)

/-- LINK_FRAMING_ERROR (R185): it ends a frame in progress. -/
def execLinkFramingError (s : State) : Host.Outcome State Fault Refusal :=
  if s.lnk.inFrame then .next (s.dropFrame .framingErrors) else .next s

/-- GAP_ABORT (R183, R185): it ends a frame in progress. -/
def execGapAbort (s : State) : Host.Outcome State Fault Refusal :=
  if s.lnk.inFrame then .next (s.dropFrame .gapAborts) else .next s

/-! ### Transmission -/

/-- Is this the OK reply to a RESET request? (R180) -/
def Reply.ofReset (r : Reply) : Bool := r.kind == 0x0B && r.status == .ok

/-- The choice of the transmitter: the oldest reply, else the oldest notice (R193). -/
def State.choose (s : State) : State :=
  match s.lnk.replies, s.lnk.notices with
  | r :: rest, _ =>
    { s with lnk.replies := rest, lnk.sending := some { bytes := r.frame, resetReply := r.ofReset } }
  | [], n :: rest =>
    { s with lnk.notices := rest, lnk.sending := some { bytes := n.frame, resetReply := false } }
  | [], [] => s

/-- TRANSMIT_FRAME (R193): a free transmitter begins the next frame; none is begun between the RESET reply and the
reset. -/
def execTransmitFrame (s : State) : Host.Outcome State Fault Refusal :=
  if s.lnk.sending.isNone ∧ s.eng.resetReplySent = false then .next s.choose else .next s

/-- LINK_FRAME_SENT (R193): the frame in transmission has gone out whole; the RESET reply's is remembered (R180). -/
def execLinkFrameSent (s : State) : Host.Outcome State Fault Refusal :=
  match s.lnk.sending with
  | none => .next s
  | some f =>
    .next { s with
      lnk.sending := none
      eng.resetReplySent := s.eng.resetReplySent || (f.resetReply && s.eng.resetPending) }

/-! ### Unknown kinds -/

/-- UNKNOWN_KIND (R187): the oldest frame is taken and answered, its kind being none of the request kinds. -/
def execUnknownKind (s : State) : Host.Outcome State Fault Refusal :=
  match s.lnk.inbound with
  | [] => .next s
  | f :: rest =>
    if s.mayTake ∧ isRequestKind f.kind.toNat = false then
      .next (s.takeFrame f rest fun _ t => t.refuse .unknownKind [])
    else .next s

end Sys2Proof.Machine
end

