-- ==== Sys2Proof/Machine/Recipe.lean ====
section
/-! DEFINITION. The Recipe Store (spec/06): RECIPE_OPEN, RECIPE_PUT_RECORDS, RECIPE_PUT_CLASSES, RECIPE_COMMIT,
RECIPE_ABANDON and RECIPE_INFO. -/
namespace Sys2Proof.Machine

/-! ### Opening -/

/-- The other bank. -/
def otherBank (b : BankId) : BankId := if b = 0 then 1 else 0

/-- The bank that RECIPE_OPEN chooses: the one beside the ACTIVE bank, else the LOADING one, else bank 0 (R109). -/
def State.chosenBank (s : State) : BankId :=
  match s.bankIn .active with
  | some b => otherBank b
  | none => (s.bankIn .loading).getD 0

/-- A bank opened for loading: no records, no class entries, an empty written set (R109). -/
def Bank.opened : Bank := { Bank.blank with state := .loading }

/-- A bank number as one byte. -/
def bankByte (b : BankId) : List Byte := toBytes 1 b.val

/-- RECIPE_OPEN (R109). -/
def State.recipeOpen (s : State) : Answer :=
  let b := s.chosenBank
  match (s.bank b).state with
  | .empty => (s.updateBank b fun _ => Bank.opened).accept (bankByte b)
  | .loading => (s.updateBank b fun _ => Bank.opened).accept (bankByte b)
  | .retiring => s.refuse .bankBusy []
  | .active => s.refuse .bankBusy []

/-- RECIPE_OPEN: the event of taking it. -/
def execRecipeOpen (s : State) : Host.Outcome State Fault Refusal :=
  s.takeRequest 0x11 anyBody fun _ t => t.recipeOpen

/-! ### Loading -/

/-- A test record as it is stored, its fields clamped to their codes (R110). -/
def recordOf (bs : List Byte) : TestRecord :=
  { feature := Fin.ofNat 16 (min (byteAt bs 0) 15), op := TestOp.ofCode (byteAt bs 1),
    a := BitVec.ofNat 16 (field bs 2 2), b := BitVec.ofNat 16 (field bs 4 2),
    onTrue := Target.ofCode (field bs 6 2), onFalse := Target.ofCode (field bs 8 2) }

/-- The marks of the fields of a record that were clamped (spec/10 section 10.8.5). -/
def recordMarks (bs : List Byte) : Nat :=
  bit (decide (15 < byteAt bs 0)) 1 + bit (decide (4 < byteAt bs 1)) 2 +
    bit (decide (272 < field bs 6 2)) 4 + bit (decide (272 < field bs 8 2)) 8

/-- Records written to consecutive indices (R110). -/
def Bank.putRecords (first : Nat) (rs : List TestRecord) (b : Bank) : Bank :=
  { b with records := tabulate 256 fun i =>
      if first ≤ i.val then
        match rs[i.val - first]? with
        | some r => some r
        | none => look b.records i
      else look b.records i }

/-- RECIPE_PUT_RECORDS (R110). -/
def State.recipePutRecords (body : List Byte) (s : State) : Answer :=
  let first := byteAt body 0
  let sent := chunks 10 body.length (body.drop 1)
  match s.bankIn .loading with
  | none => s.refuse .state []
  | some b =>
    if 255 < first + sent.length - 1 then s.refuse .range []
    else
      (s.updateBank b (Bank.putRecords first (sent.map recordOf))).accept
        (sent.zipIdx.flatMap fun x => toBytes 1 (first + x.2) ++ toBytes 1 (recordMarks x.1))

/-- RECIPE_PUT_RECORDS: the event of taking it. -/
def execRecipePutRecords (s : State) : Host.Outcome State Fault Refusal :=
  s.takeRequest 0x12 anyBody fun body t => t.recipePutRecords body

/-- A class entry as it is stored, its fields clamped to their codes (R111). -/
def entryOf (bs : List Byte) : ClassEntry :=
  { dest := Dest.ofCode (byteAt bs 1)
    terms := { prec := min (byteAt bs 2) 7, lead := byteAt bs 3, trail := byteAt bs 4,
               widen := min (byteAt bs 5) 3, report := decide (1 ≤ byteAt bs 6) } }

/-- The marks of the fields of a class entry that were clamped (spec/10 section 10.8.5). -/
def entryMarks (bs : List Byte) : Nat :=
  bit (decide (2 < byteAt bs 1)) 1 + bit (decide (7 < byteAt bs 2)) 2 +
    bit (decide (3 < byteAt bs 5)) 4 + bit (decide (1 < byteAt bs 6)) 8

/-- Class entries written, each at the class its first byte names (R111). -/
def Bank.putClasses (es : List (List Byte)) (b : Bank) : Bank :=
  { b with classes := tabulate 16 fun c =>
      match es.find? fun e => byteAt e 0 == c.val with
      | some e => some (entryOf e)
      | none => look b.classes c }

/-- RECIPE_PUT_CLASSES (R111). -/
def State.recipePutClasses (body : List Byte) (s : State) : Answer :=
  let sent := chunks 7 body.length body
  let named := sent.map fun e => byteAt e 0
  match s.bankIn .loading with
  | none => s.refuse .state []
  | some b =>
    if named.any fun c => decide (15 < c) then s.refuse .range []
    else if named.Nodup then
      (s.updateBank b (Bank.putClasses sent)).accept
        (sent.flatMap fun e => toBytes 1 (byteAt e 0) ++ toBytes 1 (entryMarks e))
    else s.refuse .duplicate []

/-- RECIPE_PUT_CLASSES: the event of taking it. -/
def execRecipePutClasses (s : State) : Host.Outcome State Fault Refusal :=
  s.takeRequest 0x13 anyBody fun body t => t.recipePutClasses body

/-! ### Commit -/

/-- A stored record as the ten bytes of the check (R114). -/
def TestRecord.bytes (r : TestRecord) : List Byte :=
  toBytes 1 r.feature.val ++ toBytes 1 r.op.code ++ toBytes 2 r.a.toNat ++ toBytes 2 r.b.toNat ++
    toBytes 2 r.onTrue.code ++ toBytes 2 r.onFalse.code

/-- A stored class entry as the six bytes of the check (R114). -/
def ClassEntry.bytes (e : ClassEntry) : List Byte :=
  toBytes 1 e.dest.code ++ toBytes 1 e.terms.prec ++ toBytes 1 e.terms.lead ++ toBytes 1 e.terms.trail ++
    toBytes 1 e.terms.widen ++ toBytes 1 (bit e.terms.report 1)

/-- The byte sequence of the check: records 0 to count − 1, then the class table (R114). -/
def Bank.checkBytes (count : Nat) (b : Bank) : List Byte :=
  (b.records.toList.take count).flatMap (fun r => (r.map TestRecord.bytes).getD []) ++
    b.classes.toList.flatMap fun e => (e.map ClassEntry.bytes).getD []

/-- The check of a bank (R114). -/
def Bank.check (count : Nat) (b : Bank) : Nat := (crc16 (b.checkBytes count)).toNat

/-- Does a target name a record index at or above the record count? (R113) -/
def Target.beyond (count : Nat) : Target → Bool
  | .record i => count ≤ i.val
  | .cls _ => false
  | .unresolved => false

/-- Does a record name such a target? -/
def TestRecord.beyond (count : Nat) (r : TestRecord) : Bool := r.onTrue.beyond count || r.onFalse.beyond count

/-- The lowest index below the record count at which no record is written (R113, order 1). -/
def Bank.missingRecord (count : Nat) (b : Bank) : Option (Fin 256) :=
  (List.finRange 256).find? fun i => decide (i.val < count) && (look b.records i).isNone

/-- The lowest class that is not written (R113, order 2). -/
def Bank.missingClass (b : Bank) : Option (Fin 16) := (List.finRange 16).find? fun c => (look b.classes c).isNone

/-- The lowest index below the record count of a record with a target out of the chain (R113, order 4). -/
def Bank.badRecord (count : Nat) (b : Bank) : Option (Fin 256) :=
  (List.finRange 256).find? fun i =>
    decide (i.val < count) && ((look b.records i).map (TestRecord.beyond count)).getD false

/-- The first failure of the validation with what its reply carries, none for a sound bank (R113). -/
def Bank.failure (count root check : Nat) (b : Bank) : Option (Status × List Byte) :=
  match b.missingRecord count with
  | some i => some (.incomplete, toBytes 1 0 ++ toBytes 1 i.val)
  | none =>
    match b.missingClass with
    | some c => some (.incomplete, toBytes 1 1 ++ toBytes 1 c.val)
    | none =>
      if count ≤ root then some (.badTarget, toBytes 1 2 ++ toBytes 1 root)
      else
        match b.badRecord count with
        | some i => some (.badTarget, toBytes 1 0 ++ toBytes 1 i.val)
        | none => if b.check count = check then none else some (.check, toBytes 2 (b.check count))

/-- The LOADING bank as it becomes ACTIVE (R115, step 2). -/
def Bank.committed (count root : Nat) (unresolved : Dest) (label : Nat) (gen : Gen) (b : Bank) : Bank :=
  { b with
    state := .active
    records := tabulate 256 fun i => if i.val < count then look b.records i else none
    count := count, root := root, unresolved := unresolved, label := label, gen := gen }

/-- The bank that was ACTIVE: RETIRING while pieces are pinned to it, else EMPTY (R115, step 3). -/
def Bank.retired (b : Bank) : Bank := if 0 < b.pins then { b with state := .retiring } else Bank.blank

/-- The swap of a commit, as one change (R115). -/
def State.swapBanks (b : BankId) (count root : Nat) (unresolved : Dest) (label : Nat) (s : State) : State :=
  let gen := s.rcs.generation + 1
  { s with
    rcs := {
      generation := gen
      banks := tabulate 2 fun j =>
        if j = b then (s.bank j).committed count root unresolved label gen
        else if (s.bank j).state = .active then (s.bank j).retired
        else s.bank j } }

/-- RECIPE_COMMIT (R112, R113, R115). -/
def State.recipeCommit (body : List Byte) (s : State) : Answer :=
  let count := field body 0 2
  let root := byteAt body 2
  let dest := byteAt body 3
  match s.bankIn .loading with
  | none => s.refuse .state []
  | some b =>
    if count = 0 ∨ 256 < count then s.refuse .range []
    else
      match (s.bank b).failure count root (field body 8 2) with
      | some f => s.refuse f.1 f.2
      | none =>
        (s.swapBanks b count root (Dest.ofCode dest) (field body 4 4)).accept
          (bankByte b ++ toBytes 2 (s.rcs.generation + 1).toNat ++ toBytes 1 (bit (decide (2 < dest)) 1))

/-- RECIPE_COMMIT: the event of taking it. -/
def execRecipeCommit (s : State) : Host.Outcome State Fault Refusal :=
  s.takeRequest 0x14 anyBody fun body t => t.recipeCommit body

/-! ### Abandon and information -/

/-- RECIPE_ABANDON (R118). -/
def State.recipeAbandon (s : State) : Answer :=
  match s.bankIn .loading with
  | none => s.refuse .state []
  | some b => (s.updateBank b fun _ => Bank.blank).accept (bankByte b)

/-- RECIPE_ABANDON: the event of taking it. -/
def execRecipeAbandon (s : State) : Host.Outcome State Fault Refusal :=
  s.takeRequest 0x15 anyBody fun _ t => t.recipeAbandon

/-- How many places of a table hold something: the size of a written set (R119). -/
def heldCount {α : Type} (v : List (Option α)) : Nat := (v.filter Option.isSome).length

/-- One bank as RECIPE_INFO gives it (R119, spec/10 section 10.8.5). -/
def Bank.info (b : Bank) : List Byte :=
  let recipe := b.state = .active ∨ b.state = .retiring
  toBytes 1 b.state.code ++ toBytes 2 b.pins ++
    (if recipe then
      toBytes 2 b.gen.toNat ++ toBytes 4 b.label ++ toBytes 2 b.count ++ toBytes 1 b.root ++
        toBytes 1 b.unresolved.code
    else toBytes 10 0) ++
    (if b.state = .loading then
      toBytes 2 (heldCount b.records.toList) ++ toBytes 1 (heldCount b.classes.toList)
    else toBytes 3 0)

/-- RECIPE_INFO (R119). -/
def State.recipeInfo (s : State) : Answer :=
  s.accept (toBytes 2 s.rcs.generation.toNat ++ (s.bank 0).info ++ (s.bank 1).info)

/-- RECIPE_INFO: the event of taking it. -/
def execRecipeInfo (s : State) : Host.Outcome State Fault Refusal :=
  s.takeRequest 0x16 anyBody fun _ t => t.recipeInfo

end Sys2Proof.Machine
end

