-- ==== Sys2Proof/Machine/Reset.lean ====
section
/-! DEFINITION. The two resets: SOFT_RESET and HARD_RESET, by the reset tables of spec/01 to spec/11. -/
namespace Sys2Proof.Machine

/-- A valve after a soft reset (R167). -/
def Valve.softened (v : Valve) : Valve :=
  { Valve.rest with state := if v.state = .disabled then .disabled else .closed, actuations := v.actuations }

/-- A bank after a soft reset: the ACTIVE one is kept with no pins, any other is EMPTY (R120). -/
def Bank.softened (b : Bank) : Bank := if b.state = .active then { b with pins := 0 } else Bank.blank

/-- The BLT after a soft reset (R57). -/
def Blt.softened (b : Blt) : Blt :=
  { b with
    settle := Vector.replicate 96 ⟨.track, .track, .track, .track⟩
    status := .none, acc := SurveyAcc.zero, results := none }

/-- The statistics after a soft reset: every group at 0 but LINK (R207). -/
def Sta.softened (t : Sta) : Sta := (((t.clearGroup 0).clearGroup 1).clearGroup 2).clearGroup 3

/-- Everything a soft reset does before the air is read: each block at its soft-reset values and the ENGINE notice of
R181 in the empty notice queue (R16, R39, R57, R85, R107, R120, R148, R167, R181, R197, R200, R204, R207). The speed
update interval starts anew (DESIGN CHOICE, log entry 2). -/
def State.softened (a b : Bool) (air : Air) (s : State) : State :=
  { bpu := { State.reset.bpu with refA := a, refB := b, nextLine := s.cdu.line.get .lineTicks }
    sli := { State.reset.sli with kept := s.cdu.line.disturbingValues }
    cdu := { s.cdu with staged := StagedSet.empty, hold := false }
    blt := s.blt.softened
    seg := State.reset.seg
    cls := State.reset.cls
    rcs := { s.rcs with banks := tabulate 2 fun i => (look s.rcs.banks i).softened }
    lsc := State.reset.lsc
    vdr := { State.reset.vdr with
      valves := tabulate 48 fun l =>
        ⟨(look s.vdr.valves l).up.softened, (look s.vdr.valves l).down.softened⟩
      air := air }
    eng := State.reset.eng
    lnk := { State.reset.lnk with
      rate := s.lnk.rate, notices := [.engine s.eng.state .idle .reset {} 0 .soft] }
    ldm := State.reset.ldm
    cap := State.reset.cap
    sta := s.sta.softened
    bltLines := [], segLines := [], ldmLines := [], capLines := []
    sinceSpeed := 0, freeIndex := s.freeIndex, pending := s.pending }

/-- Everything a hard reset does before the air is judged: the machine of State.reset, with the sampled inputs. The speed
update interval starts anew (DESIGN CHOICE, log entry 2). -/
def State.hardened (a b : Bool) (air : Air) (straps : Fin 4) (s : State) : State :=
  { State.reset with
    bpu := { State.reset.bpu with refA := a, refB := b }
    vdr := { State.reset.vdr with air := air }
    lnk := { State.reset.lnk with rate := straps }
    freeIndex := s.freeIndex
    pending := s.pending }

/-- The air read at the end of a reset: a loss raises AIR_LOST after the ENGINE notice (R157, R181). -/
def State.judgeAir (s : State) : State :=
  match s.vdr.air with
  | .present => s
  | .lost => s.raiseFault .airLost

/-- SOFT_RESET (R180, R181): it comes about once the reply to the RESET request has been sent in full. -/
def execSoftReset (a b : Bool) (air : Air) (s : State) : Host.Outcome State Fault Refusal :=
  if s.eng.resetPending ∧ s.eng.resetReplySent then .next (s.softened a b air).judgeAir else .next s

/-- HARD_RESET (R181): at power-on or by the RESET pin, in any state. -/
def execHardReset (a b : Bool) (air : Air) (straps : Fin 4) (s : State) : Host.Outcome State Fault Refusal :=
  .next (s.hardened a b air straps).judgeAir

end Sys2Proof.Machine
end

