-- ==== Sys2Proof/Machine/Valves.lean ====
section
/-! DEFINITION. The commands of the Valve Driver (spec/08): the timer expiries, air, coil faults, VALVE_SET, VALVE_PULSE
and VALVE_STATE; and LANE_READ (spec/07, R145). -/
namespace Sys2Proof.Machine

/-! ### Timers -/

/-- MAX_ON expiry of an OPEN valve: RECOVER, the served entry retires TRUNCATED, and the valve is judged (R150,
R154). -/
def State.truncate (l : Lane) (r : Row) (s : State) : State :=
  let served := s.activeEntry l r
  let t := s.enterRecover l r
  let u :=
    match served with
    | some e => t.retire l e .truncated
    | none => t
  u.judge l r .late

/-- MAX_ON_EXPIRY (R154): it comes about while the valve is OPEN and its MAX_ON timer runs (log entry 2). -/
def execMaxOnExpiry (l : Lane) (r : Row) (s : State) : Host.Outcome State Fault Refusal :=
  if (s.valve l r).state = .opened ∧ (s.valve l r).maxOn.isSome then .next (s.truncate l r) else .next s

/-- MIN_OFF expiry of a valve in RECOVER: CLOSED and judged; an entry opened now is LATE_START when its open trigger is
reached (R155). -/
def State.endRecover (l : Lane) (r : Row) (s : State) : State :=
  (s.setValve l r ((s.valve l r).idleIn .closed)).judge l r .late

/-- MIN_OFF_EXPIRY (R155): it comes about while the valve is in RECOVER (log entry 2). -/
def execMinOffExpiry (l : Lane) (r : Row) (s : State) : Host.Outcome State Fault Refusal :=
  if (s.valve l r).state = .recover then .next (s.endRecover l r) else .next s

/-- Pulse expiry: RECOVER as at a close, and the valve is judged (R150, R161). -/
def State.endPulse (l : Lane) (r : Row) (s : State) : State := (s.enterRecover l r).judge l r .late

/-- PULSE_EXPIRY (R161): it comes about while the valve is OPEN for a test pulse (log entry 2). -/
def execPulseExpiry (l : Lane) (r : Row) (s : State) : Host.Outcome State Fault Refusal :=
  if (s.valve l r).state = .opened ∧ (s.valve l r).served = .pulse then .next (s.endPulse l r) else .next s

/-! ### Air -/

/-- One valve at an air loss: an OPEN one closes directly to CLOSED and its served entry retires AIR_LOST (R156). -/
def State.loseAirAt (l : Lane) (r : Row) (s : State) : State :=
  if (s.valve l r).state = .opened then
    let served := s.activeEntry l r
    let t := s.setValve l r ((s.valve l r).idleIn .closed)
    match served with
    | some e => t.retire l e .airLost
    | none => t
  else s

/-- The loss of the air (R156). -/
def State.loseAir (s : State) : State :=
  (valveOrder.foldl (fun (t : State) v => t.loseAirAt v.1 v.2) { s with vdr.air := .lost }).raiseFault .airLost

/-- AIR_LOST (R156): AIR_OK changes from present to lost. -/
def execAirLost (s : State) : Host.Outcome State Fault Refusal :=
  match s.vdr.air with
  | .present => .next s.loseAir
  | .lost => .next s

/-- The return of the air: the notice of the Engine Control, then every valve is judged (R157, R177). -/
def State.regainAir (s : State) : State :=
  ((State.offer (.fault .airRestored s.eng.state s.eng.flags s.bpu.pos)
    { s with vdr.air := .present }).judgeAll .late)

/-- AIR_RESTORED (R157): AIR_OK changes from lost to present. -/
def execAirRestored (s : State) : Host.Outcome State Fault Refusal :=
  match s.vdr.air with
  | .lost => .next s.regainAir
  | .present => .next s

/-! ### Return frames -/

/-- RETURN_FRAME_START (R159): the receiver of the valve bus leaves waiting for a frame start. Inside a frame it changes
nothing (DESIGN CHOICE, log entry 5). -/
def execReturnFrameStart (s : State) : Host.Outcome State Fault Refusal :=
  .next { s with vdr.inFrame := true }

/-- Is a valve in a state in which a coil FAULT takes it out of service? (R159) -/
def ValveState.inService : ValveState → Bool
  | .closed => true | .opened => true | .recover => true | .disabled => false | .faulted => false

/-- One valve's report in a good return frame (R159). -/
def State.takeReport (c : CoilReport) (s : State) : State :=
  let v := s.valve c.lane c.row
  let t := s.setValve c.lane c.row { v with coil := c.coil }
  if c.coil = .fault ∧ v.state.inService then
    (t.takeOut c.lane c.row .faulted).raiseFault .valveFault
  else t

/-- VALVE_RETURN_FRAME (R159): a good frame's reports are taken in the order they stand in it. -/
def execValveReturnFrame (reports : List CoilReport) (crcMatches framingError : Bool) (s : State) :
    Host.Outcome State Fault Refusal :=
  if s.vdr.inFrame then
    let t := { s with vdr.inFrame := false }
    if crcMatches ∧ framingError = false then
      .next (reports.foldl (fun (u : State) c => u.takeReport c) t)
    else .next t
  else .next s

/-! ### VALVE_SET -/

/-- The row of a code (spec/10 section 10.8.5). -/
def Row.ofCode : Nat → Option Row
  | 0 => some .up | 1 => some .down | _ => none

/-- The lane of a number. -/
def laneOf (n : Nat) : Option Lane := if h : n < 48 then some ⟨n, h⟩ else none

/-- DISABLE of a valve (R158). -/
def State.disable (l : Lane) (r : Row) (s : State) : State :=
  if (s.valve l r).state = .disabled then s else s.takeOut l r .disabled

/-- ENABLE of a valve: a DISABLED or FAULTED one becomes CLOSED and is judged (R158). -/
def State.enable (l : Lane) (r : Row) (s : State) : State :=
  if (s.valve l r).state = .disabled ∨ (s.valve l r).state = .faulted then
    (s.setValve l r ((s.valve l r).idleIn .closed)).judge l r (.ordinary s.openReach)
  else s

/-- VALVE_SET (R158). -/
def State.valveSet (body : List Byte) (s : State) : Answer :=
  match laneOf (byteAt body 0), Row.ofCode (byteAt body 1) with
  | some l, some r =>
    if byteAt body 2 = 0 then
      let t := s.enable l r
      t.accept (toBytes 1 (t.valve l r).state.code)
    else if byteAt body 2 = 1 then
      let t := s.disable l r
      t.accept (toBytes 1 (t.valve l r).state.code)
    else s.refuse .range []
  | _, _ => s.refuse .range []

/-- VALVE_SET with action ENABLE: the event of taking it. -/
def execValveEnable (s : State) : Host.Outcome State Fault Refusal :=
  s.takeRequest 0x18 (notOther 3 2 1) fun body t => t.valveSet body

/-- VALVE_SET with action DISABLE: the event of taking it. -/
def execValveDisable (s : State) : Host.Outcome State Fault Refusal :=
  s.takeRequest 0x18 (notOther 3 2 0) fun body t => t.valveSet body

/-! ### Test pulse and valve state -/

/-- The duration that a VALVE_PULSE takes (R161). -/
def State.pulseTaken (s : State) (sent : Nat) : Nat := max 1 (min sent (s.own .maxOn))

/-- VALVE_PULSE (R161), judged in the order of its table. -/
def State.valvePulse (body : List Byte) (s : State) : Answer :=
  let sent := field body 2 4
  match laneOf (byteAt body 0), Row.ofCode (byteAt body 1) with
  | some l, some r =>
    let v := s.valve l r
    if s.eng.state ≠ .idle then s.refuse .state []
    else if v.state = .disabled ∨ v.state = .faulted then s.refuse .state []
    else if s.vdr.air = .lost then s.refuse .notReady []
    else if s.lane l ≠ [] ∨ v.state = .opened ∨ v.state = .recover then s.refuse .busy []
    else
      let d := s.pulseTaken sent
      (s.setValve l r
        { v with state := .opened, served := .pulse, pulse := some d,
                 actuations := satAdd Config.countMax v.actuations 1 }).accept
        (toBytes 4 d ++ toBytes 1 (bit (d != sent) 1))
  | _, _ => s.refuse .range []

/-- VALVE_PULSE: the event of taking it. -/
def execValvePulse (s : State) : Host.Outcome State Fault Refusal :=
  s.takeRequest 0x19 anyBody fun body t => t.valvePulse body

/-- One valve as VALVE_STATE gives it (R162). -/
def Valve.bytes (v : Valve) : List Byte :=
  toBytes 1 v.state.code ++ toBytes 1 v.served.code ++ toBytes 1 (coilCode v.coil)

/-- VALVE_STATE (R162). -/
def State.valveState (s : State) : Answer :=
  s.accept (toBytes 1 (airCode s.vdr.air) ++ toBytes 2 s.bpu.speed ++ toBytes 2 s.vdr.leadOpen ++
    toBytes 2 s.vdr.leadClose ++ valveOrder.flatMap fun v => (s.valve v.1 v.2).bytes)

/-- VALVE_STATE: the event of taking it. -/
def execValveState (s : State) : Host.Outcome State Fault Refusal :=
  s.takeRequest 0x1A anyBody fun _ t => t.valveState

/-! ### LANE_READ -/

/-- One entry as LANE_READ gives it (R145, spec/10 section 10.8.5). -/
def Entry.bytes (e : Entry) : List Byte :=
  toBytes 1 e.row.code ++ toBytes 6 e.start ++ toBytes 6 e.stop ++
    (match e.owner with
      | some o => toBytes 1 0 ++ toBytes 1 o.1.val ++ toBytes 4 o.2.toNat
      | none => toBytes 1 1 ++ toBytes 5 0) ++
    toBytes 1 e.prec ++ toBytes 1 (bit e.active 1) ++ toBytes 1 e.marks

/-- LANE_READ (R145). -/
def State.laneRead (body : List Byte) (s : State) : Answer :=
  match laneOf (byteAt body 0) with
  | none => s.refuse .range []
  | some l => s.accept (toBytes 1 l.val ++ toBytes 1 (s.lane l).length ++ (s.lane l).flatMap Entry.bytes)

/-- LANE_READ: the event of taking it. -/
def execLaneRead (s : State) : Host.Outcome State Fault Refusal :=
  s.takeRequest 0x17 anyBody fun body t => t.laneRead body

end Sys2Proof.Machine
end

