-- ==== Sys2Proof/Machine/Dispatch.lean ====
section
/-! DEFINITION. The meaning of every command: one arm for each row of spec/opcode_table.json. -/
namespace Sys2Proof.Machine

def exec (i : Instr) (s : State) : Host.Outcome State Fault Refusal :=
  match i with
  | .encoderTransition a b => Sys2Proof.Machine.execEncoderTransition a b s
  | .speedUpdate => Sys2Proof.Machine.execSpeedUpdate s
  | .lineRequestSend => Sys2Proof.Machine.execLineRequestSend s
  | .sensorFrameEnd bytes framingError => Sys2Proof.Machine.execSensorFrameEnd bytes framingError s
  | .bltTakeLine => Sys2Proof.Machine.execBltTakeLine s
  | .segTakeLine => Sys2Proof.Machine.execSegTakeLine s
  | .ldmTakeLine => Sys2Proof.Machine.execLdmTakeLine s
  | .capTakeLine => Sys2Proof.Machine.execCapTakeLine s
  | .walkStart => Sys2Proof.Machine.execWalkStart s
  | .testEvaluate => Sys2Proof.Machine.execTestEvaluate s
  | .walkEnd => Sys2Proof.Machine.execWalkEnd s
  | .placePiece src => Sys2Proof.Machine.execPlacePiece src s
  | .placeUntracked => Sys2Proof.Machine.execPlaceUntracked s
  | .maxOnExpiry lane row => Sys2Proof.Machine.execMaxOnExpiry lane row s
  | .minOffExpiry lane row => Sys2Proof.Machine.execMinOffExpiry lane row s
  | .pulseExpiry lane row => Sys2Proof.Machine.execPulseExpiry lane row s
  | .airLost => Sys2Proof.Machine.execAirLost s
  | .airRestored => Sys2Proof.Machine.execAirRestored s
  | .valveReturnFrame reports crcMatches framingError => Sys2Proof.Machine.execValveReturnFrame reports crcMatches framingError s
  | .linkFrameEnd bytes => Sys2Proof.Machine.execLinkFrameEnd bytes s
  | .linkFramingError => Sys2Proof.Machine.execLinkFramingError s
  | .gapAbort => Sys2Proof.Machine.execGapAbort s
  | .transmitFrame => Sys2Proof.Machine.execTransmitFrame s
  | .unknownKind => Sys2Proof.Machine.execUnknownKind s
  | .hello => Sys2Proof.Machine.execHello s
  | .status => Sys2Proof.Machine.execStatus s
  | .set => Sys2Proof.Machine.execSet s
  | .get => Sys2Proof.Machine.execGet s
  | .hold => Sys2Proof.Machine.execHold s
  | .release => Sys2Proof.Machine.execRelease s
  | .sortStart => Sys2Proof.Machine.execSortStart s
  | .sortStopDrain => Sys2Proof.Machine.execSortStopDrain s
  | .sortStopAbandon => Sys2Proof.Machine.execSortStopAbandon s
  | .flush => Sys2Proof.Machine.execFlush s
  | .clear => Sys2Proof.Machine.execClear s
  | .reset => Sys2Proof.Machine.execReset s
  | .softReset a b air => Sys2Proof.Machine.execSoftReset a b air s
  | .hardReset a b air straps => Sys2Proof.Machine.execHardReset a b air straps s
  | .surveyStart => Sys2Proof.Machine.execSurveyStart s
  | .surveyStop => Sys2Proof.Machine.execSurveyStop s
  | .surveyResult => Sys2Proof.Machine.execSurveyResult s
  | .baselineRead => Sys2Proof.Machine.execBaselineRead s
  | .baselineWrite => Sys2Proof.Machine.execBaselineWrite s
  | .recipeOpen => Sys2Proof.Machine.execRecipeOpen s
  | .recipePutRecords => Sys2Proof.Machine.execRecipePutRecords s
  | .recipePutClasses => Sys2Proof.Machine.execRecipePutClasses s
  | .recipeCommit => Sys2Proof.Machine.execRecipeCommit s
  | .recipeAbandon => Sys2Proof.Machine.execRecipeAbandon s
  | .recipeInfo => Sys2Proof.Machine.execRecipeInfo s
  | .laneRead => Sys2Proof.Machine.execLaneRead s
  | .valveEnable => Sys2Proof.Machine.execValveEnable s
  | .valveDisable => Sys2Proof.Machine.execValveDisable s
  | .valvePulse => Sys2Proof.Machine.execValvePulse s
  | .valveState => Sys2Proof.Machine.execValveState s
  | .captureArmNow => Sys2Proof.Machine.execCaptureArmNow s
  | .captureArmClass => Sys2Proof.Machine.execCaptureArmClass s
  | .captureCancel => Sys2Proof.Machine.execCaptureCancel s
  | .captureRead => Sys2Proof.Machine.execCaptureRead s
  | .statsRead => Sys2Proof.Machine.execStatsRead s
  | .statsReadClear => Sys2Proof.Machine.execStatsReadClear s
  | .linkFrameStart => Sys2Proof.Machine.execLinkFrameStart s
  | .sensorFrameStart => Sys2Proof.Machine.execSensorFrameStart s
  | .returnFrameStart => Sys2Proof.Machine.execReturnFrameStart s
  | .linkFrameSent => Sys2Proof.Machine.execLinkFrameSent s

end Sys2Proof.Machine
end

