-- ==== Sys2Proof/Machine/Time.lean ====
section
/-! DEFINITION. The passing of one microsecond while no command waits (log entry 2): the readings of the running valve
timers, and the commands that fall due. -/
namespace Sys2Proof.Machine

/-- The running timers of a valve one microsecond on; the MAX_ON reading stops at its limit (spec/08 section 8.1). -/
def Valve.tick (v : Valve) : Valve :=
  { v with
    maxOn := v.maxOn.map fun t => { t with elapsed := min t.limit (t.elapsed + 1) }
    minOff := v.minOff.map fun n => n - 1
    pulse := v.pulse.map fun n => n - 1 }

/-- Has the MAX_ON timer reached the MAX_ON_US it was started under? (R154) -/
def OnTimer.due (t : OnTimer) : Bool := t.limit ≤ t.elapsed

/-- The expiry commands that a valve's timers make due (R154, R155, R161). -/
def Valve.dueCommands (l : Lane) (r : Row) (v : Valve) : List Instr :=
  (if (v.maxOn.map OnTimer.due).getD false then [.maxOnExpiry l r] else []) ++
    (if v.minOff = some 0 then [.minOffExpiry l r] else []) ++
    (if v.pulse = some 0 then [.pulseExpiry l r] else [])

/-- Both valves of a lane one microsecond on. -/
def ValvePair.tick (p : ValvePair) : ValvePair := ⟨p.up.tick, p.down.tick⟩

/-- The expiry commands that are due, in lane order, UP before DOWN. -/
def State.dueExpiries (s : State) : List Instr :=
  valveOrder.flatMap fun v => (s.valve v.1 v.2).dueCommands v.1 v.2

/-- Microseconds between two speed updates (R10). -/
def speedPeriod : Nat := 1000

/-- One microsecond passes: the timers run, due expiries join the queue, and every millisecond the speed update joins it
(R10, R154, R155, R161). -/
def State.microsecond (s : State) : State :=
  let t := { s with vdr.valves := tabulate 48 fun l => (look s.vdr.valves l).tick }
  if speedPeriod ≤ s.sinceSpeed + 1 then
    { t with sinceSpeed := 0, pending := t.pending ++ t.dueExpiries ++ [.speedUpdate] }
  else { t with sinceSpeed := s.sinceSpeed + 1, pending := t.pending ++ t.dueExpiries }

end Sys2Proof.Machine
end

