-- ==== Sys2Proof/Safety.lean ====
section
/-! DEFINITION. What the claims speak of: a request that stands to be taken and its answer, and the properties of the
part that every step keeps. -/
namespace Sys2Proof.Machine

/-! ### Requests -/

/-- The oldest frame of the inbound queue is a request of a kind and the link unit may take it: a reply place is free
and no soft reset is pending (R187). -/
def State.asked (s : State) (kind : Nat) (f : Frame) (rest : List Frame) : Prop :=
  s.lnk.inbound = f :: rest ∧ f.kind.toNat = kind ∧ s.lnk.replies.length < 4 ∧ s.eng.resetPending = false

/-- The state in which a request has left the inbound queue and has its reply, with nothing else changed. -/
def State.answered (s : State) (f : Frame) (rest : List Frame) (st : Status) (data : List Byte) : State :=
  { s with
    lnk.inbound := rest
    lnk.replies := s.lnk.replies ++ [{ tag := f.tag, kind := f.kind, status := st, data := data }] }

/-- The state with the reply to a frame appended to the reply queue, with nothing else changed. -/
def State.replied (s : State) (f : Frame) (st : Status) (data : List Byte) : State :=
  { s with lnk.replies := s.lnk.replies ++ [{ tag := f.tag, kind := f.kind, status := st, data := data }] }

/-- The request kind of a row and the bodies of that kind that are the row's, none for a row that is no request. -/
def requestOf : Instr → Option (Nat × (List Byte → Bool))
  | .hello => some (0x01, anyBody)
  | .status => some (0x02, anyBody)
  | .set => some (0x03, anyBody)
  | .get => some (0x04, anyBody)
  | .hold => some (0x05, anyBody)
  | .release => some (0x06, anyBody)
  | .sortStart => some (0x07, anyBody)
  | .sortStopDrain => some (0x08, notOther 1 0 1)
  | .sortStopAbandon => some (0x08, notOther 1 0 0)
  | .flush => some (0x09, anyBody)
  | .clear => some (0x0A, anyBody)
  | .reset => some (0x0B, anyBody)
  | .surveyStart => some (0x0C, anyBody)
  | .surveyStop => some (0x0D, anyBody)
  | .surveyResult => some (0x0E, anyBody)
  | .baselineRead => some (0x0F, anyBody)
  | .baselineWrite => some (0x10, anyBody)
  | .recipeOpen => some (0x11, anyBody)
  | .recipePutRecords => some (0x12, anyBody)
  | .recipePutClasses => some (0x13, anyBody)
  | .recipeCommit => some (0x14, anyBody)
  | .recipeAbandon => some (0x15, anyBody)
  | .recipeInfo => some (0x16, anyBody)
  | .laneRead => some (0x17, anyBody)
  | .valveEnable => some (0x18, notOther 3 2 1)
  | .valveDisable => some (0x18, notOther 3 2 0)
  | .valvePulse => some (0x19, anyBody)
  | .valveState => some (0x1A, anyBody)
  | .captureArmNow => some (0x1B, notOther 5 1 1)
  | .captureArmClass => some (0x1B, notOther 5 1 0)
  | .captureCancel => some (0x1C, anyBody)
  | .captureRead => some (0x1D, anyBody)
  | .statsRead => some (0x1E, notOther 2 1 1)
  | .statsReadClear => some (0x1E, notOther 2 1 0)
  | .encoderTransition _ _ => none
  | .speedUpdate => none
  | .lineRequestSend => none
  | .sensorFrameEnd _ _ => none
  | .bltTakeLine => none
  | .segTakeLine => none
  | .ldmTakeLine => none
  | .capTakeLine => none
  | .walkStart => none
  | .testEvaluate => none
  | .walkEnd => none
  | .placePiece _ => none
  | .placeUntracked => none
  | .maxOnExpiry _ _ => none
  | .minOffExpiry _ _ => none
  | .pulseExpiry _ _ => none
  | .airLost => none
  | .airRestored => none
  | .valveReturnFrame _ _ _ => none
  | .linkFrameEnd _ => none
  | .linkFramingError => none
  | .gapAbort => none
  | .transmitFrame => none
  | .unknownKind => none
  | .softReset _ _ _ => none
  | .hardReset _ _ _ _ => none
  | .linkFrameStart => none
  | .sensorFrameStart => none
  | .returnFrameStart => none
  | .linkFrameSent => none

/-! ### Frames -/

/-- The part of the state that the life of pieces and entries does not touch. -/
structure Steady where
  bpu : Bpu
  sli : Sli
  cdu : Cdu
  baseline : Vector (Quad Nat) 96
  settle : Vector (Quad Settle) 96
  refLevel : Quad Nat
  valid : Bool
  results : Option SurveyResults
  generation : Gen
  air : Air
  leadOpen : Nat
  leadClose : Nat
  busFrame : Bool
  resetPending : Bool
  resetReplySent : Bool
  rate : Fin 4
  linkFrame : Bool
  inbound : List Frame
  replies : List Reply
  sending : Option Sending
  load : Ldm
  cap : Cap
  bltLines : List Line
  segLines : List Line
  ldmLines : List Line
  capLines : List Line
  sinceSpeed : Nat
  freeIndex : Nat
  pending : List Instr

/-- The steady part of a state; of the load monitor all but the merge count. -/
def State.steady (s : State) : Steady :=
  { bpu := s.bpu, sli := s.sli, cdu := s.cdu, baseline := s.blt.baseline, settle := s.blt.settle,
    refLevel := s.blt.refLevel, valid := s.blt.valid, results := s.blt.results, generation := s.rcs.generation,
    air := s.vdr.air, leadOpen := s.vdr.leadOpen, leadClose := s.vdr.leadClose, busFrame := s.vdr.inFrame,
    resetPending := s.eng.resetPending, resetReplySent := s.eng.resetReplySent, rate := s.lnk.rate,
    linkFrame := s.lnk.inFrame, inbound := s.lnk.inbound, replies := s.lnk.replies, sending := s.lnk.sending,
    load := { s.ldm with merges := 0 }, cap := s.cap, bltLines := s.bltLines, segLines := s.segLines,
    ldmLines := s.ldmLines, capLines := s.capLines, sinceSpeed := s.sinceSpeed, freeIndex := s.freeIndex,
    pending := s.pending }

/-! ### Belt -/

/-- The steps of the forward cycle of spec/01 section 1.2 under A_LEADS, each from one pair of levels to the next. -/
def forwardCycle : List ((Bool × Bool) × (Bool × Bool)) :=
  [((false, false), (true, false)), ((true, false), (true, true)), ((true, true), (false, true)),
   ((false, true), (false, false))]

/-- The step from one pair of levels to another is forward travel under an ENC_POLARITY: 0 is A_LEADS (R1, R3). -/
def ticksForward (polarity : Nat) (old new : Bool × Bool) : Prop :=
  if polarity = 0 then (old, new) ∈ forwardCycle else (new, old) ∈ forwardCycle

/-- The step is backward travel (R1, R3). -/
def ticksBackward (polarity : Nat) (old new : Bool × Bool) : Prop := ticksForward polarity new old

/-! ### Sensor lines -/

/-- A frame on the sensor bar link that R19 does not find bad, where it did not break off. -/
def sensorFrameSound (bytes : List Byte) : Prop :=
  bytes.length = 900 ∧ field bytes 898 2 = (crc16 (bytes.take 898)).toNat ∧
    ∀ j < 448, field bytes (2 + 2 * j) 2 ≤ 16383

/-- The belt cell lies in the window of a snapshot (R27). -/
def cellInWindow (snap : LineSettings) (i : Fin 96) : Prop :=
  snap.get .winStart ≤ i.val ∧ i.val < snap.get .winStart + min (snap.get .winWidth) (96 - snap.get .winStart)

/-- The conditioned samples of a cell meet a threshold of a snapshot on some channel (R31). -/
def thresholdsMet (snap : LineSettings) (c : Quad Int) : Prop :=
  ∃ k, (snap.get (.occHi k) : Int) ≤ c.get k ∨
    (0 < snap.get (.occLo k) ∧ c.get k ≤ -(snap.get (.occLo k) : Int))

/-- The samples of a belt cell of a line are background samples (R41, R42). -/
def backgroundCell (load : LoadState) (ln : Line) (i : Fin 96) : Prop :=
  ln.samples ≠ none ∧ ln.disturbed = false ∧ look ln.marks i = .vacant ∧
    (load = .empty ∨
      (∀ j : Fin 96, j.val + 1 = i.val ∨ i.val + 1 = j.val → look ln.marks j ≠ .occupied) ∧
        look ln.prevMarks i ≠ .occupied)

/-! ### Settings -/

/-- A value that a SET of a LINE-class setting may take: in range, and even for WIN_START and WIN_WIDTH (R27,
R189). -/
def LineId.takes (i : LineId) (v : Nat) : Prop :=
  i.bounds.1 ≤ v ∧ v ≤ i.bounds.2 ∧ (i = .winStart ∨ i = .winWidth → v % 2 = 0)

/-- A value that a SET of another setting may take. -/
def OwnId.takes (i : OwnId) (v : Nat) : Prop := i.bounds.1 ≤ v ∧ v ≤ i.bounds.2

/-- Every setting in force and every staged value is one the part can take, and nothing is staged while HOLD is clear
(R34, R36, R189). -/
def State.settingsSound (s : State) : Prop :=
  (∀ i, LineId.takes i (s.cdu.line.get i)) ∧ (∀ i, OwnId.takes i (s.cdu.own.get i)) ∧
    (∀ i v, s.cdu.staged.get i = some v → LineId.takes i v) ∧
    (s.cdu.hold = false → ∀ i, s.cdu.staged.get i = none)

/-! ### Belt and leads -/

/-- The ranges of spec/01 section 1.1 and of the leads (R4, R7, R8, R9, R10, R149). -/
def State.beltSound (s : State) : Prop :=
  s.bpu.pos ≤ Config.posMax ∧ s.bpu.debt ≤ 65535 ∧ (s.bpu.excursion = true → 0 < s.bpu.debt) ∧
    s.bpu.speed ≤ 65535 ∧ s.vdr.leadOpen ≤ 328 ∧ s.vdr.leadClose ≤ 327

/-! ### Queues, lists and counts -/

/-- The bounds of the four queues of the link (R186, R187, R194, R195). -/
def State.linkSound (s : State) : Prop :=
  s.lnk.inbound.length ≤ 4 ∧ s.lnk.replies.length ≤ 4 ∧ s.lnk.notices.length ≤ 64 ∧
    (s.lnk.notices.filter Notice.isPiece).length ≤ 56 ∧ s.lnk.pendingLost ≤ 65535

/-- The bounds of the outstanding-trigger list, the missing-line run, the classify queue, the OPEN slots, the capture
ring and the post count (R18, R24, R66, R86, R202). -/
def State.listsSound (s : State) : Prop :=
  s.sli.outstanding.length ≤ 4 ∧ s.sli.missingRun ≤ 8 ∧ s.cls.queue.length ≤ 16 ∧ s.openCount ≤ 64 ∧
    s.cap.ring.length ≤ 256 ∧ s.cap.post ≤ 256

/-- No count is above 4294967295 (R162, R205). -/
def State.countsSound (s : State) : Prop :=
  (∀ c, s.sta.get c ≤ 4294967295) ∧ ∀ l r, (s.valve l r).actuations ≤ 4294967295

/-- The counts of a statistics group by its code, in the order returned (spec/11 section 11.3); the VALVE group (4) is the
actuation counts, which are the valves' own. -/
def statsGroup : Nat → List Counter
  | 0 => [.triggered, .missing, .disturbed, .stray, .frameErrors, .encoderErrors, .reverseLost]
  | 1 => [.opened, .absorbed, .fines, .finesSuppressed] ++ (List.finRange 16).map (fun c => .ofClass (.cls c)) ++
      [.ofClass .unresolved, .ofClass .overflow, .chainFaults]
  | 2 => List.map Counter.ofOutcome [.notEjected, .complete, .shortfall, .partialOutcome, .flushed, .abandoned] ++
      List.map Counter.ofRetire [.fired, .firedLate, .truncated, .recoverMiss, .airLost, .unavailable, .guardHeld]
  | 3 => [.placed, .trimmed, .droppedFull, .droppedLate, .untracked, .anonymous]
  | 5 => [.framesGood, .checkErrors, .framingErrors, .gapAborts, .overruns, .noticesLost, .piecesLost, .suppressed]
  | _ => []

/-! ### Pieces and walks -/

/-- The area of all pieces in the table together. -/
def State.tableArea (s : State) : Nat :=
  ((List.finRange 256).map fun i => ((s.piece i).map Piece.area).getD 0).sum

/-- The range of a feature by its index (R90). -/
def featureRange (i : Fin 16) : Int × Int :=
  look #v[(1, 32767), (1, 2051), (1, 96), (0, 256), (-2048, 2047), (-2048, 2047), (-2048, 2047), (-2048, 2047),
    (-2048, 2047), (0, 256), (-255, 255), (-32768, 32767), (0, 511), (0, 32767), (-32768, 32767), (0, 0)] i

/-- A walk within the limit of R99. -/
def walkSound (w : Walk) : Prop :=
  w.steps ≤ 24 ∧ (∀ i, w.point = .record i → w.steps < 24) ∧
    (∀ c, w.point = .ended c true → c = .unresolved ∧ w.steps = 24) ∧
    (∀ c fault, w.point = .ended c fault → c ≠ .overflow ∧ 1 ≤ w.steps)

/-! ### Recipes -/

/-- The occupied slots pinned to a bank. -/
def State.pinned (s : State) (b : BankId) : Nat :=
  ((List.finRange 256).filter fun i => (s.piece i).map Piece.bank == some b).length

/-- The pairs of bank states the Recipe Store can hold (R108). -/
def legalPair : BankState → BankState → Prop
  | .empty, .empty => True
  | .loading, .empty => True
  | .empty, .loading => True
  | .active, .empty => True
  | .empty, .active => True
  | .active, .loading => True
  | .loading, .active => True
  | .active, .retiring => True
  | .retiring, .active => True
  | _, _ => False

/-- The bank states are a legal pair, each pin count is the number of occupied slots pinned to the bank, and only an
ACTIVE or RETIRING bank has pins, a RETIRING one at least one (R108, R116, R117). -/
def State.recipesSound (s : State) : Prop :=
  legalPair (s.bank 0).state (s.bank 1).state ∧
    ∀ b, (s.bank b).pins = s.pinned b ∧
      ((s.bank b).state = .empty ∨ (s.bank b).state = .loading → (s.bank b).pins = 0) ∧
      ((s.bank b).state = .retiring → 0 < (s.bank b).pins)

/-! ### Lanes -/

/-- A lane schedule holds at most 16 entries with windows that are not empty, in order of start position, no two of
them sharing a belt position (R121). -/
def laneSound (es : List Entry) : Prop :=
  es.length ≤ 16 ∧ (∀ e ∈ es, e.start < e.stop) ∧ es.Pairwise fun a b => a.stop ≤ b.start

/-- Every lane is sound. -/
def State.lanesSound (s : State) : Prop := ∀ l, laneSound (s.lane l)

/-! ### Valves -/

/-- What the valve bus last carried for a valve. -/
def lastWrite (ws : List BusWrite) (l : Lane) (r : Row) : Option Bool :=
  (ws.reverse.find? fun w => decide (w.lane = l ∧ w.row = r)).map BusWrite.opened

/-- The bus shows each valve open exactly when the valve is in OPEN, and no valve is open while the air is lost
(R151). -/
def State.valvesSound (s : State) : Prop :=
  (∀ l r, lastWrite s.vdr.busWrites l r = some (s.valve l r).isOpen) ∧
    (s.vdr.air = .lost → ∀ l r, (s.valve l r).isOpen = false)

/-- A lane and row has one ACTIVE entry while its valve is OPEN for an entry, and none else (spec/07 section 7.1, R151,
R152). -/
def State.activitySound (s : State) : Prop :=
  ∀ l r, ((s.rowEntries l r).filter (·.active)).length =
    if (s.valve l r).state = .opened ∧ (s.valve l r).served = .entry then 1 else 0

/-- No step of the judgment of R150 applies to a valve: an entry it serves has its close trigger ahead; while it cannot
open, so has every PENDING entry of its row; and where it is CLOSED with the air present, the first of them has its open
trigger ahead. -/
def State.settled (s : State) (l : Lane) (r : Row) : Prop :=
  let v := s.valve l r
  (v.state = .opened → v.served = .entry → ∀ e, s.activeEntry l r = some e → s.bpu.pos + s.vdr.leadClose < e.stop) ∧
  (v.state = .recover ∨ (v.state = .opened ∧ v.served = .pulse) ∨ (v.state = .closed ∧ s.vdr.air = .lost) →
    ∀ e ∈ s.lane l, e.row = .ofRow r → e.active = false → s.bpu.pos + s.vdr.leadClose < e.stop) ∧
  (v.state = .closed → s.vdr.air = .present → ∀ e, s.firstPending l r = some e →
    s.bpu.pos + s.vdr.leadOpen < e.start)

/-- Every valve is settled. -/
def State.judged (s : State) : Prop := ∀ l r, s.settled l r

/-! ### Engine -/

/-- A survey runs exactly in SURVEY, and DRAINING is never held with no slot occupied (R168, R173). -/
def State.engineSound (s : State) : Prop :=
  (s.eng.state = .survey ↔ s.blt.status = .running) ∧ (s.eng.state = .draining → 0 < s.occupied)

/-- The two resets. -/
def isReset : Instr → Bool
  | .softReset _ _ _ => true
  | .hardReset _ _ _ _ => true
  | _ => false

/-- The hard reset. -/
def isHardReset : Instr → Bool
  | .hardReset _ _ _ _ => true
  | _ => false

/-- The commands that can raise a halting fault: a tick, or a frame that brings missing lines to light (R174). -/
def raisesHalting (c : Instr) : Prop :=
  (∃ a b, c = .encoderTransition a b) ∨ ∃ bytes broken, c = .sensorFrameEnd bytes broken

/-- The commands that can free the last occupied slot: the segmenter's line end, the placements, whatever judges a valve
or takes one out of service, an abandon and a flush (R173). -/
def freesSlots (c : Instr) : Prop :=
  c = .segTakeLine ∨ (∃ src, c = .placePiece src) ∨ c = .placeUntracked ∨ (∃ a b, c = .encoderTransition a b) ∨
    c = .speedUpdate ∨ c = .set ∨ (∃ l r, c = .maxOnExpiry l r) ∨ (∃ l r, c = .minOffExpiry l r) ∨
    (∃ l r, c = .pulseExpiry l r) ∨ c = .airLost ∨ c = .airRestored ∨
    (∃ reports good broken, c = .valveReturnFrame reports good broken) ∨ c = .valveEnable ∨ c = .valveDisable ∨
    c = .sortStopAbandon ∨ c = .flush

/-- The changes of engine state that a command may make: the lines of the table of R169, each by the steps that make it,
and SORT_STOP straight through DRAINING to IDLE (R173). -/
def mayMove (c : Instr) (old new : EngState) : Prop :=
  new = old ∨ match old, new with
    | .idle, .sorting => c = .sortStart
    | .idle, .survey => c = .surveyStart
    | .sorting, .draining => c = .sortStopDrain ∨ c = .sortStopAbandon
    | .sorting, .halted => raisesHalting c
    | .draining, .halted => raisesHalting c
    | .sorting, .idle => c = .sortStopDrain ∨ c = .sortStopAbandon ∨ isReset c = true
    | .draining, .idle => freesSlots c ∨ isReset c = true
    | .survey, .idle => c = .bltTakeLine ∨ c = .surveyStop ∨ raisesHalting c ∨ isReset c = true
    | .halted, .idle => c = .clear ∨ isReset c = true
    | _, _ => False

end Sys2Proof.Machine
end

