-- ==== Sys2Proof/Certificates/Slice0/Obligations.lean ====
section
/-! DEFINITION. The statements for the provers. Each says which rules of spec/ it rests on; a statement that rests on a
choice of the model names the log entry. Where a statement speaks of a request it is of the oldest frame of the inbound
queue, which the link unit may take (`State.asked`, R187), with a body length its layout allows. -/

open Sys2Proof Sys2Proof.Machine

/-! ### The queue of commands -/

/-- The command at the front of the queue runs with the queue's rest (log entry 1). -/
def Obligations.StepRunsTheFrontCommand : Prop :=
  ∀ (c : Instr) (rest : List Instr) (s : State), s.pending = c :: rest →
    step s = exec c { s with pending := rest }

/-- On an empty queue one microsecond passes: every running timer moves by one, each timer that reaches its end puts
its expiry into the queue, every thousandth microsecond puts SPEED_UPDATE there, and nothing else changes. This is the
model's choice of where time passes (log entry 2); the timers are those of R10, R154, R155 and R161. -/
def Obligations.IdleMicrosecondRunsTimers : Prop :=
  ∀ s : State, s.pending = [] → ∃ t, step s = .next t ∧
    (∀ l r, t.valve l r = { s.valve l r with
      maxOn := (s.valve l r).maxOn.map fun m => { m with elapsed := min m.limit (m.elapsed + 1) }
      minOff := (s.valve l r).minOff.map fun n => n - 1
      pulse := (s.valve l r).pulse.map fun n => n - 1 }) ∧
    (∀ l r, .maxOnExpiry l r ∈ t.pending ↔ ∃ m, (s.valve l r).maxOn = some m ∧ m.limit ≤ m.elapsed + 1) ∧
    (∀ l r, .minOffExpiry l r ∈ t.pending ↔ ∃ n, (s.valve l r).minOff = some n ∧ n ≤ 1) ∧
    (∀ l r, .pulseExpiry l r ∈ t.pending ↔ ∃ n, (s.valve l r).pulse = some n ∧ n ≤ 1) ∧
    (.speedUpdate ∈ t.pending ↔ 999 ≤ s.sinceSpeed) ∧
    t.sinceSpeed = (if 999 ≤ s.sinceSpeed then 0 else s.sinceSpeed + 1) ∧
    { t with vdr.valves := s.vdr.valves, pending := [], sinceSpeed := s.sinceSpeed } = s

/-- An event command for which the part holds no event changes nothing: equal encoder levels, a queue with nothing to
take, a timer that does not run, a receiver that waits, air already as reported (log entry 3; R1, R39 for two of them).
-/
def Obligations.EventsThatCannotOccurChangeNothing : Prop :=
  ∀ s : State,
    exec (.encoderTransition s.bpu.refA s.bpu.refB) s = .next s ∧
    ((∀ e ∈ s.sli.outstanding, e.requested = true) → exec .lineRequestSend s = .next s) ∧
    (∀ bytes broken, s.sli.inFrame = false → exec (.sensorFrameEnd bytes broken) s = .next s) ∧
    (s.bltLines = [] → exec .bltTakeLine s = .next s) ∧ (s.segLines = [] → exec .segTakeLine s = .next s) ∧
    (s.ldmLines = [] → exec .ldmTakeLine s = .next s) ∧ (s.capLines = [] → exec .capTakeLine s = .next s) ∧
    (s.cls.walk ≠ none ∨ s.cls.queue = [] → exec .walkStart s = .next s) ∧
    (∀ w c fault, s.cls.walk = some w → w.point = .ended c fault → exec .testEvaluate s = .next s) ∧
    (∀ w i, s.cls.walk = some w → w.point = .record i → exec .walkEnd s = .next s) ∧
    (s.cls.walk = none → exec .testEvaluate s = .next s ∧ exec .walkEnd s = .next s) ∧
    (∀ src, (∀ h ∈ s.lsc.handoffs, h.isFrom src = false) → exec (.placePiece src) s = .next s) ∧
    ((∀ h ∈ s.lsc.handoffs, h.isFrom .segmenter = false) → exec .placeUntracked s = .next s) ∧
    (∀ l r, ((s.valve l r).state ≠ .opened ∨ (s.valve l r).maxOn = none → exec (.maxOnExpiry l r) s = .next s) ∧
      ((s.valve l r).state ≠ .recover → exec (.minOffExpiry l r) s = .next s) ∧
      ((s.valve l r).state ≠ .opened ∨ (s.valve l r).served ≠ .pulse → exec (.pulseExpiry l r) s = .next s)) ∧
    (s.vdr.air = .lost → exec .airLost s = .next s) ∧ (s.vdr.air = .present → exec .airRestored s = .next s) ∧
    (∀ reports good broken, s.vdr.inFrame = false → exec (.valveReturnFrame reports good broken) s = .next s) ∧
    (∀ bytes, s.lnk.inFrame = false ∨ bytes.length < 4 ∨
      (field bytes 2 2 ≤ 1024 ∧ bytes.length < field bytes 2 2 + 6) → exec (.linkFrameEnd bytes) s = .next s) ∧
    (s.lnk.inFrame = false → exec .linkFramingError s = .next s ∧ exec .gapAbort s = .next s) ∧
    (s.lnk.sending ≠ none ∨ s.eng.resetReplySent = true ∨ (s.lnk.replies = [] ∧ s.lnk.notices = []) →
      exec .transmitFrame s = .next s) ∧
    (s.lnk.sending = none → exec .linkFrameSent s = .next s) ∧
    (s.lnk.inbound = [] ∨ 4 ≤ s.lnk.replies.length ∨ s.eng.resetPending = true →
      exec .unknownKind s = .next s) ∧
    ∀ a b air, s.eng.resetPending = false ∨ s.eng.resetReplySent = false → exec (.softReset a b air) s = .next s

/-! ### Counts -/

/-- R205: a count is raised by the amount named, or to 4294967295 where it would pass it, and no other count changes; no
count passes 4294967295 or falls but by STATS_READ with the clear mark or by a reset (R206, R207); the actuation
counts of the VALVE group neither, but by a hard reset (R162). -/
def Obligations.CountsRiseAndStop : Prop :=
  (∀ (s : State) (c d : Counter) (n : Nat), (s.count c n).sta.get d =
    if c = d then min 4294967295 (s.sta.get c + n) else s.sta.get d) ∧
  (∀ (c : Instr) (s t : State) (d : Counter), exec c s = .next t → c ≠ .statsReadClear → isReset c = false →
    s.sta.get d ≤ 4294967295 → s.sta.get d ≤ t.sta.get d ∧ t.sta.get d ≤ 4294967295) ∧
  ∀ (c : Instr) (s t : State) (l : Lane) (r : Row), exec c s = .next t → isHardReset c = false →
    (s.valve l r).actuations ≤ 4294967295 →
    (s.valve l r).actuations ≤ (t.valve l r).actuations ∧ (t.valve l r).actuations ≤ 4294967295

/-! ### Belt motion -/

/-- R2: an encoder error takes the new pair as reference pair and raises the encoder-error count, and changes nothing
else. -/
def Obligations.EncoderErrorIsCounted : Prop :=
  ∀ s : State, ∃ t, exec (.encoderTransition (!s.bpu.refA) (!s.bpu.refB)) s = .next t ∧
    t = { s with bpu.refA := !s.bpu.refA, bpu.refB := !s.bpu.refB, sta := t.sta } ∧
    ∀ d, t.sta.get d =
      if d = .encoderErrors then min 4294967295 (s.sta.get d + 1) else s.sta.get d

/-- A backward tick raises the reverse debt by one, or is lost and counted at 65535; the debt above REVERSE_LIMIT
raises BELT_REVERSED once in an excursion (R1, R3, R4, R5). A forward tick repays debt first and ends the excursion
with it; with no debt it raises the position by one below 2^48 − 1 and changes nothing of the belt there; a raised
position that is the next-line position triggers a line where the line fits, and no other does (R1, R3, R7, R12, R14).
The tick that reaches 2^48 − 1 raises POSITION_EXHAUSTED (R8); then the line trigger is taken, every valve is judged at
the new position (R150), and each GUARD entry whose end is reached retires GUARD_HELD (R160); the order inside the tick
and what a judgment compares with are log entries 8 and 14. -/
def Obligations.TicksMoveTheBelt : Prop :=
  (∀ (s : State) (a b : Bool), ticksBackward (s.own .encPolarity) (s.bpu.refA, s.bpu.refB) (a, b) →
    exec (.encoderTransition a b) s = .next (
      if 65535 ≤ s.bpu.debt then State.count .reverseLost 1 { s with bpu.refA := a, bpu.refB := b }
      else if s.own .reverseLimit < s.bpu.debt + 1 ∧ s.bpu.excursion = false then
        State.raiseFault .beltReversed
          { s with bpu.refA := a, bpu.refB := b, bpu.debt := s.bpu.debt + 1, bpu.excursion := true }
      else { s with bpu.refA := a, bpu.refB := b, bpu.debt := s.bpu.debt + 1 })) ∧
  ∀ (s : State) (a b : Bool), ticksForward (s.own .encPolarity) (s.bpu.refA, s.bpu.refB) (a, b) →
    let u : State := { s with bpu.refA := a, bpu.refB := b }
    let stop := s.bpu.pos + 1 + s.cdu.line.get .lineTicks
    (0 < s.bpu.debt → exec (.encoderTransition a b) s = .next
      { u with bpu.debt := s.bpu.debt - 1,
               bpu.excursion := if s.bpu.debt = 1 then false else s.bpu.excursion }) ∧
    (s.bpu.debt = 0 → 281474976710655 ≤ s.bpu.pos → exec (.encoderTransition a b) s = .next u) ∧
    (s.bpu.debt = 0 → s.bpu.pos < 281474976710655 → s.bpu.nextLine = s.bpu.pos + 1 → stop ≤ 281474976710655 →
      ∃ t, exec (.encoderTransition a b) s = .next t ∧
        t.steady = { s.steady with
          bpu := { u.bpu with pos := s.bpu.pos + 1, nextLine := stop, seq := s.bpu.seq + 1 }
          sli := t.sli, bltLines := t.bltLines, segLines := t.segLines, ldmLines := t.ldmLines,
          capLines := t.capLines }) ∧
    (s.bpu.debt = 0 → s.bpu.pos < 281474976710655 →
      (s.bpu.nextLine ≠ s.bpu.pos + 1 ∨ 281474976710655 < stop) →
      ∃ t, exec (.encoderTransition a b) s = .next t ∧
        t.steady = { s.steady with bpu := { u.bpu with pos := s.bpu.pos + 1 } }) ∧
    (s.bpu.debt = 0 → s.bpu.pos < 281474976710655 →
      let w : State := { u with bpu.pos := s.bpu.pos + 1 }
      let x := if s.bpu.pos + 1 = 281474976710655 then w.raiseFault .positionExhausted else w
      let y := if s.bpu.nextLine = s.bpu.pos + 1 ∧ stop ≤ 281474976710655 then
          State.takeTrigger s.bpu.seq (s.bpu.pos + 1) stop
            (State.count .triggered 1 { x with bpu.nextLine := stop, bpu.seq := s.bpu.seq + 1 })
        else x
      let reached := fun e : Entry => decide (e.row = .guard ∧ e.stop ≤ s.bpu.pos + 1)
      ∃ t, exec (.encoderTransition a b) s = .next t ∧
        t = (List.finRange 48).foldl (fun v l => ((v.lane l).filter reached).foldl
            (fun g e => g.retire l e .guardHeld) v)
          (y.judgeAll (.ordinary (s.bpu.pos + s.vdr.leadOpen))) ∧
        t.judged ∧ (s.bpu.pos + 1 = 281474976710655 → t.eng.flags.positionExhausted = true) ∧
        (∀ l, (t.lane l).filter (fun e => e.row = .guard) =
          (s.lane l).filter fun e => e.row = .guard ∧ s.bpu.pos + 1 < e.stop) ∧
        (s.sta.get (.ofRetire .guardHeld) ≤ 4294967295 → t.sta.get (.ofRetire .guardHeld) =
          min 4294967295 (s.sta.get (.ofRetire .guardHeld) +
            ((List.finRange 48).map fun l => ((s.lane l).filter reached).length).sum)))

/-- The line trigger that a forward tick brings joins the outstanding-trigger list with the settings in force as its
snapshot and a waiting request, and is counted, as is a DISTURBED one; a full list has its oldest entry declared missing
and counted first, the eighth of a run raising SENSOR_LOST (R12, R18, R21, R24, R25, R38). -/
def Obligations.LineTriggerIsTaken : Prop :=
  ∀ (s t : State) (a b : Bool), ticksForward (s.own .encPolarity) (s.bpu.refA, s.bpu.refB) (a, b) →
    s.bpu.debt = 0 → s.bpu.nextLine = s.bpu.pos + 1 →
    s.bpu.pos + 1 + s.cdu.line.get .lineTicks ≤ 281474976710655 →
    exec (.encoderTransition a b) s = .next t →
    let new : Trigger :=
      { seq := s.bpu.seq, start := s.bpu.pos + 1, stop := s.bpu.pos + 1 + s.cdu.line.get .lineTicks,
        snap := s.cdu.line, disturbed := decide (s.cdu.line.disturbingValues ≠ s.sli.kept), requested := false }
    t.sta.get .triggered = min 4294967295 (s.sta.get .triggered + 1) ∧
    t.sta.get .disturbed = (if s.cdu.line.disturbingValues ≠ s.sli.kept
      then min 4294967295 (s.sta.get .disturbed + 1) else s.sta.get .disturbed) ∧
    (s.sli.outstanding.length < 4 →
      t.sta.get .missing = s.sta.get .missing ∧ t.eng.flags.sensorLost = s.eng.flags.sensorLost ∧
      t.sli = { s.sli with outstanding := s.sli.outstanding ++ [new], kept := s.cdu.line.disturbingValues } ∧
      t.bltLines = s.bltLines ∧ t.segLines = s.segLines ∧ t.ldmLines = s.ldmLines ∧ t.capLines = s.capLines) ∧
    (∀ (o : Trigger) (rest : List Trigger), s.sli.outstanding = o :: rest → 4 ≤ s.sli.outstanding.length →
      let marks := carriedMarks o.snap s.sli.prevMarks
      let missing : Line :=
        { seq := o.seq, start := o.start, stop := o.stop, snap := o.snap, disturbed := o.disturbed,
          samples := none, marks := marks, prevMarks := s.sli.prevMarks }
      t.sta.get .missing = min 4294967295 (s.sta.get .missing + 1) ∧
      t.eng.flags.sensorLost = (s.eng.flags.sensorLost || decide (s.sli.missingRun = 7)) ∧
      t.sli = { s.sli with
        outstanding := rest ++ [new], kept := s.cdu.line.disturbingValues, prevMarks := marks
        missingRun := min 8 (s.sli.missingRun + 1) } ∧
      t.bltLines = s.bltLines ++ [missing] ∧ t.segLines = s.segLines ++ [missing] ∧
      t.ldmLines = s.ldmLines ++ [missing] ∧ t.capLines = s.capLines ++ [missing])

/-- SPEED_UPDATE: the estimate is the advance over the history times 125, at most 65535; the history moves by one; the
leads are computed anew, lead_open rounded up and lead_close floored, and every valve is judged at them (R10, R149,
R150). That the model's interval counter returns to 0 is log entry 2, the order in which the valves are judged log
entry 8, and what a judgment compares with log entry 14. -/
def Obligations.SpeedUpdateSetsSpeedAndLeads : Prop :=
  ∀ s : State, ∃ t, exec .speedUpdate s = .next t ∧
    t.bpu.speed = min 65535 ((s.bpu.pos - look s.bpu.history 0) * 125) ∧
    (∀ i : Fin 7, look t.bpu.history i.castSucc = look s.bpu.history i.succ) ∧
    look t.bpu.history 7 = s.bpu.pos ∧
    1000000 * t.vdr.leadOpen < s.own .openDelay * t.bpu.speed + 1000000 ∧
    s.own .openDelay * t.bpu.speed ≤ 1000000 * t.vdr.leadOpen ∧
    s.own .closeDelay * t.bpu.speed < 1000000 * t.vdr.leadClose + 1000000 ∧
    1000000 * t.vdr.leadClose ≤ s.own .closeDelay * t.bpu.speed ∧
    t.steady = { s.steady with
      bpu := { s.bpu with speed := t.bpu.speed, history := t.bpu.history }
      leadOpen := t.vdr.leadOpen, leadClose := t.vdr.leadClose, sinceSpeed := 0 } ∧
    t = State.judgeAll (.ordinary (s.bpu.pos + s.vdr.leadOpen)) { s with
      bpu := { s.bpu with speed := t.bpu.speed, history := t.bpu.history }
      vdr := { s.vdr with leadOpen := t.vdr.leadOpen, leadClose := t.vdr.leadClose }, sinceSpeed := 0 } ∧
    t.judged

/-! ### Arithmetic -/

/-- The arithmetic terms of spec/00_scope.md section 3.5: rounded to nearest with halves away from zero, rounded up,
truncated, and clamped. -/
def Obligations.QuotientsAreRoundedAsStated : Prop :=
  (∀ (n : Int) (d : Nat), 0 < d →
    2 * |(d : Int) * roundNear n d - n| ≤ d ∧
      (2 * |(d : Int) * roundNear n d - n| = d → |n| < |(d : Int) * roundNear n d|)) ∧
  (∀ n d : Nat, 0 < d → n ≤ d * ceilDiv n d ∧ d * ceilDiv n d < n + d) ∧
  (∀ n d : Int, 0 < d → |d * truncDiv n d| ≤ |n| ∧ |n| < |d * truncDiv n d| + d ∧ 0 ≤ n * truncDiv n d) ∧
  (∀ lo hi v : Int, lo ≤ hi → clamp lo hi v = max lo (min hi v))

/-! ### Sensor lines -/

/-- The oldest waiting line request goes out: two bytes of sequence number, most significant first (log entry 6), and
the CRC-16 over them; requests go in trigger order (R17). -/
def Obligations.LineRequestsGoOutInOrder : Prop :=
  ∀ (s : State) (sent waiting : List Trigger) (e : Trigger), s.sli.outstanding = sent ++ e :: waiting →
    (∀ o ∈ sent, o.requested = true) → e.requested = false →
    ∃ q : List Byte, q.length = 4 ∧ field q 0 2 = e.seq.toNat ∧ field q 2 2 = (crc16 (q.take 2)).toNat ∧
      exec .lineRequestSend s = .next { s with
        sli.outstanding := sent ++ { e with requested := true } :: waiting
        sli.sentRequests := s.sli.sentRequests ++ [q] }

/-- A frame that breaks off in a framing error, is not 900 bytes long, carries another CRC than the one computed, or
holds a sample above 16383 is discarded and counted, and neither the list nor the run count changes (R19). That the CRC
and the samples stand most significant byte first is the model's choice (log entry 6). -/
def Obligations.BadSensorFrameIsDiscarded : Prop :=
  ∀ (s : State) (bytes : List Byte) (broken : Bool), s.sli.inFrame = true →
    (broken = true ∨ bytes.length ≠ 900 ∨ field bytes 898 2 ≠ (crc16 (bytes.take 898)).toNat ∨
      ∃ j < 448, 16383 < field bytes (2 + 2 * j) 2) →
    exec (.sensorFrameEnd bytes broken) s = .next (State.count .frameErrors 1 { s with sli.inFrame := false })

/-- A good frame whose number is no outstanding one is stray. Where it is one, every older entry is declared missing,
in order, each with the occupancy of the line before it, and counted, the eighth of a run raising SENSOR_LOST; and the
entry's line is processed from the frame, its samples read in cell and channel order and conditioned under the entry's
snapshot with the baselines as they stand (R20 to R25, R33, R40). Each line carries the marks of the line processed
before it, which the tracker reads (R41; log entry 23). That the sequence number and the samples stand most significant
byte first is the model's choice (log entry 6). -/
def Obligations.GoodSensorFrameIsMatched : Prop :=
  ∀ (s : State) (bytes : List Byte), s.sli.inFrame = true → sensorFrameSound bytes →
    ((∀ e ∈ s.sli.outstanding, e.seq.toNat ≠ field bytes 0 2) →
      exec (.sensorFrameEnd bytes false) s = .next (State.count .stray 1 { s with sli.inFrame := false })) ∧
    (∀ (older rest : List Trigger) (e : Trigger), s.sli.outstanding = older ++ e :: rest →
      (∀ o ∈ older, o.seq.toNat ≠ field bytes 0 2) → e.seq.toNat = field bytes 0 2 →
      let w := if s.sli.missingRun < 8 ∧ 8 ≤ s.sli.missingRun + older.length
        then s.raiseFault .sensorLost else s
      ∃ (t : State) (missing : List Line) (ln : Line) (sm : Samples),
        exec (.sensorFrameEnd bytes false) s = .next t ∧
        t.steady = { s.steady with
          sli := { s.sli with outstanding := rest, inFrame := false, missingRun := 0, prevMarks := ln.marks }
          bltLines := s.bltLines ++ missing ++ [ln], segLines := s.segLines ++ missing ++ [ln]
          ldmLines := s.ldmLines ++ missing ++ [ln], capLines := s.capLines ++ missing ++ [ln] } ∧
        missing.map (fun m => (m.seq, m.start, m.stop, m.snap, m.disturbed, m.samples)) =
          older.map (fun o => (o.seq, o.start, o.stop, o.snap, o.disturbed, none)) ∧
        (missing ++ [ln]).map (·.prevMarks) = s.sli.prevMarks :: missing.map (·.marks) ∧
        (∀ m ∈ missing, ∀ i : Fin 96, (look m.marks i = .outside ↔ ¬ cellInWindow m.snap i) ∧
          (look m.marks i = .occupied ↔ cellInWindow m.snap i ∧ look m.prevMarks i = .occupied) ∧
          look m.marks i ≠ .cleared) ∧
        (s.sta.get .missing ≤ 4294967295 →
          t.sta.get .missing = min 4294967295 (s.sta.get .missing + older.length)) ∧
        (∀ d ∈ [Counter.triggered, .disturbed, .stray, .frameErrors, .encoderErrors, .reverseLost],
          t.sta.get d = s.sta.get d) ∧
        t.eng = w.eng ∧ t.lnk = w.lnk ∧ t.seg = w.seg ∧ t.cls = w.cls ∧ t.blt = w.blt ∧
        (ln.seq, ln.start, ln.stop, ln.snap, ln.disturbed) = (e.seq, e.start, e.stop, e.snap, e.disturbed) ∧
        ln.samples = some sm ∧ ln.marks = occupancyMarks e.snap sm.cells ∧
        (∀ i k, (look sm.refs i).get k =
          field bytes (2 + 2 * (4 * (if i.val < 8 then i.val else 96 + i.val) + k.index)) 2) ∧
        (∀ i k, (look sm.cells i).raw.get k = field bytes (2 + 2 * (4 * (8 + i.val) + k.index)) 2) ∧
        (∀ i, look sm.cells i =
          conditionCell e.snap sm.refs s.blt.refLevel (look s.blt.baseline i) (look sm.cells i).raw))

/-- Reference correction and conditioning of one cell: the drift is the mean of the 16 reference samples, rounded to
nearest, minus the reference level; the conditioned sample is the product divided by 512, rounded to nearest with
halves away from zero, then clamped; and a cell is clipped when the clamp changed a channel (R28, R29). Occupancy: a
cell outside the window is OUTSIDE; inside it, a cell is OCCUPIED exactly when it lies in a run of MIN_RUN or more
cells of the window that meet a threshold, CLEARED when it meets one and lies in no such run, and VACANT when it meets
none (R27, R31, R32). -/
def Obligations.CellsAreConditionedAndMarked : Prop :=
  (∀ (snap : LineSettings) (refs : Vector (Quad Nat) 16) (level baseline raw : Quad Nat),
    let c := conditionCell snap refs level baseline raw
    c.raw = raw ∧
    (∃ q : Chan → Int, (∀ k,
        let p := (16 * (c.corrected.get k : Int) - baseline.get k) * snap.get (.gain k) * (1 + snap.get (.range k))
        2 * |512 * q k - p| ≤ 512 ∧ (2 * |512 * q k - p| = 512 → |p| < |512 * q k|) ∧
          c.cond.get k = max (-2048) (min 2047 (q k))) ∧
      (c.clipped = true ↔ ∃ k, c.cond.get k ≠ q k)) ∧
    (∀ k, snap.get (.refcorr k) ≠ 1 → c.corrected.get k = raw.get k) ∧
    (∀ k, snap.get (.refcorr k) = 1 → ∃ mean : Int,
      let sum := ((List.finRange 16).map fun i => ((look refs i).get k : Int)).sum
      2 * |16 * mean - sum| ≤ 16 ∧ (2 * |16 * mean - sum| = 16 → sum < 16 * mean) ∧
        (c.corrected.get k : Int) = max 0 (min 16383 (raw.get k - (mean - level.get k))))) ∧
  ∀ (snap : LineSettings) (cells : Vector CellSample 96) (i : Fin 96),
    let met := fun j : Fin 96 => cellInWindow snap j ∧ thresholdsMet snap (look cells j).cond
    let long := ∃ a b : Fin 96, a ≤ i ∧ i ≤ b ∧ (∀ j, a ≤ j → j ≤ b → met j) ∧ snap.get .minRun ≤ b.val - a.val + 1
    let mark := look (occupancyMarks snap cells) i
    (mark = .outside ↔ ¬ cellInWindow snap i) ∧ (mark = .occupied ↔ long) ∧
      (mark = .cleared ↔ met i ∧ ¬ long) ∧ (mark = .vacant ↔ cellInWindow snap i ∧ ¬ met i)

/-- A line declared missing carries the occupancy of the line before it, cut to its own window, and no samples; it is
counted, and the eighth of a run raises SENSOR_LOST (R21, R23, R24). -/
def Obligations.MissingLineIsDeclared : Prop :=
  ∀ (s : State) (e : Trigger), ∃ ln : Line,
    (ln.seq, ln.start, ln.stop, ln.snap, ln.disturbed) = (e.seq, e.start, e.stop, e.snap, e.disturbed) ∧
    ln.samples = none ∧ ln.prevMarks = s.sli.prevMarks ∧
    (∀ i : Fin 96, (look ln.marks i = .outside ↔ ¬ cellInWindow e.snap i) ∧
      (look ln.marks i = .occupied ↔ cellInWindow e.snap i ∧ look s.sli.prevMarks i = .occupied) ∧
      look ln.marks i ≠ .cleared) ∧
    let u : State := State.count .missing 1 { s with
      sli.prevMarks := ln.marks, sli.missingRun := min 8 (s.sli.missingRun + 1)
      bltLines := s.bltLines ++ [ln], segLines := s.segLines ++ [ln], ldmLines := s.ldmLines ++ [ln]
      capLines := s.capLines ++ [ln] }
    s.declareMissing e = if s.sli.missingRun = 7 then u.raiseFault .sensorLost else u

/-! ### Baselines and the survey -/

/-- One background sample moves its baseline toward sixteen times the corrected sample and not past it, by no more than
the step limit; an error above the threshold enters SETTLE, and a SETTLE sample lowers the count, back to TRACK at 0
(R44, R45, R46). BLT_TAKE_LINE with no survey running: in BL_MODE TRACK each background cell of the line moves its four
baselines and settle states, every other cell stands; in the other modes the line is only taken (R41, R42, R43, R46). -/
def Obligations.BaselineTrackerTakesLine : Prop :=
  (∀ (g : TrackSettings) (b r : Nat) (st : Settle), b ≤ 262143 → r ≤ 16383 →
    let n := trackSample g b st r
    let settles := st ≠ .track ∨ (st = .track ∧ 16 * (g.thresh : Int) < |16 * (r : Int) - b|)
    (b ≤ 16 * r → b ≤ n.1 ∧ n.1 ≤ 16 * r) ∧ (16 * r ≤ b → 16 * r ≤ n.1 ∧ n.1 ≤ b) ∧
    (settles → |(n.1 : Int) - b| = min (8 * (g.maxStep : Int)) (|16 * (r : Int) - b| / 2)) ∧
    (¬ settles → |(n.1 : Int) - b| = min (g.maxStep : Int) (max 0 (|16 * (r : Int) - b| / 32 - g.damp))) ∧
    (¬ settles → n.2 = .track) ∧
    (st = .track → settles → n.2 = if g.len ≤ 1 then .track else .settle (g.len - 1)) ∧
    (∀ c, st = .settle c → n.2 = if c ≤ 1 then .track else .settle (c - 1))) ∧
  ∀ (s : State) (ln : Line) (rest : List Line), s.bltLines = ln :: rest → s.blt.status ≠ .running →
    (s.own .blMode ≠ 0 → exec .bltTakeLine s = .next { s with bltLines := rest }) ∧
    (s.own .blMode = 0 → ∃ (baseline : Vector (Quad Nat) 96) (settle : Vector (Quad Settle) 96),
      exec .bltTakeLine s = .next { s with bltLines := rest, blt.baseline := baseline, blt.settle := settle } ∧
      ∀ (i : Fin 96) (k : Chan),
        (∀ sm, ln.samples = some sm → backgroundCell s.ldm.state ln i →
          ((look baseline i).get k, (look settle i).get k) =
            trackSample s.trackSettings ((look s.blt.baseline i).get k) ((look s.blt.settle i).get k)
              ((look sm.cells i).corrected.get k)) ∧
        (¬ backgroundCell s.ldm.state ln i →
          (look baseline i).get k = (look s.blt.baseline i).get k ∧
            (look settle i).get k = (look s.blt.settle i).get k))

/-- BLT_TAKE_LINE while a survey runs: a line processed before the SURVEY_START is not the survey's (R47; that the
lines that waited then are these is log entry 28), a missing line is not counted; a line with a step above SURVEY_STEP
from the last counted line spoils the survey; any other is counted (R48, R49, R50). The line that reaches the target
completes the survey: baselines and reference levels are the rounded means, the noise figures the rounded-up mean
steps, the recommended OCC_HI four times the noise of the window's noisiest cell at the gain; every settle state is
TRACK, the baselines are valid, the engine returns to IDLE with its notice, and SURVEY_END follows (R51, R52). That the
ENGINE notice stands before SURVEY_END is log entry 12. -/
def Obligations.SurveyTakesLine : Prop :=
  (∀ (s : State) (ln : Line) (rest : List Line), s.bltLines = ln :: rest → s.blt.status = .running →
    (0 < s.blt.acc.early → exec .bltTakeLine s =
      .next { s with bltLines := rest, blt.acc.early := s.blt.acc.early - 1 }) ∧
    (ln.samples = none → s.blt.acc.early = 0 → exec .bltTakeLine s = .next { s with bltLines := rest }) ∧
    ∀ sm, ln.samples = some sm → s.blt.acc.early = 0 →
      let step := fun (i : Fin 96) (k : Chan) =>
        |((look sm.cells i).raw.get k : Int) - (look s.blt.acc.prev i).get k|
      let spoils := 1 ≤ s.blt.acc.good ∧ ∃ i k, (s.own .surveyStep : Int) < step i k
      (spoils → exec .bltTakeLine s = .next (State.offer (.surveyEnd .spoiled s.blt.acc.good)
        (State.setEngine .idle .surveyEnd
          { s with bltLines := rest, blt.status := .spoiled, blt.acc := SurveyAcc.zero }))) ∧
      (¬ spoils → s.blt.acc.good + 1 < s.blt.acc.target → ∃ a : SurveyAcc,
        exec .bltTakeLine s = .next { s with bltLines := rest, blt.acc := a } ∧
        a.early = 0 ∧ a.good = s.blt.acc.good + 1 ∧ a.target = s.blt.acc.target ∧
        ∀ i k, (look a.levelSum i).get k = (look s.blt.acc.levelSum i).get k + (look sm.cells i).raw.get k ∧
          ((look a.stepSum i).get k : Int) = (look s.blt.acc.stepSum i).get k +
            (if 1 ≤ s.blt.acc.good then step i k else 0) ∧
          a.refSum.get k = s.blt.acc.refSum.get k + ((List.finRange 16).map fun j => (look sm.refs j).get k).sum ∧
          (look a.prev i).get k = (look sm.cells i).raw.get k)) ∧
  ∀ (s : State) (ln : Line) (rest : List Line) (sm : Samples), s.bltLines = ln :: rest → s.blt.status = .running →
    ln.samples = some sm → s.blt.acc.early = 0 → spoils (s.own .surveyStep) s.blt.acc sm = false →
    s.blt.acc.good + 1 = s.blt.acc.target →
    let a := s.blt.acc.add sm
    ∃ (b : Blt) (v : SurveyResults), exec .bltTakeLine s =
        .next (State.offer (.surveyEnd .done a.target)
          (State.setEngine .idle .surveyEnd { s with bltLines := rest, blt := b })) ∧
      b.valid = true ∧ b.status = .done ∧ b.results = some v ∧ v.refLevel = b.refLevel ∧ v.lines = a.target ∧
      v.firstCell = ln.snap.get .winStart ∧
      v.lastCell = ln.snap.get .winStart + min (ln.snap.get .winWidth) (96 - ln.snap.get .winStart) - 1 ∧
      ∀ i k, (look b.settle i).get k = .track ∧
        ((look b.baseline i).get k : Int) =
          max 0 (min 262143 (roundNear (16 * (look a.levelSum i).get k) a.target)) ∧
        (b.refLevel.get k : Int) = roundNear (a.refSum.get k) (16 * a.target) ∧
        (look v.noise i).get k = ceilDiv ((look a.stepSum i).get k) (a.target - 1) ∧
        ∃ worst : Nat, (∀ j, cellInWindow ln.snap j → (look v.noise j).get k ≤ worst) ∧
          ((∃ j, cellInWindow ln.snap j ∧ (look v.noise j).get k = worst) ∨ worst = 0) ∧
          v.recommended.get k = max 1 (min 2047
            (ceilDiv (4 * worst * ln.snap.get (.gain k) * (1 + ln.snap.get (.range k))) 32))

/-- SURVEY_START is taken in IDLE and refused with STATE in every other state; SURVEY_STOP aborts a running survey and
is else refused with STATE (R47, R50; SURVEY_END before the ENGINE notice is log entry 12, the lines that wait at the
start being none of the survey's log entry 28). BASELINE_WRITE is refused with STATE outside BL_MODE MANUAL, with BUSY
while a survey runs, then with RANGE; taken, it writes the clamped values, sets the settle states of the written cells
to TRACK, and sets the valid flag under its mark (R54, R56; the values read as unsigned are log entry 16, and STATE
before BUSY log entry 25). -/
def Obligations.SurveyAndBaselineRequestsAct : Prop :=
  (∀ (s : State) (f : Frame) (rest : List Frame),
    (s.asked 0x0C f rest → f.body.length = 2 →
      let n := max 64 (min 4096 (field f.body 0 2))
      exec .surveyStart s = .next (
        if s.eng.state = .idle then
          State.answered (State.setEngine .survey .surveyStart { s with
              blt.status := .running, blt.results := none
              blt.acc := { SurveyAcc.zero with early := s.bltLines.length, target := n } })
            f rest .ok (toBytes 2 n ++ toBytes 1 (if n = field f.body 0 2 then 0 else 1))
        else s.answered f rest .state [])) ∧
    (s.asked 0x0D f rest → f.body = [] →
      exec .surveyStop s = .next (
        if s.blt.status = .running then
          State.answered (State.setEngine .idle .surveyEnd (State.offer (.surveyEnd .aborted s.blt.acc.good)
            { s with blt.status := .aborted, blt.acc := SurveyAcc.zero })) f rest .ok []
        else s.answered f rest .state []))) ∧
  ∀ (s : State) (f : Frame) (rest : List Frame) (vals : List Nat), s.asked 0x10 f rest →
    f.body.length = 3 + 4 * vals.length → vals.length ≤ 96 →
    (∀ j v, vals[j]? = some v → v = field f.body (3 + 4 * j) 4) →
    let first := byteAt f.body 1
    let bad := 3 < byteAt f.body 0 ∨ 95 < first ∨ vals = [] ∨ 96 < first + vals.length
    (s.own .blMode ≠ 2 → exec .baselineWrite s = .next (s.answered f rest .state [])) ∧
    (s.own .blMode = 2 → s.blt.status = .running → exec .baselineWrite s = .next (s.answered f rest .busy [])) ∧
    (s.own .blMode = 2 → s.blt.status ≠ .running → bad →
      exec .baselineWrite s = .next (s.answered f rest .range [])) ∧
    (∀ k : Chan, k.index = byteAt f.body 0 → s.own .blMode = 2 → s.blt.status ≠ .running → ¬ bad →
      ∃ (baseline : Vector (Quad Nat) 96) (settle : Vector (Quad Settle) 96),
        exec .baselineWrite s = .next (State.answered
          { s with blt.baseline := baseline, blt.settle := settle
                   blt.valid := s.blt.valid || decide (byteAt f.body 2 ≠ 0) } f rest .ok
          (vals.flatMap fun v => toBytes 4 (min 262143 v) ++ toBytes 1 (if 262143 < v then 1 else 0))) ∧
        ∀ (i : Fin 96) (j : Chan),
          (look baseline i).get j = (if j = k ∧ first ≤ i.val ∧ i.val < first + vals.length
            then min 262143 (field f.body (3 + 4 * (i.val - first)) 4) else (look s.blt.baseline i).get j) ∧
          (look settle i).get j = (if j = k ∧ first ≤ i.val ∧ i.val < first + vals.length
            then .track else (look s.blt.settle i).get j))

/-! ### Segmentation -/

/-- A segment is a maximal run of OCCUPIED cells, each such run is one segment, and the segments stand left to right,
at least one cell apart (R64). The match set holds the runs of the fronts of the OPEN pieces, and a segment touches a
run it overlaps or stands next to, directly or diagonally (R65). A segment that touches no piece opens one in SORTING
on a line from a frame where one may open, and is else untracked; one piece touched receives it; of several the
survivor absorbs the others, whose runs become its own, and receives it (R66, R67, R68, R82). SEG_TAKE_LINE outside
SORTING and DRAINING only takes the line; in them it links the segments left to right, brings every OPEN piece to the
end of the line, disposes of the closing pieces in close order, and hands over the line's untracked segments, whose
cells are counted (R63, R74, R78, R82). It reaches neither the belt, the lines of the other takers, the settings, the
baselines, the lane schedules, the valves, the walk nor the requests and replies. -/
def Obligations.SegmenterTakesLine : Prop :=
  (∀ m : Marks,
    (∀ r, r ∈ segmentsOf m ↔ r.left ≤ r.right ∧ r.right < 96 ∧
      (∀ i : Fin 96, r.left ≤ i.val → i.val ≤ r.right → look m i = .occupied) ∧
      (∀ i : Fin 96, i.val + 1 = r.left ∨ i.val = r.right + 1 → look m i ≠ .occupied)) ∧
    (segmentsOf m).Pairwise fun a b => a.right + 1 < b.left) ∧
  (∀ (s : State) (m : MatchRun),
    m ∈ s.matchSet ↔ ∃ p, s.piece m.slot = some p ∧ p.phase = .openPiece ∧ m.run ∈ p.front) ∧
  (∀ (g : Run) (ms : List MatchRun), (touchedSlots g ms).Pairwise (· < ·) ∧ ∀ i, i ∈ touchedSlots g ms ↔
    ∃ m ∈ ms, m.slot = i ∧ m.run.left ≤ g.right + 1 ∧ g.left ≤ m.run.right + 1) ∧
  (∀ (ln : Line) (eng : EngState) (k : Linking) (g : Run),
    let next := Linking.link ln eng k g
    (touchedSlots g k.matches_ = [] →
      (∀ i t, eng = .sorting → ln.samples ≠ none → k.state.openPiece [] false = some (i, t) →
        next = { k with state := t.updatePiece i (Piece.receive ln g) }) ∧
      (eng ≠ .sorting ∨ ln.samples = none ∨ k.state.openPiece [] false = none →
        next = { k with
          state := k.state.count .untracked (g.right + 1 - g.left), untracked := k.untracked ++ [g] })) ∧
    (∀ i, touchedSlots g k.matches_ = [i] →
      next = { k with state := k.state.updatePiece i (Piece.receive ln g) }) ∧
    ∀ i j more, touchedSlots g k.matches_ = i :: j :: more →
      let into := k.state.survivor ln i (j :: more)
      let gone := (i :: j :: more).filter fun x => x ≠ into
      next = { k with
        state := (gone.foldl (State.absorb into) k.state).updatePiece into (Piece.receive ln g)
        matches_ := k.matches_.map fun m => if m.slot ∈ gone then { m with slot := into } else m }) ∧
  ∀ (s : State) (ln : Line) (rest : List Line), s.segLines = ln :: rest →
    (s.eng.state ≠ .sorting → s.eng.state ≠ .draining →
      exec .segTakeLine s = .next { s with segLines := rest }) ∧
    (s.eng.state = .sorting ∨ s.eng.state = .draining →
      let u : State := { s with segLines := rest }
      let k := (segmentsOf ln.marks).foldl (Linking.link ln s.eng.state) ⟨u, u.matchSet, []⟩
      let e := k.state.endLineAll ln
      let d := (k.state.closers ln).foldl (State.dispose s.eng.state) e
      e = { k.state with seg.slots := e.seg.slots } ∧
      (∀ i, e.piece i = (k.state.piece i).map fun p => if p.phase = .openPiece then (p.endLine ln).1 else p) ∧
      k.untracked.Sublist (segmentsOf ln.marks) ∧
      ∃ t, exec .segTakeLine s = .next t ∧
      t = (if k.untracked = [] then d else { d with
        lsc.handoffs := d.lsc.handoffs ++ [.untracked ln.seq ln.start ln.stop k.untracked] }) ∧
      (s.sta.get .untracked ≤ 4294967295 → t.sta.get .untracked = min 4294967295 (s.sta.get .untracked +
        (k.untracked.map fun g => g.right + 1 - g.left).sum)) ∧
      t.steady = { s.steady with segLines := rest } ∧ t.lsc.lanes = s.lsc.lanes ∧ t.vdr = s.vdr ∧
      t.cls.walk = s.cls.walk ∧ t.blt = s.blt ∧ t.eng.flags = s.eng.flags)

/-- Linking loses no cell of a line: each occupied cell of a line from a frame is accumulated once into the piece table
or is untracked, and a missing line accumulates none (R66, R67, R68, R71, R73, R82). -/
def Obligations.LinkingLosesNoCell : Prop :=
  ∀ (s : State) (ln : Line),
    let k := (segmentsOf ln.marks).foldl (Linking.link ln s.eng.state) ⟨s, s.matchSet, []⟩
    (ln.samples ≠ none → k.state.tableArea + (k.untracked.map Run.width).sum = s.tableArea + occupiedCount ln.marks) ∧
    (ln.samples = none → k.state.tableArea = s.tableArea)

/-- A piece opens in the lowest FREE slot while one is FREE, fewer than 64 are OPEN and a bank is ACTIVE: empty, with
the counter's number, pinned to that bank under the generation in force; the counter, the pin count and the opened
count rise by one and nothing else changes (R59, R60, R61, R66). -/
def Obligations.PieceOpensInTheLowestFreeSlot : Prop :=
  ∀ (s : State) (front : List Run) (continued : Bool) (b : BankId), (s.bank b).state = .active →
    (s.bank (otherBank b)).state ≠ .active →
    ((∀ i, s.piece i ≠ none) ∨ 64 ≤ s.openCount → s.openPiece front continued = none) ∧
    ∀ i : Slot, s.piece i = none → (∀ j < i, s.piece j ≠ none) → s.openCount < 64 →
      ∃ p : Piece, s.openPiece front continued = some (i, State.count .opened 1
          { s with seg.slots := put s.seg.slots i (some p), seg.nextNumber := s.seg.nextNumber + 1
                   rcs.banks := put s.rcs.banks b { s.bank b with pins := (s.bank b).pins + 1 } }) ∧
        p.number = s.seg.nextNumber ∧ p.bank = b ∧ p.gen = s.rcs.generation ∧ p.phase = .openPiece ∧
        p.front = front ∧ p.received = [] ∧ p.gap = 0 ∧ p.contributed = 0 ∧ p.area = 0 ∧ p.sums = ⟨0, 0, 0, 0⟩ ∧
        p.metal = 0 ∧ p.clipped = 0 ∧ p.absorbed = 0 ∧ p.first = none ∧ p.last = none ∧ p.extent = none ∧
        p.indPeak = none ∧ p.classed = none ∧ p.flags.number = if continued then 32 else 0

/-- A segment of a line from a frame is accumulated cell by cell: area, sums, metal and clipped counts, peak and
extents; the flags EDGE, DISTURBED and CLIPPED follow the segment and the line; the first line is the first that gave
cells (R67, R71, R72). A segment of a missing line is only linked: the piece keeps its sums and extents and is marked
GAPFILL (R72, R73). -/
def Obligations.SegmentIsAccumulated : Prop :=
  (∀ (p : Piece) (ln : Line) (sm : Samples) (seg : Run), ln.samples = some sm → seg.left ≤ seg.right →
    ln.snap.windowStart ≤ seg.left → seg.right ≤ ln.snap.windowLast → seg.right < 96 →
    let q := p.receive ln seg
    let cells := (List.finRange 96).filter fun i => seg.left ≤ i.val ∧ i.val ≤ seg.right
    q.area = p.area + (seg.right - seg.left + 1) ∧
    (∀ k, q.sums.get k = p.sums.get k + (cells.map fun i => (look sm.cells i).cond.get k).sum) ∧
    q.metal = p.metal +
      (cells.filter fun i => (ln.snap.get .metalThresh : Int) ≤ (look sm.cells i).cond.ind).length ∧
    q.clipped = p.clipped + (cells.filter fun i => (look sm.cells i).clipped).length ∧
    (∃ m, q.indPeak = some m ∧ (∀ i ∈ cells, (look sm.cells i).cond.ind ≤ m) ∧ (∀ o, p.indPeak = some o → o ≤ m) ∧
      (p.indPeak = some m ∨ ∃ i ∈ cells, (look sm.cells i).cond.ind = m)) ∧
    (∃ x, q.extent = some x ∧
      (p.extent = none → x = seg) ∧
      (∀ o, p.extent = some o → x = ⟨min o.left seg.left, max o.right seg.right⟩)) ∧
    q.first = some (p.first.getD (ln.seq, ln.start)) ∧ q.received = p.received ++ [seg] ∧
    (q.flags.edge = true ↔ p.flags.edge = true ∨ seg.left = ln.snap.windowStart ∨
      seg.right = ln.snap.windowLast) ∧
    (q.flags.disturbed = true ↔ p.flags.disturbed = true ∨ ln.disturbed = true) ∧
    (q.flags.clipped = true ↔ p.flags.clipped = true ∨ ∃ i ∈ cells, (look sm.cells i).clipped = true) ∧
    q.front = p.front ∧ q.gap = p.gap ∧ q.last = p.last ∧ q.contributed = p.contributed ∧
    (q.number, q.bank, q.gen, q.phase, q.absorbed, q.classed) =
      (p.number, p.bank, p.gen, p.phase, p.absorbed, p.classed)) ∧
  ∀ (p : Piece) (ln : Line) (seg : Run), ln.samples = none →
    ln.snap.windowStart ≤ seg.left → seg.right ≤ ln.snap.windowLast →
    p.receive ln seg = { p with
      first := some (p.first.getD (ln.seq, ln.start)), received := p.received ++ [seg]
      flags := { p.flags with
        gapfill := true
        edge := p.flags.edge || decide (seg.left = ln.snap.windowStart ∨ seg.right = ln.snap.windowLast)
        disturbed := p.flags.disturbed || ln.disturbed } }

/-- The survivor of a merge is the touched piece of the earliest first line, the lowest slot among equals, a piece with
no first line ranking with the line being taken (R68). Absorption: the records are combined field by field, the
received lists joined from left to right, the absorbed slot is FREE with
its pin released, and the absorption is counted for the PIECE group and the load monitor's block (R69, R70, R116). -/
def Obligations.MergeKeepsTheEarliestPiece : Prop :=
  (∀ (s : State) (ln : Line) (i : Slot) (others : List Slot), (i :: others).Pairwise (· < ·) →
    (∀ j ∈ i :: others, s.piece j ≠ none) →
    let start := fun j : Slot => match s.piece j with
      | some p => (match p.first with | some f => f.2 | none => ln.start)
      | none => ln.start
    let w := s.survivor ln i others
    w ∈ i :: others ∧ ∀ j ∈ i :: others, start w < start j ∨ (start w = start j ∧ w ≤ j)) ∧
  ((∀ p q : Piece,
    let c := Piece.combine q p
    c.area = p.area + q.area ∧ (∀ k, c.sums.get k = p.sums.get k + q.sums.get k) ∧ c.metal = p.metal + q.metal ∧
    c.clipped = p.clipped + q.clipped ∧ c.contributed = max p.contributed q.contributed ∧
    c.absorbed = min 65535 (p.absorbed + q.absorbed + 1) ∧
    (∀ a b, p.extent = some a → q.extent = some b → c.extent = some ⟨min a.left b.left, max a.right b.right⟩) ∧
    (q.extent = none → c.extent = p.extent) ∧ (p.extent = none → c.extent = q.extent) ∧
    (∀ a b, p.indPeak = some a → q.indPeak = some b → c.indPeak = some (max a b)) ∧
    (q.indPeak = none → c.indPeak = p.indPeak) ∧ (p.indPeak = none → c.indPeak = q.indPeak) ∧
    (∀ a b, p.first = some a → q.first = some b → c.first = some (if b.2 < a.2 then b else a)) ∧
    (q.first = none → c.first = p.first) ∧ (p.first = none → c.first = q.first) ∧
    (∀ a b, p.last = some a → q.last = some b → c.last = some (if a.2 < b.2 then b else a)) ∧
    (q.last = none → c.last = p.last) ∧ (p.last = none → c.last = q.last) ∧
    c.received.Perm (p.received ++ q.received) ∧
    (q.received.Pairwise (fun a b => a.left ≤ b.left) → c.received.Pairwise fun a b => a.left ≤ b.left) ∧
    c.flags.merged = true ∧ (c.flags.edge = (p.flags.edge || q.flags.edge)) ∧
    (c.flags.long = (p.flags.long || q.flags.long)) ∧ (c.flags.continued = (p.flags.continued || q.flags.continued)) ∧
    (c.flags.disturbed = (p.flags.disturbed || q.flags.disturbed)) ∧
    (c.flags.gapfill = (p.flags.gapfill || q.flags.gapfill)) ∧
    (c.flags.clipped = (p.flags.clipped || q.flags.clipped)) ∧
    (c.flags.limited = (p.flags.limited || q.flags.limited)) ∧
    (c.flags.queueFull = (p.flags.queueFull || q.flags.queueFull)) ∧
    (c.number, c.bank, c.gen, c.phase, c.front, c.gap) = (p.number, p.bank, p.gen, p.phase, p.front, p.gap)) ∧
  ∀ (s : State) (into i : Slot) (p q : Piece), into ≠ i → s.piece into = some p → s.piece i = some q →
    let t := State.absorb into s i
    t.piece into = some (Piece.combine q p) ∧ t.piece i = none ∧ (∀ j, j ≠ into → j ≠ i → t.piece j = s.piece j) ∧
    t.rcs.banks = put s.rcs.banks q.bank (s.bank q.bank).unpin ∧
    t.sta.get .absorbed = min 4294967295 (s.sta.get .absorbed + 1) ∧
    t.ldm = { s.ldm with merges := min 65535 (s.ldm.merges + 1) } ∧ t.lsc = s.lsc ∧ t.cls = s.cls ∧ t.lnk = s.lnk ∧
    t.eng = s.eng)

/-- A front is the received list, coarsened to eight runs when it holds more (R74, R75). At the end of a line an OPEN
piece that received cells has its front, last line and contributed count renewed and closes LONG at MAX_PIECE_LINES;
one that received none has its gap count raised or closes above GAP_LINES (R74, R76, R77). Those that close stand in
order of their first lines, equal ones in slot order, and the pieces with none after every piece with one, in slot
order (R78). -/
def Obligations.LineEndJudgesPieces : Prop :=
  (∀ rs : List Run,
    (rs.length ≤ 8 → coarsen rs = rs) ∧
    (∀ (head : List Run) (a b : Run) (mid : List Run), rs = head ++ a :: mid ++ [b] → head.length = 7 →
      coarsen rs = head ++ [⟨a.left, b.right⟩])) ∧
  (∀ (p : Piece) (ln : Line),
    (p.received = [] → p.gap + 1 ≤ ln.snap.get .gapLines → p.endLine ln = ({ p with gap := p.gap + 1 }, false)) ∧
    (p.received = [] → ln.snap.get .gapLines < p.gap + 1 → p.endLine ln = (p, true)) ∧
    (∀ f : SeqNo × Nat, p.received ≠ [] → p.first = some f →
      let long := ln.snap.get .maxPieceLines ≤ (ln.seq - f.1).toNat + 1
      p.endLine ln = ({ p with
        front := coarsen p.received, received := [], gap := 0, last := some (ln.seq, ln.stop)
        contributed := p.contributed + 1
        flags := { p.flags with long := p.flags.long || decide long } }, decide long))) ∧
  ∀ (s : State) (ln : Line),
    (∀ i, i ∈ s.closers ln ↔ ∃ p, s.piece i = some p ∧ p.phase = .openPiece ∧ (p.endLine ln).2 = true) ∧
    (s.closers ln).Pairwise fun i j => ∀ p q, s.piece i = some p → s.piece j = some q →
      (∀ b, q.first = some b → ∃ a, p.first = some a ∧ (a.2 < b.2 ∨ (a.2 = b.2 ∧ i < j))) ∧
      (p.first = none → q.first = none → i < j)

/-- A closing piece below MIN_AREA is fines: its slot is freed and its pin released, it is counted, and a FINES notice
is offered or counted as suppressed by FINES_REPORT. Another joins the classify queue, or where that holds 16 pieces is
classed OVERFLOW, reduced with QUEUE_FULL set and LIMITED where a clamp acts, and handed to the lane scheduler with
precedence 0, widen 0 and report ON (R78, R79, R80, R81, R90, R96, R128; that a freeing is judged before the notice is
log entry 13). A LONG piece closed in SORTING is continued by a new one with its front, where one may open (R77). -/
def Obligations.ClosedPieceIsDisposedOf : Prop :=
  ∀ (s : State) (i : Slot) (p : Piece), s.piece i = some p →
    (State.dispose .sorting s i = (if p.flags.long then
        (((s.closePiece i p).openPiece p.front true).map Prod.snd).getD (s.closePiece i p)
      else s.closePiece i p)) ∧
    State.dispose .draining s i = s.closePiece i p ∧
    (p.area < s.own .minArea → s.closePiece i p =
      (let t := State.count .fines 1 (s.freeSlot i)
       if s.own .finesReport = 1 then t.offer (.fines { p with front := [] }) else t.count .finesSuppressed 1)) ∧
    (s.own .minArea ≤ p.area → s.cls.queue.length < 16 → s.closePiece i p = { s with
      seg.slots := put s.seg.slots i (some { p with phase := .queued, front := [] })
      cls.queue := s.cls.queue ++ [i] }) ∧
    (s.own .minArea ≤ p.area → 16 ≤ s.cls.queue.length →
      let mean := fun k => roundNear (p.sums.get k) p.area
      let ratio := truncDiv (mean .ind * 64) (|mean .vis| + 1)
      let sum := p.sums.get .ind / 2 ^ s.own .reportShift
      let limited := 32767 < p.area ∨ 32767 < p.clipped ∨ sum < -32768 ∨ 32767 < sum ∨ ratio < -32768 ∨ 32767 < ratio
      ∃ c : Classification, s.closePiece i p = { s with
          seg.slots := put s.seg.slots i (some { p with
            phase := .scheduled, front := [], classed := some c
            flags := { p.flags with queueFull := true, limited := p.flags.limited || decide limited } })
          lsc.handoffs := s.lsc.handoffs ++ [.piece .segmenter i] } ∧
        c.cls = .overflow ∧ c.dest = Dest.ofCode (s.own .overflowDest) ∧ c.steps = 0 ∧ c.chainFault = false ∧
        c.terms.prec = 0 ∧ c.terms.widen = 0 ∧ c.terms.report = true ∧
        c.features = Piece.features { p with flags.queueFull := true, front := [] } (s.own .reportShift))

/-! ### Features and the walk -/

/-- The sixteen features of a record, each by its formula (R90 to R95). A record whose fields keep the bounds of
section 4.2 gives features in the ranges of R90's table. -/
def Obligations.FeaturesAreComputedAsStated : Prop :=
  (∀ (p : Piece) (shift : Nat) (f l : SeqNo × Nat) (x : Run), p.first = some f → p.last = some l → p.extent = some x →
    let mean := fun k => roundNear (p.sums.get k) p.area
    let length := (l.1 - f.1).toNat + 1
    let width := x.right + 1 - x.left
    let area := min p.area 32767
    let ratio := truncDiv (mean .ind * 64) (|mean .vis| + 1)
    let sum := p.sums.get .ind / 2 ^ shift
    let limited := 32767 < p.area ∨ 32767 < p.clipped ∨ sum < -32768 ∨ 32767 < sum ∨ ratio < -32768 ∨ 32767 < ratio
    (p.features shift).toList =
      [(area : Int), (length : Int), (width : Int), ((area * 256 / (length * width) : Nat) : Int),
       mean .ind, mean .vis, mean .na, mean .nb, p.indPeak.getD 0, ((p.metal * 256 / p.area : Nat) : Int),
       truncDiv ((mean .na - mean .nb) * 256) (|mean .na| + |mean .nb| + 1),
       max (-32768) (min 32767 sum),
       ((({ p.flags with limited := p.flags.limited || decide limited } : PieceFlags).number : Nat) : Int),
       ((min p.clipped 32767 : Nat) : Int), max (-32768) (min 32767 ratio), 0]) ∧
  ∀ (p : Piece) (shift : Nat) (f l : SeqNo × Nat) (x : Run) (peak : Int), p.first = some f → p.last = some l →
    p.extent = some x → p.indPeak = some peak → x.left ≤ x.right → x.right ≤ 95 → (l.1 - f.1).toNat ≤ 2050 →
    1 ≤ p.area → p.area ≤ ((l.1 - f.1).toNat + 1) * (x.right + 1 - x.left) → p.metal ≤ p.area →
    (∀ k, -2048 * (p.area : Int) ≤ p.sums.get k ∧ p.sums.get k ≤ 2047 * p.area) → -2048 ≤ peak → peak ≤ 2047 →
    ∀ i : Fin 16, (featureRange i).1 ≤ look (p.features shift) i ∧ look (p.features shift) i ≤ (featureRange i).2

/-- WALK_START: with no walk in progress the oldest queued piece is reduced, becomes WALKING, and its walk stands at the
root of its bank with step count 0 (R88, R90). TEST_EVALUATE: the current record is evaluated on its feature, the step
is counted, and the walk goes on to the record named while the step count is below 24, or ends with the terminal named,
or ends UNRESOLVED with CHAIN_FAULT (R97, R98, R99). -/
def Obligations.WalkStartsAndTests : Prop :=
  (∀ s : State,
    (∀ (i : Slot) (rest : List Slot) (p : Piece) (root : Fin 256), s.cls.walk = none → s.cls.queue = i :: rest →
      s.piece i = some p → (s.bank p.bank).root = root.val →
      let w : Walk := { slot := i, bank := p.bank, features := p.features (s.own .reportShift), point := .record root,
                        steps := 0 }
      ∃ q : Piece, exec .walkStart s = .next { s with
          seg.slots := put s.seg.slots i (some q), cls := { queue := rest, walk := some w } } ∧
        q = { p with phase := .walking, flags := q.flags } ∧
        ((q.flags.number : Nat) : Int) = look (p.features (s.own .reportShift)) 12)) ∧
  ∀ (s : State) (w : Walk) (i : Fin 256) (r : TestRecord), s.cls.walk = some w → w.point = .record i →
    look (s.bank w.bank).records i = some r →
    let target := if r.holds (look w.features r.feature) then r.onTrue else r.onFalse
    exec .testEvaluate s = .next { s with cls.walk := some { w with
      steps := w.steps + 1
      point := match target with
        | .record j => if w.steps + 1 < 24 then .record j else .ended .unresolved true
        | .cls c => .ended (.cls c) false
        | .unresolved => .ended .unresolved false } }

/-- R97: a test compares the walk's feature with the record's thresholds as signed values, or for ANY their 16-bit
patterns. -/
def Obligations.TestOperatorsHold : Prop :=
  ∀ (r : TestRecord) (f : Int), -32768 ≤ f → f ≤ 32767 → (r.holds f = true ↔
    match r.op with
    | .ge => r.a.toInt ≤ f
    | .lt => f < r.a.toInt
    | .inside => r.a.toInt ≤ f ∧ f ≤ r.b.toInt
    | .outside => f < r.a.toInt ∨ r.b.toInt < f
    | .anyBit => ∃ n < 16, r.a.getLsbD n = true ∧ (f / 2 ^ n) % 2 = 1)

/-- WALK_END: the class is mapped through the pinned bank, the record completed in one change and SCHEDULED, the piece
handed to the lane scheduler, its class announced to the line capture, a chain fault counted, and the walk discarded
(R99, R100, R101, R203). A capture whose post count is 0 completes at once with its notice, in which the two numbers of
an empty ring are free values (log entry 15). -/
def Obligations.WalkEndSchedulesThePiece : Prop :=
  ∀ (s : State) (w : Walk) (p : Piece) (c : PieceClass) (fault : Bool) (dest : Dest) (terms : Terms),
    s.cls.walk = some w → w.point = .ended c fault → s.piece w.slot = some p →
    ((∃ (k : Fin 16) (e : ClassEntry), c = .cls k ∧ look (s.bank w.bank).classes k = some e ∧ e.dest = dest ∧
        e.terms = terms) ∨
      (c = .unresolved ∧ (s.bank w.bank).unresolved = dest ∧
        terms = { prec := 0, lead := 0, trail := 0, widen := 0, report := true })) →
    let part : Classification :=
      { cls := c, dest := dest, steps := w.steps, chainFault := fault, terms := terms, features := w.features }
    let q : Piece := { p with phase := .scheduled, classed := some part }
    let u : State := { s with
      seg.slots := put s.seg.slots w.slot (some q), cls.walk := none
      lsc.handoffs := s.lsc.handoffs ++ [.piece .classifier w.slot] }
    let v := if fault then u.count .chainFaults 1 else u
    (s.cap.state ≠ .ringing ∨ s.cap.trigger ≠ .onClass c → exec .walkEnd s = .next v) ∧
    (s.cap.state = .ringing → s.cap.trigger = .onClass c → s.cap.post ≠ 0 →
      exec .walkEnd s = .next { v with cap := { s.cap with state := .post, piece := some p.number } }) ∧
    (s.cap.state = .ringing → s.cap.trigger = .onClass c → s.cap.post = 0 →
      let full := { s.cap with state := .full, piece := some p.number }
      let note := fun oldest newest : SeqNo =>
        Notice.captureEnd s.cap.mode s.cap.trigger s.cap.ring.length oldest newest (some p.number)
      let counted := fun t : State => if fault then t.count .chainFaults 1 else t
      (∀ a b, s.cap.ring.head? = some a → s.cap.ring.getLast? = some b →
        exec .walkEnd s = .next (counted (State.offer (note a.seq b.seq) { u with cap := full }))) ∧
      (s.cap.ring = [] → ∃ (x y : SeqNo) (drawn : Nat),
        exec .walkEnd s = .next (counted (State.offer (note x y) { u with cap := full, freeIndex := drawn }))))

/-! ### Recipe banks -/

/-- RECIPE_OPEN opens the bank beside the ACTIVE one, else the LOADING bank, else bank 0, with nothing written; a
RETIRING one is refused with BANK_BUSY (R109). RECIPE_PUT_RECORDS is refused with STATE where no bank is LOADING and
with RANGE past index 255; taken, it writes each record, clamped, to its index and leaves the other indices (R110).
RECIPE_PUT_CLASSES is refused with STATE, RANGE or DUPLICATE in that order; taken, it writes each entry, clamped, at
its class and leaves the other classes (R111). -/
def Obligations.RecipeIsLoaded : Prop :=
  (∀ (s : State) (f : Frame) (rest : List Frame) (b : BankId), s.asked 0x11 f rest → f.body = [] →
    (s.bank b).state ≠ .active →
    ((s.bank (otherBank b)).state = .active ∨
      ((s.bank (otherBank b)).state ≠ .active ∧ (s.bank b).state = .loading ∧
        (s.bank (otherBank b)).state ≠ .loading) ∨
      (b = 0 ∧ ∀ j, (s.bank j).state ≠ .active ∧ (s.bank j).state ≠ .loading)) →
    exec .recipeOpen s = .next (
      if (s.bank b).state = .retiring then s.answered f rest .bankBusy []
      else State.answered
        { s with rcs.banks := put s.rcs.banks b { Bank.blank with state := .loading } } f rest .ok
        (toBytes 1 b.val))) ∧
  (∀ (s : State) (f : Frame) (rest : List Frame) (n : Nat), s.asked 0x12 f rest →
    f.body.length = 1 + 10 * (n + 1) →
    let first := byteAt f.body 0
    ((∀ b, (s.bank b).state ≠ .loading) → exec .recipePutRecords s = .next (s.answered f rest .state [])) ∧
    ∀ b, (s.bank b).state = .loading → (s.bank (otherBank b)).state ≠ .loading →
      (255 < first + n → exec .recipePutRecords s = .next (s.answered f rest .range [])) ∧
      (first + n ≤ 255 → ∃ (records : Vector (Option TestRecord) 256) (data : List Byte),
        exec .recipePutRecords s = .next (State.answered
          { s with rcs.banks := put s.rcs.banks b { s.bank b with records := records } } f rest .ok data) ∧
        data.length = 2 * (n + 1) ∧
        (∀ i : Fin 256, i.val < first ∨ first + n < i.val → look records i = look (s.bank b).records i) ∧
        ∀ (i : Fin 256) (j : Nat), i.val = first + j → j ≤ n →
          let at_ := 1 + 10 * j
          byteAt data (2 * j) = i.val ∧
          byteAt data (2 * j + 1) = (if 15 < byteAt f.body at_ then 1 else 0) +
            (if 4 < byteAt f.body (at_ + 1) then 2 else 0) + (if 272 < field f.body (at_ + 6) 2 then 4 else 0) +
            (if 272 < field f.body (at_ + 8) 2 then 8 else 0) ∧
          ∃ r, look records i = some r ∧ r.feature.val = min 15 (byteAt f.body at_) ∧
            r.op.code = min 4 (byteAt f.body (at_ + 1)) ∧ r.a.toNat = field f.body (at_ + 2) 2 ∧
            r.b.toNat = field f.body (at_ + 4) 2 ∧ r.onTrue.code = min 272 (field f.body (at_ + 6) 2) ∧
            r.onFalse.code = min 272 (field f.body (at_ + 8) 2))) ∧
  ∀ (s : State) (f : Frame) (rest : List Frame) (n : Nat), s.asked 0x13 f rest → f.body.length = 7 * (n + 1) →
    let cls := fun j : Nat => byteAt f.body (7 * j)
    ((∀ b, (s.bank b).state ≠ .loading) → exec .recipePutClasses s = .next (s.answered f rest .state [])) ∧
    ∀ b, (s.bank b).state = .loading → (s.bank (otherBank b)).state ≠ .loading →
      ((∃ j ≤ n, 15 < cls j) → exec .recipePutClasses s = .next (s.answered f rest .range [])) ∧
      ((∀ j ≤ n, cls j ≤ 15) → (∃ i j, i < j ∧ j ≤ n ∧ cls i = cls j) →
        exec .recipePutClasses s = .next (s.answered f rest .duplicate [])) ∧
      ((∀ j ≤ n, cls j ≤ 15) → (∀ i j, i < j → j ≤ n → cls i ≠ cls j) →
        ∃ (classes : Vector (Option ClassEntry) 16) (data : List Byte),
          exec .recipePutClasses s = .next (State.answered
            { s with rcs.banks := put s.rcs.banks b { s.bank b with classes := classes } } f rest .ok data) ∧
          data.length = 2 * (n + 1) ∧
          (∀ c : Fin 16, (∀ j ≤ n, cls j ≠ c.val) → look classes c = look (s.bank b).classes c) ∧
          ∀ (c : Fin 16) (j : Nat), j ≤ n → cls j = c.val →
            byteAt data (2 * j) = c.val ∧
            byteAt data (2 * j + 1) = (if 2 < byteAt f.body (7 * j + 1) then 1 else 0) +
              (if 7 < byteAt f.body (7 * j + 2) then 2 else 0) + (if 3 < byteAt f.body (7 * j + 5) then 4 else 0) +
              (if 1 < byteAt f.body (7 * j + 6) then 8 else 0) ∧
            ∃ e, look classes c = some e ∧ e.dest.code = min 2 (byteAt f.body (7 * j + 1)) ∧
              e.terms.prec = min 7 (byteAt f.body (7 * j + 2)) ∧ e.terms.lead = byteAt f.body (7 * j + 3) ∧
              e.terms.trail = byteAt f.body (7 * j + 4) ∧ e.terms.widen = min 3 (byteAt f.body (7 * j + 5)) ∧
              (e.terms.report = true ↔ 1 ≤ byteAt f.body (7 * j + 6)))

/-- RECIPE_COMMIT: STATE where no bank is LOADING, RANGE for a record count of 0 or above 256, then the five failures
of R113 in their order; a sound bank becomes ACTIVE under the next generation with its chain cut to the record count,
and the bank that was ACTIVE becomes RETIRING while pieces are pinned to it, else EMPTY (R112, R113, R115). The bytes
the check is made over: the records below the record count, ten bytes each, then the sixteen class entries, six bytes
each (R114). -/
def Obligations.RecipeCommitSwapsBanks : Prop :=
  (∀ (b : Bank) (count : Nat), count ≤ 256 → (∀ i : Fin 256, i.val < count → look b.records i ≠ none) →
    (∀ c, look b.classes c ≠ none) →
    let bs := b.checkBytes count
    bs.length = 10 * count + 96 ∧
    (∀ (i : Fin 256) (r : TestRecord), i.val < count → look b.records i = some r →
      let at_ := 10 * i.val
      byteAt bs at_ = r.feature.val ∧ byteAt bs (at_ + 1) = r.op.code ∧ field bs (at_ + 2) 2 = r.a.toNat ∧
      field bs (at_ + 4) 2 = r.b.toNat ∧ field bs (at_ + 6) 2 = r.onTrue.code ∧
      field bs (at_ + 8) 2 = r.onFalse.code) ∧
    ∀ (c : Fin 16) (e : ClassEntry), look b.classes c = some e →
      let at_ := 10 * count + 6 * c.val
      byteAt bs at_ = e.dest.code ∧ byteAt bs (at_ + 1) = e.terms.prec % 256 ∧
      byteAt bs (at_ + 2) = e.terms.lead % 256 ∧ byteAt bs (at_ + 3) = e.terms.trail % 256 ∧
      byteAt bs (at_ + 4) = e.terms.widen % 256 ∧ byteAt bs (at_ + 5) = if e.terms.report then 1 else 0) ∧
  ∀ (s : State) (f : Frame) (rest : List Frame), s.asked 0x14 f rest → f.body.length = 10 →
    let count := field f.body 0 2
    let root := byteAt f.body 2
    ((∀ b, (s.bank b).state ≠ .loading) → exec .recipeCommit s = .next (s.answered f rest .state [])) ∧
    ∀ b, (s.bank b).state = .loading → (s.bank (otherBank b)).state ≠ .loading →
      let missing := fun i : Fin 256 => i.val < count ∧ look (s.bank b).records i = none
      let astray := fun i : Fin 256 => ∃ r, i.val < count ∧ look (s.bank b).records i = some r ∧
        ((count ≤ r.onTrue.code ∧ r.onTrue.code < 256) ∨ (count ≤ r.onFalse.code ∧ r.onFalse.code < 256))
      let refused := fun (st : Status) (data : List Byte) =>
        exec .recipeCommit s = .next (s.answered f rest st data)
      (count = 0 ∨ 256 < count → refused .range []) ∧
      (1 ≤ count → count ≤ 256 →
        (∀ i, missing i → (∀ j < i, ¬ missing j) → refused .incomplete (toBytes 1 0 ++ toBytes 1 i.val)) ∧
        ((∀ i, ¬ missing i) →
          (∀ c, look (s.bank b).classes c = none → (∀ d < c, look (s.bank b).classes d ≠ none) →
            refused .incomplete (toBytes 1 1 ++ toBytes 1 c.val)) ∧
          ((∀ c, look (s.bank b).classes c ≠ none) →
            (count ≤ root → refused .badTarget (toBytes 1 2 ++ toBytes 1 root)) ∧
            (root < count →
              (∀ i, astray i → (∀ j < i, ¬ astray j) → refused .badTarget (toBytes 1 0 ++ toBytes 1 i.val)) ∧
              ((∀ i, ¬ astray i) →
                let check := (crc16 ((s.bank b).checkBytes count)).toNat
                (check ≠ field f.body 8 2 → refused .check (toBytes 2 check)) ∧
                (check = field f.body 8 2 → ∃ n o : Bank,
                  exec .recipeCommit s = .next (State.answered
                    { s with rcs := { generation := s.rcs.generation + 1
                                      banks := put (put s.rcs.banks b n) (otherBank b) o } } f rest .ok
                    (toBytes 1 b.val ++ toBytes 2 (s.rcs.generation + 1).toNat ++
                      toBytes 1 (if 2 < byteAt f.body 3 then 1 else 0))) ∧
                  n = { s.bank b with
                    state := .active, records := n.records, count := count, root := root
                    unresolved := Dest.ofCode (byteAt f.body 3), label := field f.body 4 4
                    gen := s.rcs.generation + 1 } ∧
                  (∀ i : Fin 256, look n.records i = if i.val < count then look (s.bank b).records i else none) ∧
                  o = (if (s.bank (otherBank b)).state = .active
                    then (if 0 < (s.bank (otherBank b)).pins then { s.bank (otherBank b) with state := .retiring }
                      else Bank.blank)
                    else s.bank (otherBank b))))))))

/-- R118: RECIPE_ABANDON empties the LOADING bank, and is refused with STATE where no bank is LOADING; nothing else
changes. -/
def Obligations.RecipeAbandonEmptiesTheLoadingBank : Prop :=
  ∀ (s : State) (f : Frame) (rest : List Frame), s.asked 0x15 f rest → f.body = [] →
    ((∀ b, (s.bank b).state ≠ .loading) → exec .recipeAbandon s = .next (s.answered f rest .state [])) ∧
    ∀ b, (s.bank b).state = .loading → (s.bank (otherBank b)).state ≠ .loading →
      exec .recipeAbandon s = .next (State.answered
        { s with rcs.banks := put s.rcs.banks b Bank.blank } f rest .ok (toBytes 1 b.val))

/-- Every step keeps the bank states a legal pair and each pin count the number of occupied slots pinned to its bank
(R108, R116, R117). The contents of an ACTIVE or RETIRING bank are as they were committed while the bank stays ACTIVE or
RETIRING, and it is left ACTIVE only by a commit or a hard reset (R108, R115). -/
def Obligations.RecipesStaySound : Prop :=
  (∀ s t : State, step s = .next t → s.recipesSound → t.recipesSound) ∧
  ∀ (c : Instr) (s t : State) (b : BankId), s.recipesSound → exec c s = .next t →
    ((s.bank b).state = .active → (t.bank b).state ≠ .active → c = .recipeCommit ∨ isHardReset c = true) ∧
    ((s.bank b).state = .active ∨ (s.bank b).state = .retiring →
      (t.bank b).state = .active ∨ (t.bank b).state = .retiring →
      t.bank b = { s.bank b with state := (t.bank b).state, pins := (t.bank b).pins })

/-! ### Lane schedules -/

/-- Cutting a window around another leaves exactly the belt positions the other does not hold, in at most two
fragments; a fragment of an UP or DOWN proposal is judged late by its open trigger, a GUARD fragment by its end (R131,
R137, R138). A fragment that remains becomes an entry at the place its start gives it while the lane holds fewer than
sixteen, and is dropped for want of a place else, with its counts and its owner's tallies (R139, R143). -/
def Obligations.FragmentsAreCutJudgedAndInserted : Prop :=
  ((∀ a b c d : Nat, a < b → c < d →
    (∀ x, (∃ w ∈ cutWindow a b c d, w.1 ≤ x ∧ x < w.2) ↔ (a ≤ x ∧ x < b) ∧ ¬ (c ≤ x ∧ x < d)) ∧
    (∀ w ∈ cutWindow a b c d, w.1 < w.2) ∧ (cutWindow a b c d).Pairwise fun u v => u.2 < v.1) ∧
  ∀ (f : Fragment) (row : EntryRow) (rd : Reading),
    let late := (f.start : Int) - rd.leadOpen ≤ rd.pos
    let fits := (rd.minPulse : Int) ≤ (f.stop : Int) - rd.leadClose - rd.pos ∧ rd.pos + rd.leadOpen < f.stop
    (row ≠ .guard →
      (¬ late → f.judged row rd = some f) ∧
      (late → fits → f.judged row rd = some { f with start := rd.pos + rd.leadOpen, lateStart := true }) ∧
      (late → ¬ fits → f.judged row rd = none)) ∧
    (row = .guard → (f.stop ≤ rd.pos → f.judged row rd = none) ∧ (rd.pos < f.stop → f.judged row rd = some f))) ∧
  ∀ (s : State) (l : Lane) (n : Proposal) (f : Fragment),
    let t := s.insertFragment l n f
    let e : Entry := { row := n.row, start := f.start, stop := f.stop, owner := n.owner, prec := n.prec,
                       active := false, lateStart := f.lateStart, sharedCut := f.sharedCut, trimmed := f.trimmed }
    (∀ m, m ≠ l → t.lane m = s.lane m) ∧ t.vdr = s.vdr ∧ t.steady = s.steady ∧
    ((s.lane l).length < 16 → ∃ before after, s.lane l = before ++ after ∧ t.lane l = before ++ e :: after ∧
      (∀ x ∈ before, x.start < f.start) ∧ (∀ x, after.head? = some x → f.start ≤ x.start) ∧
      t.sta.get .placed = min 4294967295 (s.sta.get .placed + 1) ∧
      t.sta.get .anonymous = if n.owner = none then min 4294967295 (s.sta.get .anonymous + 1)
        else s.sta.get .anonymous) ∧
    (16 ≤ (s.lane l).length → t.lane l = s.lane l ∧
      t.sta.get .droppedFull = min 4294967295 (s.sta.get .droppedFull + 1)) ∧
    ∀ i num p, n.owner = some (i, num) → s.piece i = some p → t.piece i = some (
      if (s.lane l).length < 16 then { p with pendingEntries := p.pendingEntries + 1 }
      else { p with tallies.dropFull := p.tallies.dropFull + 1 })

/-- Arbitration of a proposal with one entry of the lane: an entry of its row shares, an ACTIVE one or one of equal or
higher precedence trims the proposal, and a PENDING one of lower precedence is cut around the proposal: removed, cut to
one fragment, split where the lane has a place, or split with its right fragment dropped; its owner is tallied, and
completes when it loses its last entry (R131 to R135, R144). -/
def Obligations.ProposalMeetsAnEntry : Prop :=
  ∀ (s : State) (l : Lane) (n : Proposal) (e : Entry) (fs : List Fragment), laneSound (s.lane l) → e ∈ s.lane l →
    (e.row = n.row → s.meetEntry l n e fs =
      ((fs.flatMap (·.cutAround e)).map fun f => { f with sharedCut := true },
        s.tallyOwner n.owner Piece.tallyShared)) ∧
    (e.row ≠ n.row → e.active = true ∨ n.prec ≤ e.prec → s.meetEntry l n e fs =
      ((fs.flatMap (·.cutAround e)).map fun f => { f with trimmed := true },
        State.count .trimmed 1 (s.tallyOwner n.owner Piece.tallyTrimmed))) ∧
    (e.row ≠ n.row → e.active = false → e.prec < n.prec → ∃ t, s.meetEntry l n e fs = (fs, t) ∧
      let left := (e.cutAround fs).filter fun w => s.own .minPulse ≤ w.2 - w.1
      let cut := fun w : Nat × Nat => { e with start := w.1, stop := w.2, trimmed := true }
      let swap := fun w : Nat × Nat => (s.lane l).map fun x => if x = e then cut w else x
      (left = [] → t.lane l = (s.lane l).filter fun x => x ≠ e) ∧
      (∀ w, left = [w] → t.lane l = swap w) ∧
      (∀ w x, left = [w, x] → (s.lane l).length < 16 → t.lane l = insertEntry (cut x) (swap w)) ∧
      (∀ w x, left = [w, x] → 16 ≤ (s.lane l).length → t.lane l = swap w ∧
        t.sta.get .droppedFull = min 4294967295 (s.sta.get .droppedFull + 1)) ∧
      (∀ m, m ≠ l → t.lane m = s.lane m) ∧ t.vdr = s.vdr ∧ t.steady = s.steady ∧
      t.sta.get .trimmed = min 4294967295 (s.sta.get .trimmed + 1) ∧
      (e.owner = none → t.seg = s.seg) ∧
      ∀ i num p, e.owner = some (i, num) → s.piece i = some p →
        let q : Piece := { p with tallies.trimmed := p.tallies.trimmed + 1 }
        (left = [] → p.pendingEntries ≠ 1 → 0 < p.pendingEntries →
          t.piece i = some { q with pendingEntries := p.pendingEntries - 1 }) ∧
        (left = [] → p.pendingEntries = 1 → p.phase = .scheduled → p.classed ≠ none → t.piece i = none) ∧
        (∀ w, left = [w] → t.piece i = some q) ∧
        (∀ w x, left = [w, x] → (s.lane l).length < 16 →
          t.piece i = some { q with pendingEntries := p.pendingEntries + 1 }) ∧
        (∀ w x, left = [w, x] → 16 ≤ (s.lane l).length →
          t.piece i = some { q with tallies.dropFull := p.tallies.dropFull + 1 }))

/-- A proposal meets the entries of its lane that it overlaps in start order, loses the fragments below MIN_PULSE, and
each that remains is judged late and inserted, or dropped and tallied (R131, R136, R137, R139). PLACE_PIECE: the oldest
hand-off of the source leaves; a PASS piece of precedence 0 gets no proposal; else each covered lane gets the piece's,
or its tally where the valve is out of service or the window beyond reach; a piece without entries completes, and every
valve whose row changed is judged (R123 to R130, R150; the order of the judgments is log entry 8). Where the lane is
empty and the window is neither late nor short, the entry stands there alone; lanes not covered and everything that is
not the pieces' stands. -/
def Obligations.PieceIsPlaced : Prop :=
  (∀ (s : State) (m : Lane) (n : Proposal) (rd : Reading),
    let whole : Fragment :=
      { start := n.start, stop := n.stop, lateStart := false, sharedCut := false, trimmed := false }
    let met := ((s.lane m).filter fun e => e.start < n.stop ∧ n.start < e.stop).foldl
      (fun (a : List Fragment × State) e => a.2.meetEntry m n e a.1) ([whole], s)
    s.propose m n rd = (met.1.filter fun f => rd.minPulse ≤ f.stop - f.start).foldl (fun t f =>
      match f.judged n.row rd with
      | some g => t.insertFragment m n g
      | none => State.count .droppedLate 1
          (t.tallyOwner n.owner fun q => { q with tallies.dropLate := q.tallies.dropLate + 1 })) met.2) ∧
  ∀ (s : State) (src : HandoffSource) (older rest : List Handoff) (i : Slot) (p : Piece) (c : Classification)
    (f l : SeqNo × Nat) (x : Run), s.lsc.handoffs = older ++ .piece src i :: rest →
    (∀ h ∈ older, h.isFrom src = false) → s.piece i = some p → p.phase = .scheduled → p.classed = some c →
    p.first = some f → p.last = some l → p.extent = some x →
    let lead := if c.cls = .overflow then s.own .ovfMargin else c.terms.lead
    let trail := if c.cls = .overflow then s.own .ovfMargin else c.terms.trail
    let start := f.2 + s.own .barOffset - lead
    let stop := min (l.2 + s.own .barOffset + trail) 281474976710655
    let covered := fun m : Lane => decide ((x.left - c.terms.widen) / 2 ≤ m.val) &&
      decide (m.val ≤ min 95 (x.right + c.terms.widen) / 2)
    let entry := fun row : EntryRow =>
      ({ row := row, start := start, stop := stop, owner := some (i, p.number), prec := c.terms.prec,
         active := false, lateStart := false, sharedCut := false, trimmed := false } : Entry)
    let rd : Reading :=
      { pos := s.bpu.pos, leadOpen := s.vdr.leadOpen, leadClose := s.vdr.leadClose, minPulse := s.own .minPulse }
    let proposal := fun row : EntryRow =>
      ({ row := row, start := start, stop := stop, owner := some (i, p.number), prec := c.terms.prec } : Proposal)
    let proposed := fun (row : EntryRow) (t : State) (m : Lane) =>
      if start < stop then
        (t.updatePiece i fun q => { q with tallies.planned := q.tallies.planned + 1 }).propose m (proposal row) rd
      else State.count .droppedLate 1
        (t.updatePiece i fun q => { q with tallies.dropLate := q.tallies.dropLate + 1 })
    let lanes := (List.finRange 48).filter covered
    let u : State := { s with lsc.handoffs := older ++ rest }
    let fresh : State := { u with
      seg.slots := put s.seg.slots i (some { p with tallies := {}, pendingEntries := 0 }) }
    let placed := match c.dest.row? with
      | some r => lanes.foldl (fun (t : State) m => if (t.valve m r).available then proposed (.ofRow r) t m
          else t.updatePiece i fun q => { q with tallies.dropUnavailable := q.tallies.dropUnavailable + 1 }) fresh
      | none => if c.terms.prec = 0 then fresh else lanes.foldl (proposed .guard) fresh
    let done := placed.completeIfDone i
    exec (.placePiece src) s = .next (valveOrder.foldl (fun t v =>
      if u.rowEntries v.1 v.2 = done.rowEntries v.1 v.2 then t
      else t.judge v.1 v.2 (.ordinary (s.bpu.pos + s.vdr.leadOpen))) done) ∧
    (c.dest = .pass → c.terms.prec = 0 → exec (.placePiece src) s = .next (State.complete i
      { s with lsc.handoffs := older ++ rest
               seg.slots := put s.seg.slots i (some { p with tallies := {}, pendingEntries := 0 }) })) ∧
    ∃ t, exec (.placePiece src) s = .next t ∧ t.steady = s.steady ∧ t.lsc.handoffs = older ++ rest ∧
      (∀ m, covered m = false → t.lane m = s.lane m ∧ ∀ q, t.valve m q = s.valve m q) ∧
      (∀ m r, covered m = true → c.dest.row? = some r → (s.valve m r).available = true → s.lane m = [] →
        s.bpu.pos + s.vdr.leadOpen < start → s.bpu.pos + s.vdr.leadClose < stop → start < stop →
        s.own .minPulse ≤ stop - start →
        t.lane m = [entry (.ofRow r)] ∧ ∀ q, t.valve m q = s.valve m q) ∧
      (∀ m, covered m = true → c.dest = .pass → 0 < c.terms.prec → s.lane m = [] → s.bpu.pos < stop →
        start < stop → s.own .minPulse ≤ stop - start →
        t.lane m = [entry .guard] ∧ ∀ q, t.valve m q = s.valve m q) ∧
      (∀ m r, c.dest.row? = some r → (s.valve m r).available = false ∨ stop ≤ start → t.lane m = s.lane m) ∧
      ∀ q r, t.piece i = some q → c.dest.row? = some r →
        q.tallies.planned = (if start < stop then
          ((List.finRange 48).filter fun m => covered m && (s.valve m r).available).length else 0) ∧
        q.tallies.dropUnavailable =
          ((List.finRange 48).filter fun m => covered m && !(s.valve m r).available).length

/-- PLACE_UNTRACKED: the segmenter's oldest hand-off leaves; under OVERFLOW_DEST PASS nothing is placed; else each
covered lane with its valve available gets the window, a window beyond reach being counted late, and every valve whose
row changed is judged (R141, R150; the order of the judgments is log entry 8). The window in one lane: where the last
entry of the row is anonymous and ends at or after the window's start, ACTIVE or PENDING, it is extended to the
window's end, or to the start of the entry that follows it in the lane, and what it then does not hold is proposed as a
new anonymous entry; else the whole window is (R142, R143, R144). -/
def Obligations.UntrackedRunsArePlaced : Prop :=
  (∀ (s : State) (m : Lane) (r : Row) (ws we : Nat) (rd : Reading), laneSound (s.lane m) →
    let last := fun e : Entry =>
      e ∈ s.lane m ∧ e.row = .ofRow r ∧ ∀ x ∈ s.lane m, x.row = .ofRow r → x.start ≤ e.start
    let rest := fun a : Nat =>
      ({ row := .ofRow r, start := a, stop := we, owner := none, prec := 0 } : Proposal)
    let follows := fun e n : Entry =>
      n ∈ s.lane m ∧ e.start < n.start ∧ ∀ x ∈ s.lane m, e.start < x.start → n.start ≤ x.start
    (∀ (e : Entry) (far : Nat), last e → e.owner = none → ws ≤ e.stop →
      ((∀ x ∈ s.lane m, x.start ≤ e.start) ∧ far = max e.stop we) ∨
        (∃ n, follows e n ∧ far = max e.stop (min we n.start)) →
      let t : State := { s with
        lsc.lanes := put s.lsc.lanes m ((s.lane m).map fun x => if x = e then { e with stop := far } else x) }
      s.placeOverflow m r ws we rd = if far < we then t.propose m (rest far) rd else t) ∧
    ((∀ e, last e → e.owner ≠ none ∨ e.stop < ws) → s.placeOverflow m r ws we rd = s.propose m (rest ws) rd)) ∧
  ∀ (s : State) (older rest : List Handoff) (q : SeqNo) (a b : Nat) (runs : List Run),
    s.lsc.handoffs = older ++ .untracked q a b runs :: rest → (∀ h ∈ older, h.isFrom .segmenter = false) →
    let ws := a + s.own .barOffset - s.own .ovfMargin
    let we := min (b + s.own .barOffset + s.own .ovfMargin) 281474976710655
    let covered := fun m : Lane => runs.any fun x => decide (x.left / 2 ≤ m.val) && decide (m.val ≤ x.right / 2)
    let rd : Reading :=
      { pos := s.bpu.pos, leadOpen := s.vdr.leadOpen, leadClose := s.vdr.leadClose, minPulse := s.own .minPulse }
    let u : State := { s with lsc.handoffs := older ++ rest }
    (∀ r : Row, s.own .overflowDest = (if r = .up then 0 else 1) →
      let done := ((List.finRange 48).filter covered).foldl (fun t m =>
        if (t.valve m r).available then
          if ws < we then t.placeOverflow m r ws we rd else State.count .droppedLate 1 t
        else t) u
      exec .placeUntracked s = .next (valveOrder.foldl (fun t v =>
        if u.rowEntries v.1 v.2 = done.rowEntries v.1 v.2 then t
        else t.judge v.1 v.2 (.ordinary (s.bpu.pos + s.vdr.leadOpen))) done)) ∧
    (2 ≤ s.own .overflowDest → exec .placeUntracked s = .next { s with lsc.handoffs := older ++ rest }) ∧
    ∃ t, exec .placeUntracked s = .next t ∧ t.steady = s.steady ∧ t.lsc.handoffs = older ++ rest ∧
      (∀ m, covered m = false → t.lane m = s.lane m ∧ ∀ q, t.valve m q = s.valve m q) ∧
      ∀ m r, s.own .overflowDest = (if r = .up then 0 else 1) → covered m = true →
        ((s.valve m r).available = false ∨ we ≤ ws → t.lane m = s.lane m) ∧
        ((s.valve m r).available = true → ws < we → s.bpu.pos + s.vdr.leadOpen < ws →
          s.bpu.pos + s.vdr.leadClose < we → s.own .minPulse ≤ we - ws → s.lane m = [] →
          t.lane m = [{ row := .ofRow r, start := ws, stop := we, owner := none, prec := 0, active := false,
                        lateStart := false, sharedCut := false, trimmed := false }]) ∧
        ∀ e, (s.valve m r).available = true → ws < we → s.lane m = [e] → e.row = .ofRow r → e.owner = none →
          e.active = false → ws ≤ e.stop → e.stop ≤ we → s.bpu.pos + s.vdr.leadOpen < e.start →
          s.bpu.pos + s.vdr.leadClose < e.stop → t.lane m = [{ e with stop := we }]

/-! ### Valves -/

/-- A judgment repeats a step until none applies to the valve, and reaches no other valve and no other lane (R150). The
step: an OPEN valve closes the entry it serves once its close trigger is reached (R153); in RECOVER and during a test
pulse the first missed PENDING entry of the row retires RECOVER_MISS, and AIR_LOST where the valve is CLOSED with the
air lost (R150, R152, R155, R161); a CLOSED valve with air opens for the first PENDING entry once its open trigger is
reached (R152). The mark LATE_START goes to every entry opened at an air return or a MIN_OFF expiry, and in any other
event only to one the valve opens for after a RECOVER of no length in this judgment, whose open trigger had been
reached before the event (R155, R157; what "before" compares with is log entry 14). So an entry opened at its open
trigger keeps its mark as it was, and under MIN_OFF_US 0 a close that does not bridge opens the next due entry in the
same judgment. -/
def Obligations.JudgedValveIsSettled : Prop :=
  ∀ (s : State) (l : Lane) (r : Row) (o : Opening),
    let t := s.judge l r o
    let v := t.valve l r
    (v.state = .opened → v.served = .entry → ∀ e, t.activeEntry l r = some e →
      s.bpu.pos + s.vdr.leadClose < e.stop) ∧
    (v.state = .recover ∨ (v.state = .opened ∧ v.served = .pulse) ∨ (v.state = .closed ∧ s.vdr.air = .lost) →
      ∀ e ∈ t.lane l, e.row = .ofRow r → e.active = false → s.bpu.pos + s.vdr.leadClose < e.stop) ∧
    (v.state = .closed → s.vdr.air = .present → ∀ e, t.firstPending l r = some e →
      s.bpu.pos + s.vdr.leadOpen < e.start) ∧
    (∀ m, m ≠ l → t.lane m = s.lane m) ∧ (∀ m q, (m, q) ≠ (l, r) → t.valve m q = s.valve m q) ∧
    t.steady = s.steady ∧
    (∃ n : Nat, t = ((fun x : State × Bool => (x.1.judgeStep l r o x.2).getD x)^[n] (s, false)).1) ∧
    (∀ passed : Bool,
      let step := s.judgeStep l r o passed
      let missed := fun e : Entry => e.row = .ofRow r ∧ e.active = false ∧ e.stop ≤ s.bpu.pos + s.vdr.leadClose
      let misses := fun reason : RetireReason => laneSound (s.lane l) → ∀ e ∈ s.lane l, missed e →
        (∀ x ∈ s.lane l, missed x → e.start ≤ x.start) → step = some (s.retire l e reason, passed)
      let late := fun e : Entry => match o with
        | .late => true
        | .ordinary before => passed && decide (e.start ≤ before)
      (step = none ↔ s.settled l r) ∧
      ((s.valve l r).state = .opened → (s.valve l r).served = .entry → ∀ e, s.activeEntry l r = some e →
        e.stop ≤ s.bpu.pos + s.vdr.leadClose →
        let c := s.closeEntry l r e
        step = some (c, passed || decide ((c.valve l r).state = .closed))) ∧
      ((s.valve l r).state = .recover → misses .recoverMiss) ∧
      ((s.valve l r).state = .opened → (s.valve l r).served = .pulse → misses .recoverMiss) ∧
      ((s.valve l r).state = .closed → s.vdr.air = .lost → misses .airLost) ∧
      ((s.valve l r).state = .closed → s.vdr.air = .present → ∀ e, s.firstPending l r = some e →
        e.start ≤ s.bpu.pos + s.vdr.leadOpen → step = some (s.openFor l r e (late e), passed))) ∧
    (laneSound (s.lane l) → s.activitySound → s.vdr.air = .present → ∀ n, s.firstPending l r = some n →
      n.start ≤ s.bpu.pos + s.vdr.leadOpen → s.bpu.pos + s.vdr.leadClose < n.stop →
      let opened := fun late : Bool => { n with active := true, lateStart := n.lateStart || late }
      ((s.valve l r).state = .closed →
        t.lane l = (s.lane l).map fun x => if x = n then opened (decide (o = .late)) else x) ∧
      ∀ e, (s.valve l r).state = .opened → (s.valve l r).served = .entry → s.activeEntry l r = some e →
        e.stop ≤ s.bpu.pos + s.vdr.leadClose → s.own .minOff = 0 → e.stop + s.own .mergeGap < n.start →
        t.lane l = ((s.lane l).filter fun x => x ≠ e).map fun x => if x = n then opened (match o with
          | .late => true
          | .ordinary before => decide (n.start ≤ before)) else x)

/-- A valve that opens for an entry is OPEN serving it, with its actuation counted and MAX_ON running from 0, and the
entry is ACTIVE. An entry whose close trigger closes it retires FIRED, or FIRED_LATE under LATE_START; the valve bridges
to the entry that follows it in the lane where that is a PENDING one of the row within MERGE_GAP, and else ends the
blast: RECOVER under MIN_OFF_US, or CLOSED where that is 0 (R151, R152, R153, R155). -/
def Obligations.ValveOpensClosesAndBridges : Prop :=
  ∀ (s : State) (l : Lane) (r : Row) (e : Entry), laneSound (s.lane l) → e ∈ s.lane l →
    (∀ late : Bool, (s.valve l r).state = .closed →
      let t := s.openFor l r e late
      t.valve l r = { s.valve l r with
        state := .opened, served := .entry, maxOn := some ⟨0, s.own .maxOn⟩
        actuations := min 4294967295 ((s.valve l r).actuations + 1) } ∧
      t.lane l = ((s.lane l).map fun x => if x = e then { e with active := true, lateStart := e.lateStart || late }
        else x) ∧
      t.vdr.busWrites = s.vdr.busWrites ++ [⟨l, r, true⟩] ∧ t.seg = s.seg ∧ t.sta = s.sta ∧
      t.steady = s.steady) ∧
    ((s.valve l r).state = .opened →
      let t := s.closeEntry l r e
      let follows := fun n : Entry => n ∈ s.lane l ∧ e.start < n.start ∧ ∀ x ∈ s.lane l, e.start < x.start →
        n.start ≤ x.start
      let bridged := fun n : Entry => n.row = .ofRow r ∧ n.active = false ∧ n.start ≤ e.stop + s.own .mergeGap
      let reason := if e.lateStart then RetireReason.firedLate else .fired
      let gone := (s.lane l).filter fun x => x ≠ e
      t.sta.get (.ofRetire reason) = min 4294967295 (s.sta.get (.ofRetire reason) + 1) ∧ t.steady = s.steady ∧
      (∀ n, follows n → bridged n → t.vdr = s.vdr ∧
        t.lane l = gone.map fun x => if x = n then { n with active := true } else x) ∧
      ((∀ n, follows n → ¬ bridged n) → t.lane l = gone ∧
        t.vdr.busWrites = s.vdr.busWrites ++ [⟨l, r, false⟩] ∧
        t.valve l r = { s.valve l r with
          state := if s.own .minOff = 0 then .closed else .recover
          served := .none, maxOn := none, pulse := none
          minOff := if s.own .minOff = 0 then none else some (s.own .minOff) }))

/-- The expiries of a valve's timers. MAX_ON truncates the served entry and ends the blast; a test pulse ends the same
way; MIN_OFF ends RECOVER; and each judges the valve at once, an entry opened then being LATE_START only when its open
trigger is reached, as it is for every entry a judgment opens (R150, R154, R155, R161). -/
def Obligations.ValveTimersExpire : Prop :=
  ∀ (s : State) (l : Lane) (r : Row), laneSound (s.lane l) → s.activitySound →
    let v := s.valve l r
    let missed := fun x : Entry => x.row = .ofRow r ∧ x.active = false ∧ x.stop ≤ s.bpu.pos + s.vdr.leadClose
    let rests := fun t : State =>
      t.vdr.busWrites = s.vdr.busWrites ++ [⟨l, r, false⟩] ∧
        t.valve l r = { v with state := .recover, served := .none, maxOn := none, pulse := none
                               minOff := some (s.own .minOff) }
    (v.state = .opened → v.maxOn ≠ none → ∃ t, exec (.maxOnExpiry l r) s = .next t ∧ t.steady = s.steady ∧
      (∀ m, m ≠ l → t.lane m = s.lane m) ∧ (∀ m q, (m, q) ≠ (l, r) → t.valve m q = s.valve m q) ∧
      (0 < s.own .minOff → rests t ∧ ∀ e, s.activeEntry l r = some e →
        t.sta.get (.ofRetire .truncated) = min 4294967295 (s.sta.get (.ofRetire .truncated) + 1) ∧
        ∀ x, x ∈ t.lane l ↔ x ∈ s.lane l ∧ x ≠ e ∧ ¬ missed x)) ∧
    (v.state = .opened → v.served = .pulse → ∃ t, exec (.pulseExpiry l r) s = .next t ∧ t.steady = s.steady ∧
      (∀ m, m ≠ l → t.lane m = s.lane m) ∧ (∀ m q, (m, q) ≠ (l, r) → t.valve m q = s.valve m q) ∧
      (0 < s.own .minOff → rests t ∧ ∀ x, x ∈ t.lane l ↔ x ∈ s.lane l ∧ ¬ missed x)) ∧
    (v.state = .recover → ∃ t, exec (.minOffExpiry l r) s = .next t ∧ t.steady = s.steady ∧
      (∀ m, m ≠ l → t.lane m = s.lane m) ∧ (∀ m q, (m, q) ≠ (l, r) → t.valve m q = s.valve m q) ∧
      (s.vdr.air = .lost ∨ (∀ e, s.firstPending l r = some e → s.bpu.pos + s.vdr.leadOpen < e.start) →
        t.valve l r = { v with state := .closed, served := .none, maxOn := none, minOff := none, pulse := none } ∧
        t.vdr.busWrites = s.vdr.busWrites) ∧
      ∀ e, s.vdr.air = .present → s.firstPending l r = some e → e.start ≤ s.bpu.pos + s.vdr.leadOpen →
        s.bpu.pos + s.vdr.leadClose < e.stop →
        t.vdr.busWrites = s.vdr.busWrites ++ [⟨l, r, true⟩] ∧
        t.valve l r = { v with
          state := .opened, served := .entry, minOff := none, pulse := none, maxOn := some ⟨0, s.own .maxOn⟩
          actuations := min 4294967295 (v.actuations + 1) } ∧
        t.lane l = (s.lane l).map fun x => if x = e then { e with active := true, lateStart := true } else x)

/-- A retired entry leaves its lane, its reason is counted, and its owner is tallied and loses it, and completes with
its last entry. Completion: the outcome by the table of R164; a PIECE notice offered, or counted as suppressed under
report OFF; class and outcome counted; the slot freed and its pin released (R163, R164, R165). -/
def Obligations.RetirementAndCompletion : Prop :=
  (∀ (s : State) (l : Lane) (e : Entry) (reason : RetireReason) (i : Slot) (num : PieceNo) (p : Piece),
    e ∈ s.lane l → e.owner = some (i, num) → s.piece i = some p → p.phase = .scheduled → 0 < p.pendingEntries →
    ∃ (g : Tallies), (g = match reason with
        | .fired => { p.tallies with fired := p.tallies.fired + 1 }
        | .firedLate => { p.tallies with firedLate := p.tallies.firedLate + 1 }
        | .truncated => { p.tallies with truncated := p.tallies.truncated + 1 }
        | .guardHeld => { p.tallies with guardHeld := p.tallies.guardHeld + 1 }
        | .recoverMiss => { p.tallies with dropRecoverMiss := p.tallies.dropRecoverMiss + 1 }
        | .airLost => { p.tallies with dropAirLost := p.tallies.dropAirLost + 1 }
        | .unavailable => { p.tallies with dropUnavailable := p.tallies.dropUnavailable + 1 }) ∧
      let u : State := State.count (.ofRetire reason) 1 { s with
        lsc.lanes := put s.lsc.lanes l ((s.lane l).erase e)
        seg.slots := put s.seg.slots i (some { p with tallies := g, pendingEntries := p.pendingEntries - 1 }) }
      s.retire l e reason = if p.pendingEntries = 1 then u.complete i else u) ∧
  (∀ (g : Tallies) (d : Dest),
    let dropped := g.dropUnavailable + g.dropFull + g.dropLate + g.dropRecoverMiss + g.dropAirLost
    let first := d = .pass ∧ g.planned = 0
    let second := g.trimmed + g.firedLate + g.truncated + dropped = 0
    let third := d ≠ .pass ∧ g.fired + g.firedLate + g.truncated = 0
    (first → g.outcome d = .notEjected) ∧ (¬ first → second → g.outcome d = .complete) ∧
      (¬ first → ¬ second → third → g.outcome d = .shortfall) ∧
      (¬ first → ¬ second → ¬ third → g.outcome d = .partialOutcome)) ∧
  ∀ (s : State) (i : Slot) (p : Piece) (c : Classification), s.piece i = some p → p.classed = some c →
    let o := p.tallies.outcome c.dest
    let t := s.complete i
    t.piece i = none ∧ (∀ j, j ≠ i → t.piece j = s.piece j) ∧ t.steady = s.steady ∧ t.lsc = s.lsc ∧ t.vdr = s.vdr ∧
    t.rcs.banks = put s.rcs.banks p.bank (s.bank p.bank).unpin ∧
    t.sta.get (.ofClass c.cls) = min 4294967295 (s.sta.get (.ofClass c.cls) + 1) ∧
    t.sta.get (.ofOutcome o) = min 4294967295 (s.sta.get (.ofOutcome o) + 1) ∧
    (c.terms.report = false → s.eng.state ≠ .draining →
      t.lnk = s.lnk ∧ t.sta.get .suppressed = min 4294967295 (s.sta.get .suppressed + 1)) ∧
    (c.terms.report = true → s.eng.state ≠ .draining → t.lnk = (s.offerPiece p o).lnk) ∧
    t.eng.state = (if s.eng.state = .draining ∧ s.occupied = 1 then .idle else s.eng.state)

/-- AIR_LOST completes: it closes every OPEN valve directly, each close going out on the valve bus, retires the entry
it served AIR_LOST, counted and tallied to its owner, and then raises the fault: flag and FAULT notice, the engine
state as it stands; every other valve and entry stands (R156, R163, R174). AIR_RESTORED completes: the notice of the
return, then every valve judged, entries opened then being LATE_START: each CLOSED valve opens whose first PENDING
entry is between its triggers, and a CLOSED valve with none whose open trigger is reached stays (R150, R157, R177). The
order of the valves, and of the fault and the notice against them, is log entry 8. -/
def Obligations.AirIsLostAndReturns : Prop :=
  (∀ s : State, s.vdr.air = .present →
    let flags : FaultFlags := { s.eng.flags with airLost := true }
    let open_ := valveOrder.filter fun v => (s.valve v.1 v.2).state = .opened
    let served := open_.filterMap fun v => s.activeEntry v.1 v.2
    let owned := fun i : Slot => (served.filter fun e => e.owner.map Prod.fst = some i).length
    let u := valveOrder.foldl (fun t v =>
      if (t.valve v.1 v.2).state = .opened then
        let c := t.setValve v.1 v.2 { t.valve v.1 v.2 with
          state := .closed, served := .none, maxOn := none, minOff := none, pulse := none }
        match t.activeEntry v.1 v.2 with
        | some e => c.retire v.1 e .airLost
        | none => c
      else t) { s with vdr.air := .lost }
    exec .airLost s = .next (State.offer (.fault (.raised .airLost) u.eng.state flags s.bpu.pos)
      { u with eng.flags := flags }) ∧
    u.vdr.busWrites = s.vdr.busWrites ++ open_.map (fun v => ⟨v.1, v.2, false⟩) ∧
    (s.sta.get (.ofRetire .airLost) ≤ 4294967295 → u.sta.get (.ofRetire .airLost) =
      min 4294967295 (s.sta.get (.ofRetire .airLost) + served.length)) ∧
    ∀ i p q, s.piece i = some p → u.piece i = some q →
      q = { p with tallies.dropAirLost := p.tallies.dropAirLost + owned i
                   pendingEntries := p.pendingEntries - owned i }) ∧
  (∀ s : State, s.vdr.air = .present → s.lanesSound → ∃ t, exec .airLost s = .next t ∧
    t.steady = { s.steady with air := .lost } ∧ t.eng.flags = { s.eng.flags with airLost := true } ∧
    (s.eng.state ≠ .draining → t.eng.state = s.eng.state) ∧
    (∀ l r, t.valve l r = if (s.valve l r).state = .opened
      then { s.valve l r with state := .closed, served := .none, maxOn := none, minOff := none, pulse := none }
      else s.valve l r) ∧
    ∀ l x, x ∈ t.lane l ↔
      x ∈ s.lane l ∧ ¬ ∃ r, (s.valve l r).state = .opened ∧ s.activeEntry l r = some x) ∧
  (∀ s : State, s.vdr.air = .lost → ∃ t, exec .airRestored s = .next t ∧ t.judged ∧
    t = State.judgeAll .late (State.offer (.fault .airRestored s.eng.state s.eng.flags s.bpu.pos)
      { s with vdr.air := .present })) ∧
  ∀ s : State, s.vdr.air = .lost → s.lanesSound → s.activitySound → ∃ t, exec .airRestored s = .next t ∧
    t.steady = { s.steady with air := .present } ∧ t.eng.flags = s.eng.flags ∧
    (s.lnk.notices.length < 64 →
      t.lnk.notices.take (s.lnk.notices.length + 1) =
        s.lnk.notices ++ [.fault .airRestored s.eng.state s.eng.flags s.bpu.pos]) ∧
    ∀ l r, (s.valve l r).state = .closed →
      ((∀ e, s.firstPending l r = some e → s.bpu.pos + s.vdr.leadOpen < e.start) →
        t.valve l r = s.valve l r) ∧
      ∀ e, s.firstPending l r = some e → e.start ≤ s.bpu.pos + s.vdr.leadOpen →
        s.bpu.pos + s.vdr.leadClose < e.stop →
        (t.valve l r).state = .opened ∧ (t.valve l r).served = .entry ∧
        (t.valve l r).maxOn = some ⟨0, s.own .maxOn⟩ ∧
        (t.valve l r).actuations = min 4294967295 ((s.valve l r).actuations + 1) ∧
        { e with active := true, lateStart := true } ∈ t.lane l

/-- VALVE_SET and VALVE_PULSE. A lane, row or action out of range is refused with RANGE. DISABLE of a valve that is not
DISABLED closes it and retires every entry of its row UNAVAILABLE; ENABLE of a DISABLED or FAULTED valve makes it
CLOSED and judges it; any other changes nothing. VALVE_PULSE is refused by its table, or opens the valve for the
clamped duration (R158, R161). That the duration is read as unsigned is log entry 16, which of the two VALVE_SET rows
takes which frame log entry 18, and what the judgment of ENABLE compares with log entry 14. -/
def Obligations.ValveRequestsAct : Prop :=
  (∀ (s : State) (f : Frame) (rest : List Frame), s.asked 0x18 f rest → f.body.length = 3 →
    let lane := byteAt f.body 0
    let row := byteAt f.body 1
    let action := byteAt f.body 2
    (47 < lane ∨ 1 < row ∨ 1 < action →
      (action ≠ 1 → exec .valveEnable s = .next (s.answered f rest .range [])) ∧
      (action ≠ 0 → exec .valveDisable s = .next (s.answered f rest .range []))) ∧
    ∀ (l : Lane) (r : Row), l.val = lane → row = (if r = .up then 0 else 1) →
      let v := s.valve l r
      let u : State := { s with lnk.inbound := rest }
      (action = 0 → v.state = .disabled ∨ v.state = .faulted → ∃ t : State,
        exec .valveEnable s = .next (t.replied f .ok (toBytes 1 (t.valve l r).state.code)) ∧
        t = (u.setValve l r { v with state := .closed, served := .none, maxOn := none, minOff := none,
                                     pulse := none }).judge l r (.ordinary s.openReach)) ∧
      (action = 0 → v.state ≠ .disabled → v.state ≠ .faulted →
        exec .valveEnable s = .next (s.answered f rest .ok (toBytes 1 v.state.code))) ∧
      (action = 1 → v.state = .disabled →
        exec .valveDisable s = .next (s.answered f rest .ok (toBytes 1 3))) ∧
      (action = 1 → v.state ≠ .disabled → laneSound (s.lane l) → ∃ t : State,
        exec .valveDisable s = .next (t.replied f .ok (toBytes 1 3)) ∧ t.steady = u.steady ∧
        t.valve l r = { v with state := .disabled, served := .none, maxOn := none, minOff := none, pulse := none } ∧
        (∀ m q, (m, q) ≠ (l, r) → t.valve m q = s.valve m q) ∧
        t.vdr.busWrites = s.vdr.busWrites ++ (if v.state = .opened then [⟨l, r, false⟩] else []) ∧
        t.lane l = ((s.lane l).filter fun x => x.row ≠ .ofRow r) ∧ (∀ m, m ≠ l → t.lane m = s.lane m) ∧
        (s.sta.get (.ofRetire .unavailable) ≤ 4294967295 → t.sta.get (.ofRetire .unavailable) =
          min 4294967295 (s.sta.get (.ofRetire .unavailable) + (s.rowEntries l r).length)))) ∧
  ∀ (s : State) (f : Frame) (rest : List Frame), s.asked 0x19 f rest → f.body.length = 6 →
    let sent := field f.body 2 4
    let answer := fun st : Status => exec .valvePulse s = .next (s.answered f rest st [])
    (47 < byteAt f.body 0 ∨ 1 < byteAt f.body 1 → answer .range) ∧
    ∀ (l : Lane) (r : Row), l.val = byteAt f.body 0 → byteAt f.body 1 = (if r = .up then 0 else 1) →
      let v := s.valve l r
      (s.eng.state ≠ .idle → answer .state) ∧
      (s.eng.state = .idle →
        (v.state = .disabled ∨ v.state = .faulted → answer .state) ∧
        (v.state ≠ .disabled → v.state ≠ .faulted →
          (s.vdr.air = .lost → answer .notReady) ∧
          (s.vdr.air = .present → (s.lane l ≠ [] ∨ v.state ≠ .closed → answer .busy) ∧
            (s.lane l = [] → v.state = .closed →
              let taken := max 1 (min sent (s.own .maxOn))
              exec .valvePulse s = .next (State.answered { s with
                  vdr.valves := put s.vdr.valves l ((look s.vdr.valves l).put r { v with
                    state := .opened, served := .pulse, pulse := some taken
                    actuations := min 4294967295 (v.actuations + 1) })
                  vdr.busWrites := s.vdr.busWrites ++ [⟨l, r, true⟩] } f rest .ok
                (toBytes 4 taken ++ toBytes 1 (if taken = sent then 0 else 1)))))))

/-- VALVE_RETURN_FRAME: a frame with a wrong CRC or broken off is discarded. A good one records each coil status; a
FAULT takes a valve that is CLOSED, OPEN or RECOVER out of service as FAULTED with every entry of its row, each
retiring UNAVAILABLE, counted and tallied to its owner, and raises VALVE_FAULT, one FAULT notice for each valve so
taken; every other valve stands (R159, R163). A frame may report a valve twice: the reports are taken in their order
(log entry 7). -/
def Obligations.ReturnFrameReportsCoils : Prop :=
  ∀ (s : State) (reports : List CoilReport) (crcMatches broken : Bool), s.vdr.inFrame = true →
    (crcMatches = false ∨ broken = true →
      exec (.valveReturnFrame reports crcMatches broken) s = .next { s with vdr.inFrame := false }) ∧
    (crcMatches = true → broken = false →
      let faulty := fun v : Lane × Row => (s.valve v.1 v.2).state ≠ .disabled ∧ (s.valve v.1 v.2).state ≠ .faulted ∧
        ∃ c ∈ reports, c.coil = .fault ∧ (c.lane, c.row) = v
      let taken := (List.finRange 48).flatMap fun l => [Row.up, Row.down].flatMap fun r =>
        if faulty (l, r) then [(l, r)] else []
      let lost := taken.flatMap fun v => s.rowEntries v.1 v.2
      let owned := fun i : Slot => (lost.filter fun e => e.owner.map Prod.fst = some i).length
      let raised := fun t : State => t.lnk.notices.filter fun n => match n with
        | .fault (.raised .valveFault) _ _ _ => true
        | _ => false
      ∃ t, exec (.valveReturnFrame reports crcMatches broken) s = .next t ∧
        t = reports.foldl (fun u c =>
          let w := u.setValve c.lane c.row { u.valve c.lane c.row with coil := c.coil }
          if c.coil = .fault ∧ (u.valve c.lane c.row).state ≠ .disabled ∧ (u.valve c.lane c.row).state ≠ .faulted then
            let es := w.rowEntries c.lane c.row
            State.raiseFault .valveFault ((es.filter (fun e => e.active) ++ es.filter fun e => !e.active).foldl
              (fun x e => x.retire c.lane e .unavailable) (w.setValve c.lane c.row { w.valve c.lane c.row with
                state := .faulted, served := .none, maxOn := none, minOff := none, pulse := none }))
          else w) { s with vdr.inFrame := false } ∧
        (s.sta.get (.ofRetire .unavailable) ≤ 4294967295 → t.sta.get (.ofRetire .unavailable) =
          min 4294967295 (s.sta.get (.ofRetire .unavailable) + lost.length)) ∧
        (∀ i p q, s.piece i = some p → t.piece i = some q →
          q = { p with tallies.dropUnavailable := p.tallies.dropUnavailable + owned i
                       pendingEntries := p.pendingEntries - owned i }) ∧
        (t.lnk.notices.length < 64 → (raised t).length = (raised s).length + taken.length)) ∧
    (crcMatches = true → broken = false → s.lanesSound → (reports.map fun c => (c.lane, c.row)).Nodup →
      let takes := fun c : CoilReport => c ∈ reports ∧ c.coil = .fault ∧
        (s.valve c.lane c.row).state ≠ .disabled ∧ (s.valve c.lane c.row).state ≠ .faulted
      ∃ t, exec (.valveReturnFrame reports crcMatches broken) s = .next t ∧
        t.steady = { s.steady with busFrame := false } ∧
        (∀ c ∈ reports, t.valve c.lane c.row =
          if c.coil = .fault ∧ (s.valve c.lane c.row).state ≠ .disabled ∧ (s.valve c.lane c.row).state ≠ .faulted
          then { s.valve c.lane c.row with state := .faulted, served := .none, maxOn := none, minOff := none,
                                           pulse := none, coil := .fault }
          else { s.valve c.lane c.row with coil := c.coil }) ∧
        (∀ l r, (∀ c ∈ reports, (c.lane, c.row) ≠ (l, r)) → t.valve l r = s.valve l r) ∧
        (∀ l x, x ∈ t.lane l ↔
          x ∈ s.lane l ∧ ∀ c, takes c → c.lane = l → x.row ≠ .ofRow c.row) ∧
        ((∃ c, takes c) → t.eng.flags = { s.eng.flags with valveFault := true }) ∧
        ((∀ c, ¬ takes c) → t.eng = s.eng ∧ t.lnk = s.lnk ∧ t.seg = s.seg))

/-- Every step keeps every lane schedule sound: at most sixteen entries with windows that are not empty, in order of
start position, no two of them sharing a belt position (R121); keeps the valve bus showing each valve open exactly
while the valve is OPEN, and no valve open while the air is lost (R151, R156); and, with the lanes sound, keeps one
ACTIVE entry in a lane and row exactly while its valve is OPEN for an entry (section 7.1). -/
def Obligations.LanesAndValvesStaySound : Prop :=
  (∀ s t : State, step s = .next t →
    (s.valvesSound → t.valvesSound) ∧ (s.lanesSound → s.activitySound → t.activitySound)) ∧
  ∀ s t : State, step s = .next t → s.lanesSound → t.lanesSound

/-! ### Engine Control -/

/-- A piece that an abandon or a flush ends: its outcome is counted, its PIECE notice offered, its slot freed and its
pin released, and nothing else changes (R83, R84, R103, R104, R166). SORT_START and SORT_STOP DRAIN with their refusals
and changes of state (R170, R171, R173). SORT_STOP ABANDON goes to DRAINING with its notice, ends the OPEN pieces in
slot order and then those of the classifier ABANDONED, each counted, touches no SCHEDULED one, counts them in its
reply, and passes to IDLE with the notice of DRAINED once no slot is occupied (R172, R173). FLUSH ends every piece
FLUSHED, each counted: the OPEN ones in slot order, the walk's and the queue's, and, once the lanes are empty and every
OPEN valve has closed to the end of its blast, the SCHEDULED ones in slot order; it ends DRAINING with the notice of
FLUSH (R146, R166, R179). Which row takes which SORT_STOP is log entry 18; that the hand-offs that wait are placed
first, as by their own commands, log entry 9; the order of the valves log entry 8. -/
def Obligations.StartsStopsAndFlushAct : Prop :=
  (∀ (s : State) (o : PieceOutcome) (i : Slot) (p : Piece), s.piece i = some p →
    let t := s.endPiece o i
    let n := s.offerPiece p o
    t.piece i = none ∧ (∀ j, j ≠ i → t.piece j = s.piece j) ∧
    t.rcs.banks = put s.rcs.banks p.bank (s.bank p.bank).unpin ∧ t.lnk = n.lnk ∧
    (∀ c, t.sta.get c = if c = .ofOutcome o then min 4294967295 (s.sta.get c + 1) else n.sta.get c) ∧
    t.steady = s.steady ∧ t.lsc = s.lsc ∧ t.vdr = s.vdr ∧ t.cls = s.cls ∧ t.eng = s.eng) ∧
  (∀ (t r : State) (src : HandoffSource) (i : Slot), t.lsc.handoffs = [] →
    exec (.placePiece src) { t with lsc.handoffs := [.piece src i] } = .next r → t.placeHandoff (.piece src i) = r) ∧
  (∀ (t r : State) (q : SeqNo) (a b : Nat) (runs : List Run), t.lsc.handoffs = [] →
    exec .placeUntracked { t with lsc.handoffs := [.untracked q a b runs] } = .next r →
    t.placeHandoff (.untracked q a b runs) = r) ∧
  ∀ (s : State) (f : Frame) (rest : List Frame),
    let u : State := { s with lnk.inbound := rest }
    let running := s.eng.state = .sorting ∨ s.eng.state = .draining
    let held := (match s.cls.walk with | some w => [w.slot] | none => []) ++ s.cls.queue
    let inPhase := fun (ph : Phase) (t : State) => (List.finRange 256).filter fun i => t.slotIs ph i
    (s.asked 0x07 f rest → f.body = [] →
      let active := ∃ b, (s.bank b).state = .active
      (s.eng.state ≠ .idle →
        exec .sortStart s = .next (s.answered f rest .state (toBytes 1 s.eng.state.code))) ∧
      (s.eng.state = .idle → s.blt.valid = true → active →
        exec .sortStart s = .next (State.answered (State.setEngine .sorting .sortStart s) f rest .ok [])) ∧
      (s.eng.state = .idle → s.blt.valid = false → active →
        exec .sortStart s = .next (s.answered f rest .notReady (toBytes 1 1))) ∧
      (s.eng.state = .idle → s.blt.valid = true → ¬ active →
        exec .sortStart s = .next (s.answered f rest .notReady (toBytes 1 2))) ∧
      (s.eng.state = .idle → s.blt.valid = false → ¬ active →
        exec .sortStart s = .next (s.answered f rest .notReady (toBytes 1 3)))) ∧
    (s.asked 0x08 f rest → f.body.length = 1 →
      let mode := byteAt f.body 0
      (1 < mode → exec .sortStopDrain s = .next (s.answered f rest .range []) ∧
        exec .sortStopAbandon s = .next (s.answered f rest .range [])) ∧
      (mode = 0 →
        (¬ running → exec .sortStopDrain s = .next (s.answered f rest .state [])) ∧
        (s.eng.state = .draining → exec .sortStopDrain s = .next (s.answered f rest .ok [])) ∧
        (s.eng.state = .sorting → exec .sortStopDrain s = .next (State.answered
          (let t := State.setEngine .draining .stopDrain s
           if s.occupied = 0 then State.setEngine .idle .drained t else t) f rest .ok []))) ∧
      (mode = 1 →
        (¬ running → exec .sortStopAbandon s = .next (s.answered f rest .state [])) ∧
        (running →
          let drained := fun t : State =>
            if t.eng.state = .draining ∧ t.occupied = 0 then t.setEngine .idle .drained else t
          let ended := fun (t : State) (i : Slot) => drained (t.endPiece .abandoned i)
          let a := if s.eng.state = .sorting then u.setEngine .draining .stopAbandon else u
          let b := (inPhase .openPiece s).foldl ended a
          let t := drained (held.foldl ended { b with cls := { queue := [], walk := none } })
          exec .sortStopAbandon s = .next (t.replied f .ok
            (toBytes 2 (s.openCount + (s.cls.queue.length + if s.cls.walk = none then 0 else 1)))) ∧
          t.steady = u.steady ∧ t.lsc = s.lsc ∧ t.vdr = s.vdr ∧ t.cls = { queue := [], walk := none } ∧
          (∀ i, t.piece i = if s.slotIs .openPiece i = true ∨ i ∈ s.cls.queue ∨
            (∃ w, s.cls.walk = some w ∧ w.slot = i) then none else s.piece i) ∧
          (s.sta.get (.ofOutcome .abandoned) ≤ 4294967295 → t.sta.get (.ofOutcome .abandoned) =
            min 4294967295 (s.sta.get (.ofOutcome .abandoned) + (s.occupied - t.occupied))) ∧
          t.eng.flags = s.eng.flags ∧ t.eng.state = (if t.occupied = 0 then .idle else .draining)))) ∧
    (s.asked 0x09 f rest → f.body = [] →
      let a := s.lsc.handoffs.foldl (fun t h => t.placeHandoff h) { u with lsc.handoffs := [] }
      let b := (inPhase .openPiece a).foldl (fun t i => t.endPiece .flushed i) a
      let c := held.foldl (fun t i => t.endPiece .flushed i) { b with cls := { queue := [], walk := none } }
      let e := valveOrder.foldl (fun t v =>
        if (t.valve v.1 v.2).state = .opened then
          t.setValve v.1 v.2 ((t.valve v.1 v.2).recovering (s.own .minOff))
        else t) { c with lsc := { lanes := Vector.replicate 48 [], handoffs := [] } }
      let g := (inPhase .scheduled e).foldl (fun t i => t.endPiece .flushed i)
        ((inPhase .scheduled e).foldl (fun t i => t.updatePiece i fun p => { p with pendingEntries := 0 }) e)
      let t := if g.eng.state = .draining then g.setEngine .idle .flush else g
      exec .flush s = .next (t.replied f .ok (toBytes 2 a.occupied)) ∧
      t.steady = u.steady ∧ (∀ l, t.lane l = []) ∧ t.lsc.handoffs = [] ∧ t.cls = { queue := [], walk := none } ∧
      t.eng.flags = s.eng.flags ∧ t.eng.state = (if s.eng.state = .draining then .idle else s.eng.state) ∧
      (∀ l r, (t.valve l r).state ≠ .opened) ∧
      (∀ l r, (s.valve l r).available = false → t.valve l r = s.valve l r) ∧
      (s.lsc.handoffs = [] → a = u ∧ ∀ l r, t.valve l r =
        if (s.valve l r).state = .opened then (s.valve l r).recovering (s.own .minOff) else s.valve l r) ∧
      ((∀ i p, s.piece i = some p → p.phase = .queued ∨ p.phase = .walking → i ∈ held) →
        (∀ i, t.piece i = none) ∧
        (s.sta.get (.ofOutcome .flushed) ≤ 4294967295 → t.sta.get (.ofOutcome .flushed) =
          min 4294967295 (s.sta.get (.ofOutcome .flushed) + a.occupied))))

/-- A change of engine state places its notice. The raise of a fault sets its flag and places its FAULT notice; a
halting kind in SORTING or DRAINING halts the engine with its two notices and then ends the OPEN pieces, in slot order,
and those of the classifier ABANDONED, each counted and offered for report, leaving the SCHEDULED pieces, the lanes and
the valves; SENSOR_LOST in SURVEY aborts the survey; in every other case nothing else changes (R83, R104, R169, R174 to
R177). CLEAR clears the fault flags; in HALTED it is refused with BUSY while a slot is occupied and else makes the
engine IDLE (R178). RESET sets the reset-pending mark and is answered OK (R180). That SURVEY_END stands before the
ENGINE notice at SENSOR_LOST in SURVEY is log entry 12, the mark of a RESET reply gone out, which RESET clears, log
entry 22. -/
def Obligations.FaultsAndClearAct : Prop :=
  ((∀ (s : State) (new : EngState) (cause : EngCause), s.eng.state ≠ new →
    s.setEngine new cause = State.offer (.engine s.eng.state new cause s.eng.flags s.bpu.pos .none)
      { s with eng.state := new }) ∧
  ∀ (s : State) (k : FaultKind),
    let halts := k = .sensorLost ∨ k = .beltReversed ∨ k = .positionExhausted
    let running := s.eng.state = .sorting ∨ s.eng.state = .draining
    let flags := match k with
      | .sensorLost => { s.eng.flags with sensorLost := true }
      | .beltReversed => { s.eng.flags with beltReversed := true }
      | .positionExhausted => { s.eng.flags with positionExhausted := true }
      | .airLost => { s.eng.flags with airLost := true }
      | .valveFault => { s.eng.flags with valveFault := true }
    let u : State := { s with eng.flags := flags }
    (¬ (halts ∧ running) → ¬ (k = .sensorLost ∧ s.eng.state = .survey) → s.raiseFault k =
      u.offer (.fault (.raised k) s.eng.state flags s.bpu.pos)) ∧
    (k = .sensorLost → s.eng.state = .survey → s.raiseFault k =
      State.setEngine .idle .sensorLost (State.offer (.surveyEnd .aborted s.blt.acc.good)
        { State.offer (.fault (.raised k) .idle flags s.bpu.pos) u with
            blt.status := .aborted, blt.acc := SurveyAcc.zero })) ∧
    (halts → running → let t := s.raiseFault k
      t.eng = { s.eng with state := .halted, flags := flags } ∧ t.steady = s.steady ∧ t.lsc = s.lsc ∧
      t.vdr = s.vdr ∧ t.cls = { queue := [], walk := none } ∧
      (∀ i, t.piece i = if s.slotIs .openPiece i = true ∨ i ∈ s.cls.queue ∨
        (∃ w, s.cls.walk = some w ∧ w.slot = i) then none else s.piece i) ∧
      (let held := (match s.cls.walk with | some w => [w.slot] | none => []) ++ s.cls.queue
       let told := State.offer (.engine s.eng.state .halted k.cause flags s.bpu.pos .none)
        { State.offer (.fault (.raised k) .halted flags s.bpu.pos) u with eng.state := .halted }
       let ended := fun (x : State) (i : Slot) => x.endPiece .abandoned i
       let b := ((List.finRange 256).filter fun i => s.slotIs .openPiece i).foldl ended told
       t = held.foldl ended { b with cls := { queue := [], walk := none } }) ∧
      (s.sta.get (.ofOutcome .abandoned) ≤ 4294967295 → t.sta.get (.ofOutcome .abandoned) =
        min 4294967295 (s.sta.get (.ofOutcome .abandoned) + (s.occupied - t.occupied))) ∧
      (s.lnk.notices.length + 2 ≤ 64 → t.lnk.notices.take (s.lnk.notices.length + 2) = s.lnk.notices ++
        [.fault (.raised k) .halted flags s.bpu.pos,
         .engine s.eng.state .halted k.cause flags s.bpu.pos .none]))) ∧
  ∀ (s : State) (f : Frame) (rest : List Frame), f.body = [] →
    (s.asked 0x0A f rest →
      (s.eng.state ≠ .halted → exec .clear s = .next (State.answered { s with eng.flags := {} } f rest .ok [])) ∧
      (s.eng.state = .halted → 0 < s.occupied →
        exec .clear s = .next (s.answered f rest .busy (toBytes 2 s.occupied))) ∧
      (s.eng.state = .halted → s.occupied = 0 → exec .clear s = .next (State.answered
        (State.offer (.engine .halted .idle .clear {} s.bpu.pos .none)
          { s with eng.flags := {}, eng.state := .idle }) f rest .ok []))) ∧
    (s.asked 0x0B f rest → exec .reset s = .next (State.answered
      { s with eng.resetPending := true, eng.resetReplySent := false } f rest .ok []))

/-- The engine state moves only as the table of R169 says, each line by the commands that make that change (R169, R173);
and every step keeps a survey running exactly in SURVEY and DRAINING with a slot occupied (R168, R173). -/
def Obligations.EngineMovesByItsTable : Prop :=
  (∀ (c : Instr) (s t : State), s.engineSound → exec c s = .next t → mayMove c s.eng.state t.eng.state) ∧
  ∀ s t : State, step s = .next t → s.engineSound → t.engineSound

/-! ### Settings -/

/-- A value taken lies in the setting's range, is the value sent where that can be taken, and is else the nearest
bound, WIN_START even downwards and WIN_WIDTH even upwards. A SET is refused whole by its first failing item; else
every item is applied in order, LINE-class values staged under HOLD, and answered with its identifier, the value taken
and the marks CHANGED and STAGED; where a delay changed, new leads are made and every valve is judged (R27, R30, R34,
R149, R150, R188, R189; the order in which the valves are judged is log entry 8, what a judgment compares with log
entry 14). HOLD sets the HOLD flag; RELEASE under HOLD brings every staged value into force at once, empties the staged
set and clears the flag, and without HOLD changes nothing (R35, R36). -/
def Obligations.SettingsRequestsAct : Prop :=
  ((∀ (i : LineId) (v : Int), LineId.takes i (i.taken v) ∧
    (∀ n : Nat, v = n → LineId.takes i n → i.taken v = n) ∧
    (v < i.bounds.1 → i.taken v = i.bounds.1) ∧ ((i.bounds.2 : Int) < v → i.taken v = i.bounds.2) ∧
    ((i.bounds.1 : Int) ≤ v → v ≤ i.bounds.2 → v % 2 = 1 →
      (i = .winStart → (i.taken v : Int) = v - 1) ∧ (i = .winWidth → (i.taken v : Int) = v + 1))) ∧
  (∀ (i : OwnId) (v : Int), OwnId.takes i (i.taken v) ∧ (∀ n : Nat, v = n → OwnId.takes i n → i.taken v = n) ∧
    (v < i.bounds.1 → i.taken v = i.bounds.1) ∧ ((i.bounds.2 : Int) < v → i.taken v = i.bounds.2)) ∧
  (∀ (c : Cdu) (v : Int),
    (∀ i, (c.applyItem (.own i) v).1 = { c with own := c.own.put i (i.taken v) }) ∧
    (∀ i, (c.applyItem (.line i) v).1 =
      if c.hold then { c with staged := c.staged.put i (i.taken v) } else { c with line := c.line.put i (i.taken v) }) ∧
    ∀ i, let d := (c.applyItem .gainAll v).1
      let named := ∃ k, i = .gain k
      d.own = c.own ∧ d.hold = c.hold ∧
      (named → c.hold = true → d.line.get i = c.line.get i ∧ d.staged.get i = some (i.taken v)) ∧
      (named → c.hold = false → d.line.get i = i.taken v ∧ d.staged.get i = c.staged.get i) ∧
      (¬ named → d.line.get i = c.line.get i ∧ d.staged.get i = c.staged.get i)) ∧
  ∀ (s : State) (f : Frame) (rest : List Frame) (k : Nat), s.asked 0x03 f rest → f.body.length = 6 * (k + 1) →
    k < 32 →
    let code := fun j : Nat => field f.body (6 * j) 2
    let value := fun j : Nat => asSigned 4 (field f.body (6 * j + 2) 4)
    let fails := fun (j : Nat) (st : Status) => match SettingTarget.ofCode (code j) with
      | none => st = .badId
      | some g =>
        (st = .duplicate ∧ ∃ i < j, code i = code j) ∨
          (st = .state ∧ (∀ i < j, code i ≠ code j) ∧ g.idleOnly = true ∧ s.eng.state ≠ .idle)
    (∀ j st, j ≤ k → fails j st → (∀ i < j, ∀ e, ¬ fails i e) →
      exec .set s = .next (s.answered f rest st (toBytes 1 j ++ toBytes 2 (code j)))) ∧
    ((∀ j ≤ k, ∀ st, ¬ fails j st) → ∃ (t : State) (data : List Byte),
      exec .set s = .next (t.replied f .ok data) ∧ data.length = 7 * (k + 1) ∧
      (∀ j g, j ≤ k → SettingTarget.ofCode (code j) = some g →
        let taken := match g with
          | .line i => i.taken (value j)
          | .own i => i.taken (value j)
          | .gainAll => LineId.taken (.gain .ind) (value j)
        let staged := match g with
          | .own _ => False
          | _ => s.cdu.hold = true
        field data (7 * j) 2 = code j ∧ field data (7 * j + 2) 4 = taken ∧
        ((taken : Int) = value j → ¬ staged → byteAt data (7 * j + 6) = 0) ∧
        ((taken : Int) ≠ value j → ¬ staged → byteAt data (7 * j + 6) = 1) ∧
        ((taken : Int) = value j → staged → byteAt data (7 * j + 6) = 2) ∧
        ((taken : Int) ≠ value j → staged → byteAt data (7 * j + 6) = 3)) ∧
      t.cdu = (List.range (k + 1)).foldl (fun c j => match SettingTarget.ofCode (code j) with
        | some g => (c.applyItem g (value j)).1
        | none => c) s.cdu ∧
      (t.own .openDelay = s.own .openDelay → t.own .closeDelay = s.own .closeDelay →
        t = { s with lnk.inbound := rest, cdu := t.cdu }) ∧
      (t.own .openDelay ≠ s.own .openDelay ∨ t.own .closeDelay ≠ s.own .closeDelay →
        1000000 * t.vdr.leadOpen < t.own .openDelay * s.bpu.speed + 1000000 ∧
        t.own .openDelay * s.bpu.speed ≤ 1000000 * t.vdr.leadOpen ∧
        t.own .closeDelay * s.bpu.speed < 1000000 * t.vdr.leadClose + 1000000 ∧
        1000000 * t.vdr.leadClose ≤ t.own .closeDelay * s.bpu.speed ∧
        t.steady = { s.steady with
          inbound := rest, cdu := t.cdu, leadOpen := t.vdr.leadOpen, leadClose := t.vdr.leadClose } ∧
        t = State.judgeAll (.ordinary (s.bpu.pos + s.vdr.leadOpen)) { s with
          lnk.inbound := rest, cdu := t.cdu
          vdr := { s.vdr with leadOpen := t.vdr.leadOpen, leadClose := t.vdr.leadClose } } ∧
        t.judged))) ∧
  ∀ (s : State) (f : Frame) (rest : List Frame), f.body = [] →
    (s.asked 0x05 f rest → exec .hold s = .next (State.answered { s with cdu.hold := true } f rest .ok [])) ∧
    (s.asked 0x06 f rest →
      (s.cdu.hold = false → exec .release s = .next (s.answered f rest .ok [])) ∧
      (s.cdu.hold = true → ∃ c : Cdu,
        exec .release s = .next (State.answered { s with cdu := c } f rest .ok []) ∧
        c.own = s.cdu.own ∧ c.hold = false ∧
        ∀ i, c.staged.get i = none ∧ c.line.get i = (s.cdu.staged.get i).getD (s.cdu.line.get i)))

/-- No command reaches state that is another's: the queue of commands; the belt position but by a forward tick that
pays no debt; the speed but by the speed update; the settings but by SET, HOLD and RELEASE; baselines and reference
levels but by the tracker and BASELINE_WRITE; piece numbers but by the segmenter; the generation but by a commit; fault
flags and DISABLED valves but by CLEAR and VALVE_SET; each also by a reset, where its reset table says so; and the link
rate and the baseline-valid flag but by a hard reset (R7, R9, R10, R34, R43, R57, R60, R115, R151, R167, R174, R182).
-/
def Obligations.StateHasItsOwners : Prop :=
  ∀ (c : Instr) (s t : State), exec c s = .next t →
    t.pending = s.pending ∧
    (t.bpu.pos ≠ s.bpu.pos → (isReset c = true ∧ t.bpu.pos = 0) ∨
      ∃ a b, c = .encoderTransition a b ∧ ticksForward (s.own .encPolarity) (s.bpu.refA, s.bpu.refB) (a, b) ∧
        s.bpu.debt = 0 ∧ s.bpu.pos < 281474976710655 ∧ t.bpu.pos = s.bpu.pos + 1) ∧
    (t.bpu.speed ≠ s.bpu.speed → c = .speedUpdate ∨ isReset c = true) ∧
    (t.cdu ≠ s.cdu → c = .set ∨ c = .hold ∨ c = .release ∨ isReset c = true) ∧
    (t.blt.baseline ≠ s.blt.baseline → c = .bltTakeLine ∨ c = .baselineWrite ∨ isHardReset c = true) ∧
    (t.blt.refLevel ≠ s.blt.refLevel → c = .bltTakeLine ∨ isHardReset c = true) ∧
    (s.blt.valid = true → t.blt.valid = false → isHardReset c = true) ∧
    (t.seg.nextNumber ≠ s.seg.nextNumber → c = .segTakeLine ∨ isReset c = true) ∧
    (t.rcs.generation ≠ s.rcs.generation → c = .recipeCommit ∨ isHardReset c = true) ∧
    (∀ k, s.eng.flags.has k = true → t.eng.flags.has k = false → c = .clear ∨ isReset c = true) ∧
    (∀ l r, (s.valve l r).state = .disabled → (t.valve l r).state ≠ .disabled →
      c = .valveEnable ∨ isHardReset c = true) ∧
    (t.lnk.rate ≠ s.lnk.rate → isHardReset c = true)

/-! ### The link -/

/-- The receivers and the transmitter. A character that begins a frame takes each receiver out of waiting, on the line
controller link with a frame in progress aborted and counted first, while on the sensor bar link and the valve bus a
frame start inside a frame changes nothing (log entry 5). A frame that holds its stated length and its CRC is good and
joins the inbound queue or is an overrun, whatever characters follow it; another CRC, a length above 1024, a framing
error or a gap end it with their counts (R17, R159, R183, R184, R185, R186). The oldest reply, else the oldest notice,
is sent as one frame; the transmitter is free once it has gone out (R187, R193). A notice's frame has its kind, C1 to
C7, tag 0, its body's length, its body and the CRC over them (section 10.7). The marks resetReply, that the frame sent
is the OK reply to RESET, and resetReplySent, that it has gone out while the reset is pending, are the model's own for
R180's "when that reply has been sent on the line in full" (log entry 22). -/
def Obligations.FramesPassTheLink : Prop :=
  ∀ s : State,
    exec .sensorFrameStart s = .next { s with sli.inFrame := true } ∧
    exec .returnFrameStart s = .next { s with vdr.inFrame := true } ∧
    exec .linkFrameStart s = .next (
      if s.lnk.inFrame then State.count .gapAborts 1 s else { s with lnk.inFrame := true }) ∧
    (s.lnk.inFrame = true →
      let hunt : State := { s with lnk.inFrame := false }
      exec .linkFramingError s = .next (hunt.count .framingErrors 1) ∧
      exec .gapAbort s = .next (hunt.count .gapAborts 1) ∧
      ∀ (bytes : List Byte) (n : Nat), 4 ≤ bytes.length → n = field bytes 2 2 →
        (1024 < n → exec (.linkFrameEnd bytes) s = .next (hunt.count .framingErrors 1)) ∧
        (n ≤ 1024 → n + 6 ≤ bytes.length →
          let holds := field bytes (n + 4) 2 = (crc16 (bytes.take (n + 4))).toNat
          (¬ holds → exec (.linkFrameEnd bytes) s = .next (hunt.count .checkErrors 1)) ∧
          (holds → s.lnk.inbound.length < 4 → ∃ f : Frame,
            exec (.linkFrameEnd bytes) s = .next (State.count .framesGood 1
              { hunt with lnk.inbound := s.lnk.inbound ++ [f] }) ∧
            f.kind.toNat = byteAt bytes 0 ∧ f.tag.toNat = byteAt bytes 1 ∧ f.body.length = n ∧
            ∀ j < n, byteAt f.body j = byteAt bytes (4 + j)) ∧
          (holds → 4 ≤ s.lnk.inbound.length →
            exec (.linkFrameEnd bytes) s = .next ((hunt.count .framesGood 1).count .overruns 1)))) ∧
    (s.lnk.sending = none → s.eng.resetReplySent = false →
      (∀ r rest, s.lnk.replies = r :: rest → ∃ bytes : List Byte, exec .transmitFrame s = .next { s with
          lnk.replies := rest
          lnk.sending := some { bytes := bytes, resetReply := decide (r.kind.toNat = 0x0B ∧ r.status = .ok) } } ∧
        (r.data.length < 1022 → bytes.length = r.data.length + 8 ∧ byteAt bytes 0 = 0x80 ∧
          byteAt bytes 1 = r.tag.toNat ∧ field bytes 2 2 = r.data.length + 2 ∧ byteAt bytes 4 = r.kind.toNat ∧
          byteAt bytes 5 = r.status.code ∧ (bytes.drop 6).take r.data.length = r.data ∧
          field bytes (r.data.length + 6) 2 = (crc16 (bytes.take (r.data.length + 6))).toNat)) ∧
      (∀ n rest, s.lnk.replies = [] → s.lnk.notices = n :: rest → ∃ bytes : List Byte,
        exec .transmitFrame s = .next { s with
          lnk.notices := rest, lnk.sending := some { bytes := bytes, resetReply := false } } ∧
        bytes.length = n.body.length + 6 ∧
        byteAt bytes 0 = (match n with
          | .piece _ _ _ _ => 0xC1
          | .fines _ => 0xC2
          | .engine _ _ _ _ _ _ => 0xC3
          | .fault _ _ _ _ => 0xC4
          | .surveyEnd _ _ => 0xC5
          | .load _ _ _ _ _ => 0xC6
          | .captureEnd _ _ _ _ _ _ => 0xC7) ∧
        byteAt bytes 1 = 0 ∧ field bytes 2 2 = n.body.length ∧ (bytes.drop 4).take n.body.length = n.body ∧
        field bytes (n.body.length + 4) 2 = (crc16 (bytes.take (n.body.length + 4))).toNat)) ∧
    ∀ g, s.lnk.sending = some g → exec .linkFrameSent s = .next { s with
      lnk.sending := none
      eng.resetReplySent := s.eng.resetReplySent || (g.resetReply && s.eng.resetPending) }

/-- Every request: it is taken when its frame is the oldest and the link unit may take it, leaves the queue and has one
reply of its tag and kind; a body length its layout does not allow is answered BAD_LENGTH before anything else; a
refused request changes nothing else; and while it may not be taken nothing changes. A kind that is no request kind is
answered UNKNOWN_KIND (R187). The body lengths are those of section 10.8.5. That a request row changes nothing where
the oldest frame is of another kind, or is the frame of the row that shares its kind, is the model's choice (log
entries 1, 3 and 18). -/
def Obligations.EveryRequestIsAnsweredOnce : Prop :=
  (∀ (c : Instr) (s : State) (kind : Nat) (mine : List Byte → Bool), requestOf c = some (kind, mine) →
    (∀ (f : Frame) (rest : List Frame), s.asked kind f rest → mine f.body = true →
      ∃ (t : State) (st : Status) (data : List Byte), exec c s = .next t ∧ t.lnk.inbound = rest ∧
        t.lnk.replies = s.lnk.replies ++ [{ tag := f.tag, kind := f.kind, status := st, data := data }] ∧
        (st ≠ .ok → t = s.answered f rest st data) ∧
        (bodyFits kind f.body.length = false → st = .badLength ∧ data = []) ∧
        (bodyFits kind f.body.length = true → st ≠ .badLength)) ∧
    ((∀ (f : Frame) (rest : List Frame), s.asked kind f rest → mine f.body = false) → exec c s = .next s)) ∧
  (∀ n : Nat, (∀ k ∈ [0x01, 0x02, 0x05, 0x06, 0x07, 0x09, 0x0A, 0x0B, 0x0D, 0x0E, 0x11, 0x15, 0x16, 0x1A, 0x1C],
      bodyFits k n = true ↔ n = 0) ∧
    (∀ k ∈ [(0x08, 1), (0x0C, 2), (0x0F, 3), (0x14, 10), (0x17, 1), (0x18, 3), (0x19, 6), (0x1B, 5), (0x1D, 2), (0x1E, 2)],
      bodyFits k.1 n = true ↔ n = k.2) ∧
    (bodyFits 0x03 n = true ↔ ∃ k, 1 ≤ k ∧ k ≤ 32 ∧ n = 6 * k) ∧
    (bodyFits 0x04 n = true ↔ ∃ k, 1 ≤ k ∧ k ≤ 32 ∧ n = 2 * k) ∧
    (bodyFits 0x10 n = true ↔ ∃ m, m ≤ 96 ∧ n = 3 + 4 * m) ∧
    (bodyFits 0x12 n = true ↔ ∃ m, 1 ≤ m ∧ n = 1 + 10 * m) ∧
    (bodyFits 0x13 n = true ↔ ∃ m, 1 ≤ m ∧ n = 7 * m)) ∧
  ∀ (s : State) (f : Frame) (rest : List Frame) (k : Nat), s.asked k f rest → (k = 0 ∨ 0x1E < k) →
    exec .unknownKind s = .next (s.answered f rest .unknownKind [])

/-- The requests that only read: HELLO, STATUS, GET, SURVEY_RESULT, BASELINE_READ, RECIPE_INFO, LANE_READ, VALVE_STATE,
CAPTURE_READ and STATS_READ without the clear mark answer from the state of the moment and change nothing (R37, R53,
R55, R119, R145, R162, R190, R191, R192, R204, R206). RECIPE_INFO gives sixteen bytes for each bank: its state and
pins, the generation, label, count, root and UNRESOLVED destination of an ACTIVE or RETIRING one, the numbers of
records and classes written of a LOADING one, and zeros elsewhere. The codes of the status values, the states and the
entry rows, and the counts of each statistics group in their order, are those of R187, sections 10.8.3 and 10.8.5 and
section 11.3. Which of the two STATS_READ rows takes which frame is log entry 18. -/
def Obligations.ReadsAnswerAndChangeNothing : Prop :=
  (∀ b : Bank,
    let data := b.info
    let recipe := b.state = .active ∨ b.state = .retiring
    data.length = 16 ∧ field data 1 2 = b.pins % 65536 ∧
    byteAt data 0 = (match b.state with | .empty => 0 | .loading => 1 | .active => 2 | .retiring => 3) ∧
    (recipe → field data 3 2 = b.gen.toNat ∧ field data 5 4 = b.label % 256 ^ 4 ∧ field data 9 2 = b.count % 65536 ∧
      byteAt data 11 = b.root % 256 ∧
      byteAt data 12 = (match b.unresolved with | .up => 0 | .down => 1 | .pass => 2)) ∧
    (¬ recipe → ∀ j, 3 ≤ j → j < 13 → byteAt data j = 0) ∧
    (b.state = .loading →
      field data 13 2 = ((List.finRange 256).filter fun i => (look b.records i).isSome).length ∧
      byteAt data 15 = ((List.finRange 16).filter fun c => (look b.classes c).isSome).length) ∧
    (b.state ≠ .loading → field data 13 2 = 0 ∧ byteAt data 15 = 0)) ∧
  ([Status.ok, .badLength, .badId, .range, .state, .busy, .notReady, .duplicate, .bankBusy, .incomplete, .badTarget,
      .check, .unknownKind].map Status.code = List.range 13 ∧
    [CapState.idle, .ringing, .post, .full].map CapState.code = [0, 1, 2, 3] ∧
    [ValveState.closed, .opened, .recover, .disabled, .faulted].map ValveState.code = [0, 1, 2, 3, 4] ∧
    [Served.none, .entry, .pulse].map Served.code = [0, 1, 2] ∧ [EntryRow.up, .down, .guard].map EntryRow.code = [0, 1, 2] ∧
    [Air.present, .lost].map airCode = [0, 1] ∧ [Coil.ok, .fault].map coilCode = [0, 1]) ∧
  (∀ s : State, (∀ code ≠ 4, s.groupCounts code = (statsGroup code).map fun c => s.sta.get c) ∧
    s.groupCounts 4 = (List.finRange 48).flatMap fun l => [Row.up, Row.down].map fun r => (s.valve l r).actuations) ∧
  ∀ (s : State) (f : Frame) (rest : List Frame),
    let ok := fun data : List Byte => (.next (s.answered f rest .ok data) : Host.Outcome State Fault Refusal)
    let no := fun st : Status => (.next (s.answered f rest st []) : Host.Outcome State Fault Refusal)
    (s.asked 0x01 f rest → f.body = [] → exec .hello s = ok (toBytes 2 0x4D31 ++ toBytes 2 0xB2CE ++ toBytes 1 1 ++
      toBytes 1 s.lnk.rate.val ++ [256, 64, 16, 256, 48, 16, 256, 4, 4, 64, 56].flatMap (toBytes 2))) ∧
    (s.asked 0x02 f rest → f.body = [] → ∃ data : List Byte, exec .status s = ok data ∧ data.length = 28 ∧
      byteAt data 0 = s.eng.state.code ∧ byteAt data 1 = s.eng.flags.number ∧
      field data 2 6 = s.bpu.pos % 256 ^ 6 ∧ field data 8 2 = s.bpu.speed % 65536 ∧
      field data 10 2 = s.bpu.debt % 65536 ∧ byteAt data 12 = s.ldm.state.code ∧
      field data 13 2 = s.ldm.permille % 65536 ∧ byteAt data 15 = s.cls.queue.length % 256 ∧
      field data 16 2 = ((List.finRange 48).map fun l => (s.lane l).length).sum % 65536 ∧
      (∀ b, (s.bank b).state = .active → (s.bank (otherBank b)).state ≠ .active →
        byteAt data 18 = b.val ∧ field data 19 2 = (s.bank b).gen.toNat) ∧
      ((∀ b, (s.bank b).state ≠ .active) → byteAt data 18 = 255 ∧ field data 19 2 = s.rcs.generation.toNat) ∧
      byteAt data 21 = airCode s.vdr.air ∧ byteAt data 22 = s.blt.status.code ∧ byteAt data 23 = s.cap.state.code ∧
      byteAt data 24 = s.openCount % 256 ∧ field data 25 2 = s.occupied ∧
      byteAt data 27 = s.lnk.notices.length % 256) ∧
    (∀ k, s.asked 0x04 f rest → f.body.length = 2 * (k + 1) → k < 32 → ∃ data : List Byte,
      exec .get s = ok data ∧ data.length = 12 * (k + 1) ∧ ∀ j ≤ k,
        let code := field f.body (2 * j) 2
        let at_ := 12 * j
        field data at_ 2 = code ∧
        (SettingTarget.ofCode code = none ∨ SettingTarget.ofCode code = some .gainAll →
          byteAt data (at_ + 2) = 2 ∧ byteAt data (at_ + 3) = 0 ∧ field data (at_ + 4) 4 = 0 ∧
            field data (at_ + 8) 4 = 0) ∧
        (∀ i, SettingTarget.ofCode code = some (.own i) → byteAt data (at_ + 2) = 0 ∧ byteAt data (at_ + 3) = 0 ∧
          field data (at_ + 4) 4 = s.cdu.own.get i % 256 ^ 4 ∧ field data (at_ + 8) 4 = 0) ∧
        ∀ i, SettingTarget.ofCode code = some (.line i) → byteAt data (at_ + 2) = 0 ∧
          byteAt data (at_ + 3) = (if s.cdu.staged.get i = none then 0 else 1) ∧
          field data (at_ + 4) 4 = s.cdu.line.get i % 256 ^ 4 ∧
          field data (at_ + 8) 4 = ((s.cdu.staged.get i).getD 0) % 256 ^ 4) ∧
    (s.asked 0x0E f rest → f.body = [] →
      (∀ v, s.blt.status = .done → s.blt.results = some v → exec .surveyResult s = ok
        (toBytes 2 v.lines ++ v.refLevel.toList.flatMap (toBytes 2) ++ toBytes 1 v.firstCell ++
          toBytes 1 v.lastCell ++ v.recommended.toList.flatMap (toBytes 2) ++
          v.noise.toList.flatMap fun q => q.toList.flatMap (toBytes 2))) ∧
      (s.blt.status ≠ .done → exec .surveyResult s = no .notReady)) ∧
    (s.asked 0x0F f rest → f.body.length = 3 →
      let first := byteAt f.body 1
      let count := byteAt f.body 2
      (3 < byteAt f.body 0 ∨ 95 < first ∨ count = 0 ∨ 96 < count ∨ 96 < first + count →
        exec .baselineRead s = no .range) ∧
      ∀ k : Chan, k.index = byteAt f.body 0 → first ≤ 95 → 1 ≤ count → first + count ≤ 96 →
        exec .baselineRead s = ok (toBytes 1 (if s.blt.valid then 1 else 0) ++ toBytes 1 (s.own .blMode) ++
          toBytes 1 s.blt.status.code ++ toBytes 2 (s.blt.refLevel.get k) ++
          ((List.finRange 96).filter fun i => first ≤ i.val ∧ i.val < first + count).flatMap fun i =>
            toBytes 4 ((look s.blt.baseline i).get k) ++
              (match (look s.blt.settle i).get k with
                | .track => toBytes 1 0 ++ toBytes 1 0
                | .settle n => toBytes 1 1 ++ toBytes 1 n))) ∧
    (s.asked 0x16 f rest → f.body = [] →
      exec .recipeInfo s = ok (toBytes 2 s.rcs.generation.toNat ++ (s.bank 0).info ++ (s.bank 1).info)) ∧
    (s.asked 0x17 f rest → f.body.length = 1 →
      (47 < byteAt f.body 0 → exec .laneRead s = no .range) ∧
      ∀ l : Lane, l.val = byteAt f.body 0 → exec .laneRead s = ok
        (toBytes 1 l.val ++ toBytes 1 (s.lane l).length ++ (s.lane l).flatMap fun e =>
          toBytes 1 e.row.code ++ toBytes 6 e.start ++ toBytes 6 e.stop ++
            (match e.owner with
              | some o => toBytes 1 0 ++ toBytes 1 o.1.val ++ toBytes 4 o.2.toNat
              | none => toBytes 1 1 ++ toBytes 5 0) ++
            toBytes 1 e.prec ++ toBytes 1 (if e.active then 1 else 0) ++
            toBytes 1 ((if e.lateStart then 1 else 0) + (if e.sharedCut then 2 else 0) +
              (if e.trimmed then 4 else 0)))) ∧
    (s.asked 0x1A f rest → f.body = [] → exec .valveState s = ok
      (toBytes 1 (airCode s.vdr.air) ++ toBytes 2 s.bpu.speed ++ toBytes 2 s.vdr.leadOpen ++
        toBytes 2 s.vdr.leadClose ++ (List.finRange 48).flatMap fun l => [Row.up, Row.down].flatMap fun r =>
          toBytes 1 (s.valve l r).state.code ++ toBytes 1 (s.valve l r).served.code ++
            toBytes 1 (coilCode (s.valve l r).coil))) ∧
    (s.asked 0x1D f rest → f.body.length = 2 →
      (s.cap.state ≠ .full → exec .captureRead s = no .notReady) ∧
      (s.cap.state = .full → s.cap.ring.length ≤ field f.body 0 2 → exec .captureRead s = no .range) ∧
      ∀ g, s.cap.state = .full → s.cap.ring[field f.body 0 2]? = some g → exec .captureRead s = ok
        (toBytes 1 s.cap.mode.code ++ toBytes 2 s.cap.ring.length ++
          (match s.cap.piece with
            | some n => toBytes 1 0 ++ toBytes 4 n.toNat
            | none => toBytes 1 1 ++ toBytes 4 0) ++
          (toBytes 2 g.seq.toNat ++ toBytes 6 g.start ++
            toBytes 1 ((if g.missing then 1 else 0) + (if g.disturbed then 2 else 0)) ++
            g.samples.flatMap (intBytes 2)))) ∧
    (s.asked 0x1E f rest → f.body.length = 2 → byteAt f.body 1 ≠ 1 →
      let code := byteAt f.body 0
      (5 < code ∨ 1 < byteAt f.body 1 → exec .statsRead s = no .range) ∧
      (code ≤ 5 → byteAt f.body 1 = 0 → exec .statsRead s = ok
        (toBytes 1 code ++ (s.groupCounts code).flatMap (toBytes 4))))

/-- A notice offered: LOAD and FINES are suppressed under their weights; a PIECE notice is suppressed under its weight,
lost with 56 places held, and else placed, short from THIN_LEVEL on, with the pending lost count, which then is 0;
every other is placed while the queue holds fewer than 64 and else lost (R194, R195). The frame of a PIECE notice: 13
bytes of body in the short form and 88 in the full, with the fields of section 10.8.2 at their places, a part marked
absent as zeros. The bodies of the six other notices, field by field, and their codes (section 10.8.6); the lines and
the extents of a FINES notice are each given where the record has them (R79). That the extents mark means first line,
last line and extents together is log entry 17; the 0 of an absent trigger piece in CAPTURE_END log entry 26. -/
def Obligations.NoticesAreJudgedAndLaidOut : Prop :=
  (∀ s : State,
    let masked := fun w : Nat => s.own .noticeMask / w % 2 = 1
    let held := s.lnk.notices.length
    (∀ n : Notice, n.isPiece = false →
      let off := match n with
        | .load _ _ _ _ _ => masked 2
        | .fines _ => masked 4
        | _ => False
      (off → s.offer n = s.count .suppressed 1) ∧
      (¬ off → held < 64 → s.offer n = { s with lnk.notices := s.lnk.notices ++ [n] }) ∧
      (¬ off → 64 ≤ held → s.offer n = s.count .noticesLost 1)) ∧
    ∀ (p : Piece) (o : PieceOutcome),
      (masked 1 → s.offerPiece p o = s.count .suppressed 1) ∧
      (¬ masked 1 → 56 ≤ held → s.offerPiece p o = State.count .piecesLost 1
        { s with lnk.pendingLost := min 65535 (s.lnk.pendingLost + 1) }) ∧
      (¬ masked 1 → held < 56 → s.offerPiece p o = { s with
        lnk.notices := s.lnk.notices ++ [.piece (decide (held < s.own .thinLevel)) p o s.lnk.pendingLost]
        lnk.pendingLost := 0 })) ∧
  (∀ (full : Bool) (p : Piece) (o : PieceOutcome) (lost : Nat), lost ≤ 65535 →
    let b := (Notice.piece full p o lost).body
    b.length = (if full then 88 else 13) ∧ byteAt b 0 = (if full then 1 else 0) ∧ field b 1 4 = p.number.toNat ∧
    byteAt b 7 = o.code ∧ field b 8 2 = p.flags.number ∧ field b 11 2 = lost ∧
    let whole := p.first ≠ none ∧ p.last ≠ none ∧ p.extent ≠ none
    byteAt b 10 = (if ∃ c, p.classed = some c ∧ c.chainFault = true then 1 else 0) +
      (if p.classed = none then 0 else 2) + (if whole then 4 else 0) ∧
    (p.classed = none → byteAt b 5 = 255 ∧ byteAt b 6 = 255) ∧
    (∀ c, p.classed = some c → byteAt b 5 = c.cls.code ∧ byteAt b 6 = c.dest.code) ∧
    (full = true →
      field b 13 2 = p.gen.toNat ∧ field b 29 4 = p.area % 256 ^ 4 ∧ field b 62 2 = p.absorbed % 65536 ∧
      (∀ f l x, p.first = some f → p.last = some l → p.extent = some x →
        field b 15 6 = f.2 % 256 ^ 6 ∧ field b 21 6 = l.2 % 256 ^ 6 ∧ byteAt b 27 = x.left % 256 ∧
        byteAt b 28 = x.right % 256) ∧
      (¬ whole → ∀ j, 15 ≤ j → j < 29 → byteAt b j = 0) ∧
      (p.classed = none → ∀ j, (33 ≤ j ∧ j < 62) ∨ (64 ≤ j ∧ j < 88) → byteAt b j = 0) ∧
      ∀ c, p.classed = some c → byteAt b 61 = c.steps % 256 ∧
        (∀ i : Fin 16, i.val < 12 → (field b (33 + 2 * i.val) 2 : Int) = look c.features i % 65536) ∧
        (field b 57 2 : Int) = look c.features 13 % 65536 ∧ (field b 59 2 : Int) = look c.features 14 % 65536 ∧
        field b 64 2 = min 65535 p.tallies.planned ∧ field b 66 2 = min 65535 p.tallies.fired ∧
        field b 68 2 = min 65535 p.tallies.firedLate ∧ field b 70 2 = min 65535 p.tallies.truncated ∧
        field b 72 2 = min 65535 p.tallies.guardHeld ∧ field b 74 2 = min 65535 p.tallies.trimmed ∧
        field b 76 2 = min 65535 p.tallies.shared ∧ field b 78 2 = min 65535 p.tallies.dropUnavailable ∧
        field b 80 2 = min 65535 p.tallies.dropFull ∧ field b 82 2 = min 65535 p.tallies.dropLate ∧
        field b 84 2 = min 65535 p.tallies.dropRecoverMiss ∧ field b 86 2 = min 65535 p.tallies.dropAirLost)) ∧
  (∀ p : Piece,
    let b := (Notice.fines p).body
    b.length = 37 ∧ field b 0 4 = p.number.toNat ∧ field b 4 2 = p.gen.toNat ∧
    byteAt b 6 = (if p.first ≠ none ∧ p.last ≠ none ∧ p.extent ≠ none then 4 else 0) ∧
    (∀ f, p.first = some f → field b 7 2 = f.1.toNat ∧ field b 9 6 = f.2 % 256 ^ 6) ∧
    (p.first = none → field b 7 2 = 0 ∧ field b 9 6 = 0) ∧
    (∀ l, p.last = some l → field b 15 2 = l.1.toNat ∧ field b 17 6 = l.2 % 256 ^ 6) ∧
    (p.last = none → field b 15 2 = 0 ∧ field b 17 6 = 0) ∧
    (∀ f l, p.first = some f → p.last = some l → field b 23 2 = ((l.1 - f.1).toNat + 1) % 65536) ∧
    (p.first = none ∨ p.last = none → field b 23 2 = 0) ∧ field b 25 2 = p.contributed % 65536 ∧
    (∀ x, p.extent = some x → byteAt b 27 = x.left % 256 ∧ byteAt b 28 = x.right % 256) ∧
    (p.extent = none → byteAt b 27 = 0 ∧ byteAt b 28 = 0) ∧ field b 29 4 = p.area % 256 ^ 4 ∧
    field b 33 2 = p.absorbed % 65536 ∧ field b 35 2 = p.flags.number) ∧
  (∀ (old new : EngState) (cause : EngCause) (flags : FaultFlags) (pos : Nat) (kind : ResetKind),
    let b := (Notice.engine old new cause flags pos kind).body
    b.length = 11 ∧ byteAt b 0 = old.code ∧ byteAt b 1 = new.code ∧ byteAt b 2 = cause.code ∧
    byteAt b 3 = flags.number ∧ field b 4 6 = pos % 256 ^ 6 ∧ byteAt b 10 = kind.code) ∧
  (∀ (k : FaultReport) (eng : EngState) (flags : FaultFlags) (pos : Nat),
    let b := (Notice.fault k eng flags pos).body
    b.length = 9 ∧ byteAt b 0 = k.code ∧ byteAt b 1 = eng.code ∧ byteAt b 2 = flags.number ∧
    field b 3 6 = pos % 256 ^ 6) ∧
  (∀ (st : SurveyStatus) (good : Nat),
    let b := (Notice.surveyEnd st good).body
    b.length = 3 ∧ byteAt b 0 = st.code ∧ field b 1 2 = good % 65536) ∧
  (∀ (old new : LoadState) (permille merges : Nat) (seq : SeqNo),
    let b := (Notice.load old new permille merges seq).body
    b.length = 8 ∧ byteAt b 0 = old.code ∧ byteAt b 1 = new.code ∧ field b 2 2 = permille % 65536 ∧
    field b 4 2 = merges % 65536 ∧ field b 6 2 = seq.toNat) ∧
  (∀ (mode : CapMode) (trigger : CapTrigger) (records : Nat) (oldest newest : SeqNo) (piece : Option PieceNo),
    let b := (Notice.captureEnd mode trigger records oldest newest piece).body
    b.length = 14 ∧ byteAt b 0 = mode.code ∧ byteAt b 1 = trigger.code ∧
    byteAt b 2 = (match trigger with | .now => 0 | .onClass c => c.code) ∧ field b 3 2 = records % 65536 ∧
    field b 5 2 = oldest.toNat ∧ field b 7 2 = newest.toNat ∧
    (∀ n, piece = some n → byteAt b 9 = 0 ∧ field b 10 4 = n.toNat) ∧
    (piece = none → byteAt b 9 = 1 ∧ field b 10 4 = 0)) ∧
  [EngState.idle, .survey, .sorting, .draining, .halted].map EngState.code = [0, 1, 2, 3, 4] ∧
  [EngCause.sortStart, .stopDrain, .stopAbandon, .drained, .flush, .clear, .surveyStart, .surveyEnd, .sensorLost,
    .beltReversed, .positionExhausted, .reset].map EngCause.code = List.range 12 ∧
  [FaultReport.raised .sensorLost, .raised .beltReversed, .raised .positionExhausted, .raised .airLost,
    .raised .valveFault, .airRestored].map FaultReport.code = List.range 6 ∧
  [ResetKind.none, .hard, .soft].map ResetKind.code = [0, 1, 2] ∧
  [SurveyStatus.none, .running, .done, .spoiled, .aborted].map SurveyStatus.code = [0, 1, 2, 3, 4] ∧
  [LoadState.empty, .normal, .dense].map LoadState.code = [0, 1, 2] ∧ CapMode.raw.code = 0 ∧ CapMode.cond.code = 1 ∧
  CapTrigger.now.code = 0 ∧ (∀ c, (CapTrigger.onClass c).code = 1) ∧
  (∀ c, (PieceClass.cls c).code = c.val) ∧ PieceClass.unresolved.code = 16 ∧ PieceClass.overflow.code = 17 ∧
  [PieceOutcome.notEjected, .complete, .shortfall, .partialOutcome, .flushed, .abandoned].map PieceOutcome.code =
    [0, 1, 2, 3, 4, 5] ∧
  [Dest.up, .down, .pass].map Dest.code = [0, 1, 2] ∧
  (∀ g : FaultFlags, g.number = (if g.sensorLost then 1 else 0) + (if g.beltReversed then 2 else 0) +
    (if g.positionExhausted then 4 else 0) + (if g.airLost then 8 else 0) + (if g.valveFault then 16 else 0)) ∧
  ∀ g : PieceFlags, g.number = (if g.edge then 1 else 0) + (if g.disturbed then 2 else 0) +
    (if g.gapfill then 4 else 0) + (if g.merged then 8 else 0) + (if g.long then 16 else 0) +
    (if g.continued then 32 else 0) + (if g.clipped then 64 else 0) + (if g.limited then 128 else 0) +
    (if g.queueFull then 256 else 0)

/-! ### Load monitor, capture, statistics -/

/-- LDM_TAKE_LINE adds the line to the block; at the 256th the permille is formed, the load state judged by the table of
R199, the tallies return to 0, and a change is offered as a LOAD notice (R198, R199). -/
def Obligations.LoadIsMonitored : Prop :=
  ∀ (s : State) (ln : Line) (rest : List Line), s.ldmLines = ln :: rest →
    let d : Ldm := { s.ldm with
      lines := s.ldm.lines + 1
      occupied := s.ldm.occupied + ((List.finRange 96).filter fun i => look ln.marks i = .occupied).length
      width := s.ldm.width + min (ln.snap.get .winWidth) (96 - ln.snap.get .winStart) }
    (d.lines < 256 → exec .ldmTakeLine s = .next { s with ldmLines := rest, ldm := d }) ∧
    (256 ≤ d.lines →
      let pm := d.occupied * 1000 / d.width
      let lo := s.own .loadEmpty
      let back := s.own .loadEmpty + s.own .loadHyst
      let hi := s.own .loadDense
      let below := (s.own .loadDense : Int) - s.own .loadHyst
      ∃ st : LoadState,
        let u : State := { s with
          ldmLines := rest
          ldm := { state := st, lines := 0, occupied := 0, width := 0, merges := 0, permille := pm } }
        exec .ldmTakeLine s = .next (
          if st = s.ldm.state then u else u.offer (.load s.ldm.state st pm s.ldm.merges ln.seq)) ∧
        (s.ldm.state = .empty → (hi < pm → back ≤ pm → st = .dense) ∧ (pm ≤ hi → back ≤ pm → st = .normal) ∧
          (pm < back → st = .empty)) ∧
        (s.ldm.state = .normal → (pm < lo → st = .empty) ∧ (lo ≤ pm → hi < pm → st = .dense) ∧
          (lo ≤ pm → pm ≤ hi → st = .normal)) ∧
        (s.ldm.state = .dense → (pm < lo → st = .empty) ∧ (lo ≤ pm → (pm : Int) ≤ below → st = .normal) ∧
          (lo ≤ pm → below < pm → st = .dense)))

/-- CAP_TAKE_LINE records the line in RINGING and POST, a full ring losing its oldest record, and completes the capture
with the last of the post count. CAPTURE_ARM is refused with BUSY, then RANGE, or empties the ring and arms;
CAPTURE_CANCEL empties the ring and makes the capture IDLE (R201 to R204). Which of the two CAPTURE_ARM rows takes which
frame is log entry 18; that a cancel leaves mode, trigger and post count as they stood, log entry 27. -/
def Obligations.LinesAreCaptured : Prop :=
  (∀ (s : State) (ln : Line) (rest : List Line), s.capLines = ln :: rest → ∃ g : LineRecord,
    g.seq = ln.seq ∧ g.start = ln.start ∧ g.missing = ln.samples.isNone ∧ g.disturbed = ln.disturbed ∧
    (ln.samples = none → g.samples = List.replicate 448 0) ∧
    (∀ sm, ln.samples = some sm → g.samples.length = 448 ∧
      (∀ (i : Fin 16) (k : Chan), g.samples[4 * (if i.val < 8 then i.val else 96 + i.val) + k.index]? =
        some ((look sm.refs i).get k : Int)) ∧
      ∀ (i : Fin 96) (k : Chan), g.samples[4 * (8 + i.val) + k.index]? =
        some (match s.cap.mode with
          | .raw => ((look sm.cells i).raw.get k : Int)
          | .cond => (look sm.cells i).cond.get k)) ∧
    let ring := (if 256 ≤ s.cap.ring.length then s.cap.ring.drop 1 else s.cap.ring) ++ [g]
    let u : State := { s with capLines := rest }
    (s.cap.state = .idle ∨ s.cap.state = .full → exec .capTakeLine s = .next u) ∧
    (s.cap.state = .ringing → exec .capTakeLine s = .next { u with cap.ring := ring }) ∧
    (s.cap.state = .post → 1 < s.cap.post →
      exec .capTakeLine s = .next { u with cap.ring := ring, cap.post := s.cap.post - 1 }) ∧
    ∀ a, s.cap.state = .post → s.cap.post = 1 → ring.head? = some a → exec .capTakeLine s = .next (
      State.offer (.captureEnd s.cap.mode s.cap.trigger ring.length a.seq ln.seq s.cap.piece)
        { u with cap.ring := ring, cap.post := 0, cap.state := .full })) ∧
  ∀ (s : State) (f : Frame) (rest : List Frame),
    (s.asked 0x1B f rest → f.body.length = 5 →
      let mode := byteAt f.body 0
      let trigger := byteAt f.body 1
      let cls := byteAt f.body 2
      let count := field f.body 3 2
      let runs := s.cap.state = .ringing ∨ s.cap.state = .post
      let bad := 1 < mode ∨ 1 < trigger ∨ (trigger = 1 ∧ 16 < cls) ∨ 256 < count
      let armed : CapMode := if mode = 0 then .raw else .cond
      (trigger ≠ 1 →
        (runs → exec .captureArmNow s = .next (s.answered f rest .busy [])) ∧
        (¬ runs → bad → exec .captureArmNow s = .next (s.answered f rest .range [])) ∧
        (¬ runs → ¬ bad → exec .captureArmNow s = .next (State.answered { s with
          cap := { state := .post, mode := armed, trigger := .now, post := if count = 0 then 256 else count,
                   ring := [], piece := none } } f rest .ok []))) ∧
      (trigger ≠ 0 →
        (runs → exec .captureArmClass s = .next (s.answered f rest .busy [])) ∧
        (¬ runs → bad → exec .captureArmClass s = .next (s.answered f rest .range [])) ∧
        (¬ runs → ¬ bad → ∃ c : PieceClass, c.code = cls ∧ c ≠ .overflow ∧
          exec .captureArmClass s = .next (State.answered { s with
            cap := { state := .ringing, mode := armed, trigger := .onClass c, post := count, ring := [],
                     piece := none } } f rest .ok [])))) ∧
    (s.asked 0x1C f rest → f.body = [] → exec .captureCancel s = .next (State.answered { s with
      cap := { s.cap with ring := [], piece := none, state := .idle } } f rest .ok []))

/-- STATS_READ with the clear mark gives the counts of the group and sets them, and no other count, to 0; the VALVE
group is given and left (R206). Which of the two STATS_READ rows takes which frame is log entry 18. -/
def Obligations.StatisticsAreCleared : Prop :=
  ∀ (s : State) (f : Frame) (rest : List Frame), s.asked 0x1E f rest → f.body.length = 2 →
    byteAt f.body 1 ≠ 0 →
    let code := byteAt f.body 0
    let group := statsGroup code
    (5 < code ∨ 1 < byteAt f.body 1 → exec .statsReadClear s = .next (s.answered f rest .range [])) ∧
    (code ≤ 5 → byteAt f.body 1 = 1 → ∃ sta : Sta,
      exec .statsReadClear s = .next (State.answered { s with sta := sta } f rest .ok
        (toBytes 1 code ++ (if code = 4 then
            (List.finRange 48).flatMap fun l => [Row.up, Row.down].flatMap fun r => toBytes 4 (s.valve l r).actuations
          else group.flatMap fun c => toBytes 4 (s.sta.get c)))) ∧
      ∀ c, sta.get c = if c ∈ group then 0 else s.sta.get c)

/-! ### Resets and invariants -/

/-- SOFT_RESET, once the reply to RESET has gone out, and HARD_RESET: what each keeps and what it returns to its reset
value, with the ENGINE notice first and, where the air is read as lost, AIR_LOST after it (R16, R39, R57, R85, R107,
R120, R148, R167, R180, R181, R197, R200, R204, R207). The model's choices in it: the queue of commands that wait is
kept (log entry 1), the speed-update interval starts anew (2), capture mode RAW and trigger NOW, zero survey
accumulators and blank banks (4), the processed lines that wait are discarded (11), the counter of the free values is
kept (15), the lists of what went out start anew, the valve bus with the closed state of all 96 valves in lane order
(19), the mark of a RESET reply gone out lets the soft reset run and is cleared (22), the flags, the position and the
old state in the notice (24), and the post count 0 (27). -/
def Obligations.ResetsTakeEffect : Prop :=
  (∀ (s : State) (a b : Bool) (air : Air), s.eng.resetPending = true → s.eng.resetReplySent = true →
    ∃ t, exec (.softReset a b air) s = .next t ∧
      t.bpu = { State.reset.bpu with refA := a, refB := b, nextLine := s.cdu.line.get .lineTicks } ∧
      t.sli = { State.reset.sli with kept := s.cdu.line.disturbingValues } ∧
      t.cdu = { s.cdu with staged := StagedSet.empty, hold := false } ∧
      t.blt = { s.blt with settle := State.reset.blt.settle, status := .none, acc := SurveyAcc.zero,
                           results := none } ∧
      t.seg = State.reset.seg ∧ t.cls = State.reset.cls ∧ t.lsc = State.reset.lsc ∧ t.ldm = State.reset.ldm ∧
      t.cap = State.reset.cap ∧ t.rcs.generation = s.rcs.generation ∧
      (∀ i, t.bank i = if (s.bank i).state = .active then { s.bank i with pins := 0 } else Bank.blank) ∧
      t.vdr.air = air ∧ t.vdr.leadOpen = 0 ∧ t.vdr.leadClose = 0 ∧ t.vdr.inFrame = false ∧
      t.vdr.busWrites = ((List.finRange 48).flatMap fun l => [Row.up, Row.down].map fun r => ⟨l, r, false⟩) ∧
      (∀ l r, t.valve l r = { Valve.rest with
        state := if (s.valve l r).state = .disabled then .disabled else .closed
        actuations := (s.valve l r).actuations }) ∧
      t.eng = { state := .idle, flags := if air = .lost then { airLost := true } else {}, resetPending := false,
                resetReplySent := false } ∧
      t.lnk = { State.reset.lnk with
        rate := s.lnk.rate
        notices := [.engine s.eng.state .idle .reset {} 0 .soft] ++
          if air = .lost then [.fault (.raised .airLost) .idle { airLost := true } 0] else [] } ∧
      (∀ c, t.sta.get c = if c ∈ [Counter.framesGood, .checkErrors, .framingErrors, .gapAborts, .overruns,
        .noticesLost, .piecesLost, .suppressed] then s.sta.get c else 0) ∧
      t.bltLines = [] ∧ t.segLines = [] ∧ t.ldmLines = [] ∧ t.capLines = [] ∧
      t.sinceSpeed = 0 ∧ t.freeIndex = s.freeIndex ∧ t.pending = s.pending) ∧
  ∀ (s : State) (a b : Bool) (air : Air) (straps : Fin 4),
    exec (.hardReset a b air straps) s = .next { State.reset with
      bpu := { State.reset.bpu with refA := a, refB := b }
      vdr := { State.reset.vdr with air := air }
      eng := { State.reset.eng with flags := if air = .lost then { airLost := true } else {} }
      lnk := { State.reset.lnk with
        rate := straps
        notices := [.engine .idle .idle .reset {} 0 .hard] ++
          if air = .lost then [.fault (.raised .airLost) .idle { airLost := true } 0] else [] }
      freeIndex := s.freeIndex, pending := s.pending }

/-- Every step keeps the settings and staged values ones that can be taken, nothing staged without HOLD, and the belt
values and leads in their ranges (R4, R7 to R10, R34, R36, R149, R189). Every step keeps each queue, list and count
within its bound, and each walk within the walk limit (R18, R24, R66, R86, R98, R99, R186, R187, R194, R195, R202,
R205). -/
def Obligations.StateStaysInItsBounds : Prop :=
  (∀ s t : State, step s = .next t → s.settingsSound →
    t.settingsSound ∧ (s.beltSound → t.beltSound)) ∧
  ∀ s t : State, step s = .next t →
    (s.linkSound → t.linkSound) ∧ (s.listsSound → t.listsSound) ∧ (s.countsSound → t.countsSound) ∧
    ((∀ w, s.cls.walk = some w → walkSound w) → ∀ w, t.cls.walk = some w → walkSound w)

/-- The invariants hold at reset, and the machine at reset is at the values the reset tables give: IDLE with no flag,
position 0, speed 0, the next line at 8, empty lists and lanes, invalid baselines at 131072 and reference levels 8192,
piece numbers from 1, generation 0 with both banks EMPTY, every valve CLOSED and at rest, load state NORMAL, and the
settings at their defaults (R3, R16, R39, R57, R85, R120, R167, R200). -/
def Obligations.ResetStateIsSound : Prop :=
  let s := State.reset
  s.settingsSound ∧ s.beltSound ∧ s.linkSound ∧ s.listsSound ∧ s.countsSound ∧ s.recipesSound ∧ s.lanesSound ∧
    s.valvesSound ∧ s.activitySound ∧ s.engineSound ∧ (∀ w, s.cls.walk = some w → walkSound w) ∧
  s.eng.state = .idle ∧ (∀ k, s.eng.flags.has k = false) ∧ s.bpu.pos = 0 ∧ s.bpu.speed = 0 ∧ s.bpu.debt = 0 ∧
    s.bpu.nextLine = 8 ∧ s.bpu.seq = 0 ∧ s.blt.valid = false ∧
    (∀ i k, (look s.blt.baseline i).get k = 131072 ∧ (look s.blt.settle i).get k = .track) ∧
    (∀ k, s.blt.refLevel.get k = 8192) ∧ (∀ i, s.piece i = none) ∧ s.seg.nextNumber = 1 ∧
    s.rcs.generation = 0 ∧ (∀ b, (s.bank b).state = .empty) ∧ (∀ l, s.lane l = []) ∧
    (∀ l r, s.valve l r = Valve.rest) ∧ s.ldm.state = .normal ∧ s.cap.state = .idle ∧ s.pending = [] ∧
    (∀ i, s.cdu.line.get i = i.default) ∧ ∀ i, s.cdu.own.get i = i.default
end

