-- ==== Sys2Proof/Laws/State.lean ====
section
/-! SUPPORT. What each record update of the shared operations leaves and what it sets, one lemma per field, true by
unfolding. -/
namespace Sys2Proof.Machine

@[simp] theorem State.count_bpu (s : State) (c : Counter) (n : Nat) : (s.count c n).bpu = s.bpu := rfl
@[simp] theorem State.count_sli (s : State) (c : Counter) (n : Nat) : (s.count c n).sli = s.sli := rfl
@[simp] theorem State.count_cdu (s : State) (c : Counter) (n : Nat) : (s.count c n).cdu = s.cdu := rfl
@[simp] theorem State.count_blt (s : State) (c : Counter) (n : Nat) : (s.count c n).blt = s.blt := rfl
@[simp] theorem State.count_seg (s : State) (c : Counter) (n : Nat) : (s.count c n).seg = s.seg := rfl
@[simp] theorem State.count_cls (s : State) (c : Counter) (n : Nat) : (s.count c n).cls = s.cls := rfl
@[simp] theorem State.count_rcs (s : State) (c : Counter) (n : Nat) : (s.count c n).rcs = s.rcs := rfl
@[simp] theorem State.count_lsc (s : State) (c : Counter) (n : Nat) : (s.count c n).lsc = s.lsc := rfl
@[simp] theorem State.count_vdr (s : State) (c : Counter) (n : Nat) : (s.count c n).vdr = s.vdr := rfl
@[simp] theorem State.count_eng (s : State) (c : Counter) (n : Nat) : (s.count c n).eng = s.eng := rfl
@[simp] theorem State.count_lnk (s : State) (c : Counter) (n : Nat) : (s.count c n).lnk = s.lnk := rfl
@[simp] theorem State.count_ldm (s : State) (c : Counter) (n : Nat) : (s.count c n).ldm = s.ldm := rfl
@[simp] theorem State.count_cap (s : State) (c : Counter) (n : Nat) : (s.count c n).cap = s.cap := rfl
@[simp] theorem State.count_bltLines (s : State) (c : Counter) (n : Nat) : (s.count c n).bltLines = s.bltLines := rfl
@[simp] theorem State.count_segLines (s : State) (c : Counter) (n : Nat) : (s.count c n).segLines = s.segLines := rfl
@[simp] theorem State.count_ldmLines (s : State) (c : Counter) (n : Nat) : (s.count c n).ldmLines = s.ldmLines := rfl
@[simp] theorem State.count_capLines (s : State) (c : Counter) (n : Nat) : (s.count c n).capLines = s.capLines := rfl
@[simp] theorem State.count_sinceSpeed (s : State) (c : Counter) (n : Nat) : (s.count c n).sinceSpeed = s.sinceSpeed := rfl
@[simp] theorem State.count_freeIndex (s : State) (c : Counter) (n : Nat) : (s.count c n).freeIndex = s.freeIndex := rfl
@[simp] theorem State.count_pending (s : State) (c : Counter) (n : Nat) : (s.count c n).pending = s.pending := rfl

@[simp] theorem State.setSlot_bpu (s : State) (i : Slot) (p : Option Piece) : (s.setSlot i p).bpu = s.bpu := rfl
@[simp] theorem State.setSlot_sli (s : State) (i : Slot) (p : Option Piece) : (s.setSlot i p).sli = s.sli := rfl
@[simp] theorem State.setSlot_cdu (s : State) (i : Slot) (p : Option Piece) : (s.setSlot i p).cdu = s.cdu := rfl
@[simp] theorem State.setSlot_blt (s : State) (i : Slot) (p : Option Piece) : (s.setSlot i p).blt = s.blt := rfl
@[simp] theorem State.setSlot_cls (s : State) (i : Slot) (p : Option Piece) : (s.setSlot i p).cls = s.cls := rfl
@[simp] theorem State.setSlot_rcs (s : State) (i : Slot) (p : Option Piece) : (s.setSlot i p).rcs = s.rcs := rfl
@[simp] theorem State.setSlot_lsc (s : State) (i : Slot) (p : Option Piece) : (s.setSlot i p).lsc = s.lsc := rfl
@[simp] theorem State.setSlot_vdr (s : State) (i : Slot) (p : Option Piece) : (s.setSlot i p).vdr = s.vdr := rfl
@[simp] theorem State.setSlot_eng (s : State) (i : Slot) (p : Option Piece) : (s.setSlot i p).eng = s.eng := rfl
@[simp] theorem State.setSlot_lnk (s : State) (i : Slot) (p : Option Piece) : (s.setSlot i p).lnk = s.lnk := rfl
@[simp] theorem State.setSlot_ldm (s : State) (i : Slot) (p : Option Piece) : (s.setSlot i p).ldm = s.ldm := rfl
@[simp] theorem State.setSlot_cap (s : State) (i : Slot) (p : Option Piece) : (s.setSlot i p).cap = s.cap := rfl
@[simp] theorem State.setSlot_sta (s : State) (i : Slot) (p : Option Piece) : (s.setSlot i p).sta = s.sta := rfl
@[simp] theorem State.setSlot_bltLines (s : State) (i : Slot) (p : Option Piece) : (s.setSlot i p).bltLines = s.bltLines := rfl
@[simp] theorem State.setSlot_segLines (s : State) (i : Slot) (p : Option Piece) : (s.setSlot i p).segLines = s.segLines := rfl
@[simp] theorem State.setSlot_ldmLines (s : State) (i : Slot) (p : Option Piece) : (s.setSlot i p).ldmLines = s.ldmLines := rfl
@[simp] theorem State.setSlot_capLines (s : State) (i : Slot) (p : Option Piece) : (s.setSlot i p).capLines = s.capLines := rfl
@[simp] theorem State.setSlot_sinceSpeed (s : State) (i : Slot) (p : Option Piece) : (s.setSlot i p).sinceSpeed = s.sinceSpeed := rfl
@[simp] theorem State.setSlot_freeIndex (s : State) (i : Slot) (p : Option Piece) : (s.setSlot i p).freeIndex = s.freeIndex := rfl
@[simp] theorem State.setSlot_pending (s : State) (i : Slot) (p : Option Piece) : (s.setSlot i p).pending = s.pending := rfl

@[simp] theorem State.updatePiece_bpu (s : State) (i : Slot) (f : Piece → Piece) : (s.updatePiece i f).bpu = s.bpu := rfl
@[simp] theorem State.updatePiece_sli (s : State) (i : Slot) (f : Piece → Piece) : (s.updatePiece i f).sli = s.sli := rfl
@[simp] theorem State.updatePiece_cdu (s : State) (i : Slot) (f : Piece → Piece) : (s.updatePiece i f).cdu = s.cdu := rfl
@[simp] theorem State.updatePiece_blt (s : State) (i : Slot) (f : Piece → Piece) : (s.updatePiece i f).blt = s.blt := rfl
@[simp] theorem State.updatePiece_cls (s : State) (i : Slot) (f : Piece → Piece) : (s.updatePiece i f).cls = s.cls := rfl
@[simp] theorem State.updatePiece_rcs (s : State) (i : Slot) (f : Piece → Piece) : (s.updatePiece i f).rcs = s.rcs := rfl
@[simp] theorem State.updatePiece_lsc (s : State) (i : Slot) (f : Piece → Piece) : (s.updatePiece i f).lsc = s.lsc := rfl
@[simp] theorem State.updatePiece_vdr (s : State) (i : Slot) (f : Piece → Piece) : (s.updatePiece i f).vdr = s.vdr := rfl
@[simp] theorem State.updatePiece_eng (s : State) (i : Slot) (f : Piece → Piece) : (s.updatePiece i f).eng = s.eng := rfl
@[simp] theorem State.updatePiece_lnk (s : State) (i : Slot) (f : Piece → Piece) : (s.updatePiece i f).lnk = s.lnk := rfl
@[simp] theorem State.updatePiece_ldm (s : State) (i : Slot) (f : Piece → Piece) : (s.updatePiece i f).ldm = s.ldm := rfl
@[simp] theorem State.updatePiece_cap (s : State) (i : Slot) (f : Piece → Piece) : (s.updatePiece i f).cap = s.cap := rfl
@[simp] theorem State.updatePiece_sta (s : State) (i : Slot) (f : Piece → Piece) : (s.updatePiece i f).sta = s.sta := rfl
@[simp] theorem State.updatePiece_bltLines (s : State) (i : Slot) (f : Piece → Piece) : (s.updatePiece i f).bltLines = s.bltLines := rfl
@[simp] theorem State.updatePiece_segLines (s : State) (i : Slot) (f : Piece → Piece) : (s.updatePiece i f).segLines = s.segLines := rfl
@[simp] theorem State.updatePiece_ldmLines (s : State) (i : Slot) (f : Piece → Piece) : (s.updatePiece i f).ldmLines = s.ldmLines := rfl
@[simp] theorem State.updatePiece_capLines (s : State) (i : Slot) (f : Piece → Piece) : (s.updatePiece i f).capLines = s.capLines := rfl
@[simp] theorem State.updatePiece_sinceSpeed (s : State) (i : Slot) (f : Piece → Piece) : (s.updatePiece i f).sinceSpeed = s.sinceSpeed := rfl
@[simp] theorem State.updatePiece_freeIndex (s : State) (i : Slot) (f : Piece → Piece) : (s.updatePiece i f).freeIndex = s.freeIndex := rfl
@[simp] theorem State.updatePiece_pending (s : State) (i : Slot) (f : Piece → Piece) : (s.updatePiece i f).pending = s.pending := rfl

@[simp] theorem State.updateBank_bpu (s : State) (b : BankId) (f : Bank → Bank) : (s.updateBank b f).bpu = s.bpu := rfl
@[simp] theorem State.updateBank_sli (s : State) (b : BankId) (f : Bank → Bank) : (s.updateBank b f).sli = s.sli := rfl
@[simp] theorem State.updateBank_cdu (s : State) (b : BankId) (f : Bank → Bank) : (s.updateBank b f).cdu = s.cdu := rfl
@[simp] theorem State.updateBank_blt (s : State) (b : BankId) (f : Bank → Bank) : (s.updateBank b f).blt = s.blt := rfl
@[simp] theorem State.updateBank_seg (s : State) (b : BankId) (f : Bank → Bank) : (s.updateBank b f).seg = s.seg := rfl
@[simp] theorem State.updateBank_cls (s : State) (b : BankId) (f : Bank → Bank) : (s.updateBank b f).cls = s.cls := rfl
@[simp] theorem State.updateBank_lsc (s : State) (b : BankId) (f : Bank → Bank) : (s.updateBank b f).lsc = s.lsc := rfl
@[simp] theorem State.updateBank_vdr (s : State) (b : BankId) (f : Bank → Bank) : (s.updateBank b f).vdr = s.vdr := rfl
@[simp] theorem State.updateBank_eng (s : State) (b : BankId) (f : Bank → Bank) : (s.updateBank b f).eng = s.eng := rfl
@[simp] theorem State.updateBank_lnk (s : State) (b : BankId) (f : Bank → Bank) : (s.updateBank b f).lnk = s.lnk := rfl
@[simp] theorem State.updateBank_ldm (s : State) (b : BankId) (f : Bank → Bank) : (s.updateBank b f).ldm = s.ldm := rfl
@[simp] theorem State.updateBank_cap (s : State) (b : BankId) (f : Bank → Bank) : (s.updateBank b f).cap = s.cap := rfl
@[simp] theorem State.updateBank_sta (s : State) (b : BankId) (f : Bank → Bank) : (s.updateBank b f).sta = s.sta := rfl
@[simp] theorem State.updateBank_bltLines (s : State) (b : BankId) (f : Bank → Bank) : (s.updateBank b f).bltLines = s.bltLines := rfl
@[simp] theorem State.updateBank_segLines (s : State) (b : BankId) (f : Bank → Bank) : (s.updateBank b f).segLines = s.segLines := rfl
@[simp] theorem State.updateBank_ldmLines (s : State) (b : BankId) (f : Bank → Bank) : (s.updateBank b f).ldmLines = s.ldmLines := rfl
@[simp] theorem State.updateBank_capLines (s : State) (b : BankId) (f : Bank → Bank) : (s.updateBank b f).capLines = s.capLines := rfl
@[simp] theorem State.updateBank_sinceSpeed (s : State) (b : BankId) (f : Bank → Bank) : (s.updateBank b f).sinceSpeed = s.sinceSpeed := rfl
@[simp] theorem State.updateBank_freeIndex (s : State) (b : BankId) (f : Bank → Bank) : (s.updateBank b f).freeIndex = s.freeIndex := rfl
@[simp] theorem State.updateBank_pending (s : State) (b : BankId) (f : Bank → Bank) : (s.updateBank b f).pending = s.pending := rfl

@[simp] theorem State.enqueueNotice_bpu (s : State) (n : Notice) : (s.enqueueNotice n).bpu = s.bpu := rfl
@[simp] theorem State.enqueueNotice_sli (s : State) (n : Notice) : (s.enqueueNotice n).sli = s.sli := rfl
@[simp] theorem State.enqueueNotice_cdu (s : State) (n : Notice) : (s.enqueueNotice n).cdu = s.cdu := rfl
@[simp] theorem State.enqueueNotice_blt (s : State) (n : Notice) : (s.enqueueNotice n).blt = s.blt := rfl
@[simp] theorem State.enqueueNotice_seg (s : State) (n : Notice) : (s.enqueueNotice n).seg = s.seg := rfl
@[simp] theorem State.enqueueNotice_cls (s : State) (n : Notice) : (s.enqueueNotice n).cls = s.cls := rfl
@[simp] theorem State.enqueueNotice_rcs (s : State) (n : Notice) : (s.enqueueNotice n).rcs = s.rcs := rfl
@[simp] theorem State.enqueueNotice_lsc (s : State) (n : Notice) : (s.enqueueNotice n).lsc = s.lsc := rfl
@[simp] theorem State.enqueueNotice_vdr (s : State) (n : Notice) : (s.enqueueNotice n).vdr = s.vdr := rfl
@[simp] theorem State.enqueueNotice_eng (s : State) (n : Notice) : (s.enqueueNotice n).eng = s.eng := rfl
@[simp] theorem State.enqueueNotice_ldm (s : State) (n : Notice) : (s.enqueueNotice n).ldm = s.ldm := rfl
@[simp] theorem State.enqueueNotice_cap (s : State) (n : Notice) : (s.enqueueNotice n).cap = s.cap := rfl
@[simp] theorem State.enqueueNotice_sta (s : State) (n : Notice) : (s.enqueueNotice n).sta = s.sta := rfl
@[simp] theorem State.enqueueNotice_bltLines (s : State) (n : Notice) : (s.enqueueNotice n).bltLines = s.bltLines := rfl
@[simp] theorem State.enqueueNotice_segLines (s : State) (n : Notice) : (s.enqueueNotice n).segLines = s.segLines := rfl
@[simp] theorem State.enqueueNotice_ldmLines (s : State) (n : Notice) : (s.enqueueNotice n).ldmLines = s.ldmLines := rfl
@[simp] theorem State.enqueueNotice_capLines (s : State) (n : Notice) : (s.enqueueNotice n).capLines = s.capLines := rfl
@[simp] theorem State.enqueueNotice_sinceSpeed (s : State) (n : Notice) : (s.enqueueNotice n).sinceSpeed = s.sinceSpeed := rfl
@[simp] theorem State.enqueueNotice_freeIndex (s : State) (n : Notice) : (s.enqueueNotice n).freeIndex = s.freeIndex := rfl
@[simp] theorem State.enqueueNotice_pending (s : State) (n : Notice) : (s.enqueueNotice n).pending = s.pending := rfl

@[simp] theorem State.setLane_bpu (s : State) (l : Lane) (es : List Entry) : (s.setLane l es).bpu = s.bpu := rfl
@[simp] theorem State.setLane_sli (s : State) (l : Lane) (es : List Entry) : (s.setLane l es).sli = s.sli := rfl
@[simp] theorem State.setLane_cdu (s : State) (l : Lane) (es : List Entry) : (s.setLane l es).cdu = s.cdu := rfl
@[simp] theorem State.setLane_blt (s : State) (l : Lane) (es : List Entry) : (s.setLane l es).blt = s.blt := rfl
@[simp] theorem State.setLane_seg (s : State) (l : Lane) (es : List Entry) : (s.setLane l es).seg = s.seg := rfl
@[simp] theorem State.setLane_cls (s : State) (l : Lane) (es : List Entry) : (s.setLane l es).cls = s.cls := rfl
@[simp] theorem State.setLane_rcs (s : State) (l : Lane) (es : List Entry) : (s.setLane l es).rcs = s.rcs := rfl
@[simp] theorem State.setLane_vdr (s : State) (l : Lane) (es : List Entry) : (s.setLane l es).vdr = s.vdr := rfl
@[simp] theorem State.setLane_eng (s : State) (l : Lane) (es : List Entry) : (s.setLane l es).eng = s.eng := rfl
@[simp] theorem State.setLane_lnk (s : State) (l : Lane) (es : List Entry) : (s.setLane l es).lnk = s.lnk := rfl
@[simp] theorem State.setLane_ldm (s : State) (l : Lane) (es : List Entry) : (s.setLane l es).ldm = s.ldm := rfl
@[simp] theorem State.setLane_cap (s : State) (l : Lane) (es : List Entry) : (s.setLane l es).cap = s.cap := rfl
@[simp] theorem State.setLane_sta (s : State) (l : Lane) (es : List Entry) : (s.setLane l es).sta = s.sta := rfl
@[simp] theorem State.setLane_bltLines (s : State) (l : Lane) (es : List Entry) : (s.setLane l es).bltLines = s.bltLines := rfl
@[simp] theorem State.setLane_segLines (s : State) (l : Lane) (es : List Entry) : (s.setLane l es).segLines = s.segLines := rfl
@[simp] theorem State.setLane_ldmLines (s : State) (l : Lane) (es : List Entry) : (s.setLane l es).ldmLines = s.ldmLines := rfl
@[simp] theorem State.setLane_capLines (s : State) (l : Lane) (es : List Entry) : (s.setLane l es).capLines = s.capLines := rfl
@[simp] theorem State.setLane_sinceSpeed (s : State) (l : Lane) (es : List Entry) : (s.setLane l es).sinceSpeed = s.sinceSpeed := rfl
@[simp] theorem State.setLane_freeIndex (s : State) (l : Lane) (es : List Entry) : (s.setLane l es).freeIndex = s.freeIndex := rfl
@[simp] theorem State.setLane_pending (s : State) (l : Lane) (es : List Entry) : (s.setLane l es).pending = s.pending := rfl

@[simp] theorem State.handOff_bpu (s : State) (h : Handoff) : (s.handOff h).bpu = s.bpu := rfl
@[simp] theorem State.handOff_sli (s : State) (h : Handoff) : (s.handOff h).sli = s.sli := rfl
@[simp] theorem State.handOff_cdu (s : State) (h : Handoff) : (s.handOff h).cdu = s.cdu := rfl
@[simp] theorem State.handOff_blt (s : State) (h : Handoff) : (s.handOff h).blt = s.blt := rfl
@[simp] theorem State.handOff_seg (s : State) (h : Handoff) : (s.handOff h).seg = s.seg := rfl
@[simp] theorem State.handOff_cls (s : State) (h : Handoff) : (s.handOff h).cls = s.cls := rfl
@[simp] theorem State.handOff_rcs (s : State) (h : Handoff) : (s.handOff h).rcs = s.rcs := rfl
@[simp] theorem State.handOff_vdr (s : State) (h : Handoff) : (s.handOff h).vdr = s.vdr := rfl
@[simp] theorem State.handOff_eng (s : State) (h : Handoff) : (s.handOff h).eng = s.eng := rfl
@[simp] theorem State.handOff_lnk (s : State) (h : Handoff) : (s.handOff h).lnk = s.lnk := rfl
@[simp] theorem State.handOff_ldm (s : State) (h : Handoff) : (s.handOff h).ldm = s.ldm := rfl
@[simp] theorem State.handOff_cap (s : State) (h : Handoff) : (s.handOff h).cap = s.cap := rfl
@[simp] theorem State.handOff_sta (s : State) (h : Handoff) : (s.handOff h).sta = s.sta := rfl
@[simp] theorem State.handOff_bltLines (s : State) (h : Handoff) : (s.handOff h).bltLines = s.bltLines := rfl
@[simp] theorem State.handOff_segLines (s : State) (h : Handoff) : (s.handOff h).segLines = s.segLines := rfl
@[simp] theorem State.handOff_ldmLines (s : State) (h : Handoff) : (s.handOff h).ldmLines = s.ldmLines := rfl
@[simp] theorem State.handOff_capLines (s : State) (h : Handoff) : (s.handOff h).capLines = s.capLines := rfl
@[simp] theorem State.handOff_sinceSpeed (s : State) (h : Handoff) : (s.handOff h).sinceSpeed = s.sinceSpeed := rfl
@[simp] theorem State.handOff_freeIndex (s : State) (h : Handoff) : (s.handOff h).freeIndex = s.freeIndex := rfl
@[simp] theorem State.handOff_pending (s : State) (h : Handoff) : (s.handOff h).pending = s.pending := rfl

@[simp] theorem State.dropHandoff_bpu (s : State) (h : Handoff) : (s.dropHandoff h).bpu = s.bpu := rfl
@[simp] theorem State.dropHandoff_sli (s : State) (h : Handoff) : (s.dropHandoff h).sli = s.sli := rfl
@[simp] theorem State.dropHandoff_cdu (s : State) (h : Handoff) : (s.dropHandoff h).cdu = s.cdu := rfl
@[simp] theorem State.dropHandoff_blt (s : State) (h : Handoff) : (s.dropHandoff h).blt = s.blt := rfl
@[simp] theorem State.dropHandoff_seg (s : State) (h : Handoff) : (s.dropHandoff h).seg = s.seg := rfl
@[simp] theorem State.dropHandoff_cls (s : State) (h : Handoff) : (s.dropHandoff h).cls = s.cls := rfl
@[simp] theorem State.dropHandoff_rcs (s : State) (h : Handoff) : (s.dropHandoff h).rcs = s.rcs := rfl
@[simp] theorem State.dropHandoff_vdr (s : State) (h : Handoff) : (s.dropHandoff h).vdr = s.vdr := rfl
@[simp] theorem State.dropHandoff_eng (s : State) (h : Handoff) : (s.dropHandoff h).eng = s.eng := rfl
@[simp] theorem State.dropHandoff_lnk (s : State) (h : Handoff) : (s.dropHandoff h).lnk = s.lnk := rfl
@[simp] theorem State.dropHandoff_ldm (s : State) (h : Handoff) : (s.dropHandoff h).ldm = s.ldm := rfl
@[simp] theorem State.dropHandoff_cap (s : State) (h : Handoff) : (s.dropHandoff h).cap = s.cap := rfl
@[simp] theorem State.dropHandoff_sta (s : State) (h : Handoff) : (s.dropHandoff h).sta = s.sta := rfl
@[simp] theorem State.dropHandoff_bltLines (s : State) (h : Handoff) : (s.dropHandoff h).bltLines = s.bltLines := rfl
@[simp] theorem State.dropHandoff_segLines (s : State) (h : Handoff) : (s.dropHandoff h).segLines = s.segLines := rfl
@[simp] theorem State.dropHandoff_ldmLines (s : State) (h : Handoff) : (s.dropHandoff h).ldmLines = s.ldmLines := rfl
@[simp] theorem State.dropHandoff_capLines (s : State) (h : Handoff) : (s.dropHandoff h).capLines = s.capLines := rfl
@[simp] theorem State.dropHandoff_sinceSpeed (s : State) (h : Handoff) : (s.dropHandoff h).sinceSpeed = s.sinceSpeed := rfl
@[simp] theorem State.dropHandoff_freeIndex (s : State) (h : Handoff) : (s.dropHandoff h).freeIndex = s.freeIndex := rfl
@[simp] theorem State.dropHandoff_pending (s : State) (h : Handoff) : (s.dropHandoff h).pending = s.pending := rfl

@[simp] theorem State.flag_bpu (s : State) (k : FaultKind) : (s.flag k).bpu = s.bpu := rfl
@[simp] theorem State.flag_sli (s : State) (k : FaultKind) : (s.flag k).sli = s.sli := rfl
@[simp] theorem State.flag_cdu (s : State) (k : FaultKind) : (s.flag k).cdu = s.cdu := rfl
@[simp] theorem State.flag_blt (s : State) (k : FaultKind) : (s.flag k).blt = s.blt := rfl
@[simp] theorem State.flag_seg (s : State) (k : FaultKind) : (s.flag k).seg = s.seg := rfl
@[simp] theorem State.flag_cls (s : State) (k : FaultKind) : (s.flag k).cls = s.cls := rfl
@[simp] theorem State.flag_rcs (s : State) (k : FaultKind) : (s.flag k).rcs = s.rcs := rfl
@[simp] theorem State.flag_lsc (s : State) (k : FaultKind) : (s.flag k).lsc = s.lsc := rfl
@[simp] theorem State.flag_vdr (s : State) (k : FaultKind) : (s.flag k).vdr = s.vdr := rfl
@[simp] theorem State.flag_lnk (s : State) (k : FaultKind) : (s.flag k).lnk = s.lnk := rfl
@[simp] theorem State.flag_ldm (s : State) (k : FaultKind) : (s.flag k).ldm = s.ldm := rfl
@[simp] theorem State.flag_cap (s : State) (k : FaultKind) : (s.flag k).cap = s.cap := rfl
@[simp] theorem State.flag_sta (s : State) (k : FaultKind) : (s.flag k).sta = s.sta := rfl
@[simp] theorem State.flag_bltLines (s : State) (k : FaultKind) : (s.flag k).bltLines = s.bltLines := rfl
@[simp] theorem State.flag_segLines (s : State) (k : FaultKind) : (s.flag k).segLines = s.segLines := rfl
@[simp] theorem State.flag_ldmLines (s : State) (k : FaultKind) : (s.flag k).ldmLines = s.ldmLines := rfl
@[simp] theorem State.flag_capLines (s : State) (k : FaultKind) : (s.flag k).capLines = s.capLines := rfl
@[simp] theorem State.flag_sinceSpeed (s : State) (k : FaultKind) : (s.flag k).sinceSpeed = s.sinceSpeed := rfl
@[simp] theorem State.flag_freeIndex (s : State) (k : FaultKind) : (s.flag k).freeIndex = s.freeIndex := rfl
@[simp] theorem State.flag_pending (s : State) (k : FaultKind) : (s.flag k).pending = s.pending := rfl

@[simp] theorem State.stopSurvey_bpu (s : State) (st : SurveyStatus) : (s.stopSurvey st).bpu = s.bpu := rfl
@[simp] theorem State.stopSurvey_sli (s : State) (st : SurveyStatus) : (s.stopSurvey st).sli = s.sli := rfl
@[simp] theorem State.stopSurvey_cdu (s : State) (st : SurveyStatus) : (s.stopSurvey st).cdu = s.cdu := rfl
@[simp] theorem State.stopSurvey_seg (s : State) (st : SurveyStatus) : (s.stopSurvey st).seg = s.seg := rfl
@[simp] theorem State.stopSurvey_cls (s : State) (st : SurveyStatus) : (s.stopSurvey st).cls = s.cls := rfl
@[simp] theorem State.stopSurvey_rcs (s : State) (st : SurveyStatus) : (s.stopSurvey st).rcs = s.rcs := rfl
@[simp] theorem State.stopSurvey_lsc (s : State) (st : SurveyStatus) : (s.stopSurvey st).lsc = s.lsc := rfl
@[simp] theorem State.stopSurvey_vdr (s : State) (st : SurveyStatus) : (s.stopSurvey st).vdr = s.vdr := rfl
@[simp] theorem State.stopSurvey_eng (s : State) (st : SurveyStatus) : (s.stopSurvey st).eng = s.eng := rfl
@[simp] theorem State.stopSurvey_lnk (s : State) (st : SurveyStatus) : (s.stopSurvey st).lnk = s.lnk := rfl
@[simp] theorem State.stopSurvey_ldm (s : State) (st : SurveyStatus) : (s.stopSurvey st).ldm = s.ldm := rfl
@[simp] theorem State.stopSurvey_cap (s : State) (st : SurveyStatus) : (s.stopSurvey st).cap = s.cap := rfl
@[simp] theorem State.stopSurvey_sta (s : State) (st : SurveyStatus) : (s.stopSurvey st).sta = s.sta := rfl
@[simp] theorem State.stopSurvey_bltLines (s : State) (st : SurveyStatus) : (s.stopSurvey st).bltLines = s.bltLines := rfl
@[simp] theorem State.stopSurvey_segLines (s : State) (st : SurveyStatus) : (s.stopSurvey st).segLines = s.segLines := rfl
@[simp] theorem State.stopSurvey_ldmLines (s : State) (st : SurveyStatus) : (s.stopSurvey st).ldmLines = s.ldmLines := rfl
@[simp] theorem State.stopSurvey_capLines (s : State) (st : SurveyStatus) : (s.stopSurvey st).capLines = s.capLines := rfl
@[simp] theorem State.stopSurvey_sinceSpeed (s : State) (st : SurveyStatus) : (s.stopSurvey st).sinceSpeed = s.sinceSpeed := rfl
@[simp] theorem State.stopSurvey_freeIndex (s : State) (st : SurveyStatus) : (s.stopSurvey st).freeIndex = s.freeIndex := rfl
@[simp] theorem State.stopSurvey_pending (s : State) (st : SurveyStatus) : (s.stopSurvey st).pending = s.pending := rfl

@[simp] theorem State.setSlot_nextNumber (s : State) (i : Slot) (p : Option Piece) :
    (s.setSlot i p).seg.nextNumber = s.seg.nextNumber := rfl
@[simp] theorem State.updateBank_generation (s : State) (b : BankId) (f : Bank → Bank) :
    (s.updateBank b f).rcs.generation = s.rcs.generation := rfl
@[simp] theorem State.setLane_handoffs (s : State) (l : Lane) (es : List Entry) :
    (s.setLane l es).lsc.handoffs = s.lsc.handoffs := rfl
@[simp] theorem State.handOff_lanes (s : State) (h : Handoff) : (s.handOff h).lsc.lanes = s.lsc.lanes := rfl

/-! ### Reading after writing -/

theorem State.piece_setSlot (s : State) (i j : Slot) (p : Option Piece) :
    (s.setSlot i p).piece j = if i = j then p else s.piece j := by
  simp [State.piece, State.setSlot, look_put]

@[simp] theorem State.piece_setSlot_self (s : State) (i : Slot) (p : Option Piece) :
    (s.setSlot i p).piece i = p := by
  simp [State.piece_setSlot]

theorem State.piece_updatePiece (s : State) (i j : Slot) (f : Piece → Piece) :
    (s.updatePiece i f).piece j = if i = j then (s.piece i).map f else s.piece j := by
  simp [State.updatePiece, State.piece_setSlot]

@[simp] theorem State.piece_updatePiece_self (s : State) (i : Slot) (f : Piece → Piece) :
    (s.updatePiece i f).piece i = (s.piece i).map f := by
  simp [State.piece_updatePiece]

theorem State.lane_setLane (s : State) (l m : Lane) (es : List Entry) :
    (s.setLane l es).lane m = if l = m then es else s.lane m := by
  simp [State.lane, State.setLane, look_put]

@[simp] theorem State.lane_setLane_self (s : State) (l : Lane) (es : List Entry) :
    (s.setLane l es).lane l = es := by
  simp [State.lane_setLane]

theorem State.bank_updateBank (s : State) (b c : BankId) (f : Bank → Bank) :
    (s.updateBank b f).bank c = if b = c then f (s.bank b) else s.bank c := by
  by_cases h : b = c
  · subst h; simp [State.bank, State.updateBank]
  · simp [State.bank, State.updateBank, look_put, h]

@[simp] theorem ValvePair.get_put (p : ValvePair) (r q : Row) (v : Valve) :
    (p.put r v).get q = if r = q then v else p.get q := by
  cases r <;> cases q <;> rfl

/-- Every count of the table, in the order of its places. -/
def Counter.all : List Counter :=
  [.triggered, .missing, .disturbed, .stray, .frameErrors, .encoderErrors, .reverseLost,
   .opened, .absorbed, .fines, .finesSuppressed] ++
  (List.finRange 16).map (fun c => .ofClass (.cls c)) ++
  [.ofClass .unresolved, .ofClass .overflow, .chainFaults,
   .ofOutcome .notEjected, .ofOutcome .complete, .ofOutcome .shortfall, .ofOutcome .partialOutcome,
   .ofOutcome .flushed, .ofOutcome .abandoned,
   .ofRetire .fired, .ofRetire .firedLate, .ofRetire .truncated, .ofRetire .recoverMiss, .ofRetire .airLost,
   .ofRetire .unavailable, .ofRetire .guardHeld,
   .placed, .trimmed, .droppedFull, .droppedLate, .untracked, .anonymous,
   .framesGood, .checkErrors, .framingErrors, .gapAborts, .overruns, .noticesLost, .piecesLost, .suppressed]

theorem Counter.all_ix (c : Counter) : Counter.all[c.ix.val]? = some c := by
  cases c with
  | ofClass k =>
    cases k with
    | cls k => fin_cases k <;> rfl
    | _ => rfl
  | ofOutcome o => cases o <;> rfl
  | ofRetire r => cases r <;> rfl
  | _ => rfl

theorem Counter.ix_injective (c d : Counter) (h : c.ix = d.ix) : c = d := by
  have hc := Counter.all_ix c
  rw [h, Counter.all_ix d] at hc
  exact (Option.some.inj hc).symm

/-- What a raise of a count leaves in every count (R205). -/
theorem State.get_count (s : State) (c d : Counter) (n : Nat) :
    (s.count c n).sta.get d =
      if c = d then min 4294967295 (s.sta.get c + n) else s.sta.get d := by
  by_cases h : c = d
  · subst h; simp [Sta.get, State.count, satAdd, Config.countMax]
  · have hx : c.ix ≠ d.ix := fun e => h (Counter.ix_injective c d e)
    simp [Sta.get, State.count, look_put_ne _ _ _ _ hx, h]

end Sys2Proof.Machine
end

