-- ==== Sys2Proof/Laws/Steady.lean ====
section
/-! SUPPORT. What the shared operations of pieces, lanes, valves, notices and faults leave as it is: belt, lines,
settings, baselines, generation, leads, requests and replies, load tallies, capture. One lemma for each operation. -/
namespace Sys2Proof.Machine

/-- Each step of a fold keeps the steady part, so the fold does. -/
theorem State.foldl_steady {α : Type} (f : State → α → State) (h : ∀ t a, (f t a).steady = t.steady)
    (as : List α) (s : State) : (as.foldl f s).steady = s.steady := by
  induction as generalizing s with
  | nil => rfl
  | cons a as ih => simp [ih, h]

section Ops
variable (s : State)

@[simp] theorem State.count_steady (c : Counter) (n : Nat) : (s.count c n).steady = s.steady := rfl
@[simp] theorem State.setSlot_steady (i : Slot) (p : Option Piece) : (s.setSlot i p).steady = s.steady := rfl
@[simp] theorem State.updatePiece_steady (i : Slot) (f : Piece → Piece) :
    (s.updatePiece i f).steady = s.steady := rfl
@[simp] theorem State.updateBank_steady (b : BankId) (f : Bank → Bank) :
    (s.updateBank b f).steady = s.steady := rfl
@[simp] theorem State.enqueueNotice_steady (n : Notice) : (s.enqueueNotice n).steady = s.steady := rfl
@[simp] theorem State.setLane_steady (l : Lane) (es : List Entry) : (s.setLane l es).steady = s.steady := rfl
@[simp] theorem State.handOff_steady (h : Handoff) : (s.handOff h).steady = s.steady := rfl
@[simp] theorem State.dropHandoff_steady (h : Handoff) : (s.dropHandoff h).steady = s.steady := rfl
@[simp] theorem State.flag_steady (k : FaultKind) : (s.flag k).steady = s.steady := rfl
@[simp] theorem State.stopSurvey_steady (st : SurveyStatus) : (s.stopSurvey st).steady = s.steady := rfl

@[simp] theorem State.offer_steady (n : Notice) : (s.offer n).steady = s.steady := by
  unfold State.offer; split_ifs <;> rfl

@[simp] theorem State.offerPiece_steady (p : Piece) (o : PieceOutcome) :
    (s.offerPiece p o).steady = s.steady := by
  unfold State.offerPiece; split_ifs <;> rfl

@[simp] theorem State.setEngine_steady (n : EngState) (c : EngCause) : (s.setEngine n c).steady = s.steady := by
  unfold State.setEngine
  split_ifs
  · rfl
  · rw [State.offer_steady]; rfl

@[simp] theorem State.judgeDrained_steady : s.judgeDrained.steady = s.steady := by
  unfold State.judgeDrained; split_ifs <;> simp

@[simp] theorem State.releaseSlot_steady (i : Slot) : (s.releaseSlot i).steady = s.steady := by
  unfold State.releaseSlot; split <;> simp

@[simp] theorem State.freeSlot_steady (i : Slot) : (s.freeSlot i).steady = s.steady := by
  simp [State.freeSlot]

@[simp] theorem State.endPiece_steady (o : PieceOutcome) (i : Slot) : (s.endPiece o i).steady = s.steady := by
  unfold State.endPiece; split <;> simp

@[simp] theorem State.abandonAll_steady (is : List Slot) : (s.abandonAll is).steady = s.steady :=
  State.foldl_steady _ (by simp) is s

@[simp] theorem State.flushAll_steady (is : List Slot) : (s.flushAll is).steady = s.steady :=
  State.foldl_steady _ (by simp) is s

@[simp] theorem State.abandonOpen_steady : s.abandonOpen.steady = s.steady := by simp [State.abandonOpen]

@[simp] theorem State.abandonClassifier_steady : s.abandonClassifier.steady = s.steady := by
  simp only [State.abandonClassifier, State.abandonAll_steady]; rfl

@[simp] theorem State.abortSurvey_steady (c : EngCause) : (s.abortSurvey c).steady = s.steady := by
  simp [State.abortSurvey]

@[simp] theorem State.haltBy_steady (k : FaultKind) : (s.haltBy k).steady = s.steady := by
  simp [State.haltBy]

@[simp] theorem State.raiseFault_steady (k : FaultKind) : (s.raiseFault k).steady = s.steady := by
  unfold State.raiseFault; split_ifs <;> simp

@[simp] theorem State.complete_steady (i : Slot) : (s.complete i).steady = s.steady := by
  unfold State.complete
  split
  · rfl
  · split
    · rfl
    · simp only [State.freeSlot_steady, State.count_steady]
      split_ifs <;> simp

@[simp] theorem State.completeIfDone_steady (i : Slot) : (s.completeIfDone i).steady = s.steady := by
  unfold State.completeIfDone
  split
  · split_ifs <;> simp
  · rfl

@[simp] theorem State.tallyOwner_steady (o : Option (Slot × PieceNo)) (f : Piece → Piece) :
    (s.tallyOwner o f).steady = s.steady := by
  unfold State.tallyOwner; split <;> simp

@[simp] theorem State.ownerDone_steady (o : Option (Slot × PieceNo)) : (s.ownerDone o).steady = s.steady := by
  unfold State.ownerDone; split <;> simp

@[simp] theorem State.retire_steady (l : Lane) (e : Entry) (r : RetireReason) :
    (s.retire l e r).steady = s.steady := by simp [State.retire]

@[simp] theorem State.setValve_steady (l : Lane) (r : Row) (v : Valve) :
    (s.setValve l r v).steady = s.steady := by
  unfold State.setValve; dsimp only; split_ifs <;> rfl

@[simp] theorem State.enterRecover_steady (l : Lane) (r : Row) : (s.enterRecover l r).steady = s.steady := by
  simp [State.enterRecover]

@[simp] theorem State.openFor_steady (l : Lane) (r : Row) (e : Entry) (late : Bool) :
    (s.openFor l r e late).steady = s.steady := by simp [State.openFor]

@[simp] theorem State.closeEntry_steady (l : Lane) (r : Row) (e : Entry) :
    (s.closeEntry l r e).steady = s.steady := by
  unfold State.closeEntry
  dsimp only
  split
  · split_ifs <;> simp
  · simp

/-- A step of a judgment keeps the steady part. -/
theorem State.judgeStep_steady (l : Lane) (r : Row) (o : Opening) (p : Bool) (t : State × Bool)
    (h : s.judgeStep l r o p = some t) : t.1.steady = s.steady := by
  unfold State.judgeStep at h
  dsimp only at h
  split at h
  · split at h
    · split at h
      · split_ifs at h
        cases h
        simp
      · cases h
    · cases hm : s.missedPending l r <;> simp [hm] at h
      cases h; simp
    · cases h
  · cases hm : s.missedPending l r <;> simp [hm] at h
    cases h; simp
  · split at h
    · cases hm : s.missedPending l r <;> simp [hm] at h
      cases h; simp
    · split at h
      · split_ifs at h
        cases h
        simp
      · cases h
  · cases h
  · cases h

theorem State.judgeLoop_steady (l : Lane) (r : Row) (o : Opening) (n : Nat) (p : Bool) :
    (s.judgeLoop l r o n p).steady = s.steady := by
  induction n generalizing s p with
  | zero => rfl
  | succ n ih =>
    unfold State.judgeLoop
    split
    · next t q h => rw [ih]; exact s.judgeStep_steady l r o p (t, q) h
    · rfl

@[simp] theorem State.judge_steady (l : Lane) (r : Row) (o : Opening) : (s.judge l r o).steady = s.steady :=
  s.judgeLoop_steady l r o _ _

@[simp] theorem State.judgeAll_steady (o : Opening) : (s.judgeAll o).steady = s.steady :=
  State.foldl_steady _ (by simp) _ s

@[simp] theorem State.retireGuards_steady : s.retireGuards.steady = s.steady :=
  State.foldl_steady _ (fun t l => State.foldl_steady _ (by simp) _ t) _ s

@[simp] theorem State.retireRow_steady (l : Lane) (r : Row) : (s.retireRow l r).steady = s.steady :=
  State.foldl_steady _ (by simp) _ s

@[simp] theorem State.takeOut_steady (l : Lane) (r : Row) (st : ValveState) :
    (s.takeOut l r st).steady = s.steady := by simp [State.takeOut]

/-! ### Lane scheduler -/

@[simp] theorem State.cutEntry_steady (l : Lane) (e : Entry) (fs : List Fragment) :
    (s.cutEntry l e fs).steady = s.steady := by
  unfold State.cutEntry
  dsimp only
  split
  · simp
  · simp
  · split_ifs <;> simp

@[simp] theorem State.meetEntry_steady (l : Lane) (n : Proposal) (e : Entry) (fs : List Fragment) :
    (s.meetEntry l n e fs).2.steady = s.steady := by
  unfold State.meetEntry; split_ifs <;> simp

@[simp] theorem State.meetEntries_steady (l : Lane) (n : Proposal) (es : List Entry) (fs : List Fragment) :
    (s.meetEntries l n es fs).2.steady = s.steady := by
  induction es generalizing s fs with
  | nil => rfl
  | cons e es ih => simp [State.meetEntries, ih]

@[simp] theorem State.insertFragment_steady (l : Lane) (n : Proposal) (f : Fragment) :
    (s.insertFragment l n f).steady = s.steady := by
  unfold State.insertFragment; dsimp only; split_ifs <;> simp

@[simp] theorem State.settleFragment_steady (l : Lane) (n : Proposal) (rd : Reading) (f : Fragment) :
    (s.settleFragment l n rd f).steady = s.steady := by
  unfold State.settleFragment; split <;> simp

@[simp] theorem State.propose_steady (l : Lane) (n : Proposal) (rd : Reading) :
    (s.propose l n rd).steady = s.steady := by
  unfold State.propose
  dsimp only
  rw [State.foldl_steady _ (by simp)]
  simp

@[simp] theorem State.judgeChanged_steady (b : State) : (b.judgeChanged s).steady = s.steady := by
  unfold State.judgeChanged
  apply State.foldl_steady
  intro t v
  split_ifs <;> simp

@[simp] theorem State.proposeOrLate_steady (l : Lane) (n : Proposal) (rd : Reading) :
    (s.proposeOrLate l n rd).steady = s.steady := by
  unfold State.proposeOrLate; split_ifs <;> simp

@[simp] theorem State.proposeBlow_steady (l : Lane) (r : Row) (n : Proposal) (rd : Reading) :
    (s.proposeBlow l r n rd).steady = s.steady := by
  unfold State.proposeBlow; split_ifs <;> simp

@[simp] theorem State.placePiece_steady (i : Slot) (p : Piece) (c : Classification) (a b : Nat) (x : Run) :
    (s.placePiece i p c a b x).steady = s.steady := by
  unfold State.placePiece
  dsimp only
  simp only [State.judgeChanged_steady, State.completeIfDone_steady]
  split
  · rw [State.foldl_steady _ (by simp)]; simp
  · split_ifs
    · simp
    · rw [State.foldl_steady _ (by simp)]; simp

@[simp] theorem State.placeOverflow_steady (l : Lane) (r : Row) (a b : Nat) (rd : Reading) :
    (s.placeOverflow l r a b rd).steady = s.steady := by
  unfold State.placeOverflow
  dsimp only
  split
  · split_ifs <;> simp
  · simp

@[simp] theorem State.placeUntracked_steady (a b : Nat) (rs : List Run) :
    (s.placeUntracked a b rs).steady = s.steady := by
  unfold State.placeUntracked
  split
  · rfl
  · dsimp only
    simp only [State.judgeChanged_steady]
    apply State.foldl_steady
    intro t l
    split_ifs <;> simp

@[simp] theorem State.placeHandoff_steady (h : Handoff) : (s.placeHandoff h).steady = s.steady := by
  unfold State.placeHandoff
  split
  · simp
  · split
    · split
      · split_ifs <;> simp
      · rfl
    · rfl

@[simp] theorem State.placeAllHandoffs_steady : s.placeAllHandoffs.steady = s.steady := by
  unfold State.placeAllHandoffs
  rw [State.foldl_steady _ (by simp)]
  rfl

/-! ### Segmenter -/

theorem State.openPiece_steady (f : List Run) (c : Bool) (t : Slot × State)
    (h : s.openPiece f c = some t) : t.2.steady = s.steady := by
  unfold State.openPiece at h
  split at h
  · split_ifs at h
    cases h
    rfl
  · cases h

@[simp] theorem State.absorb_steady (into i : Slot) : (State.absorb into s i).steady = s.steady := by
  unfold State.absorb
  split
  · rfl
  · dsimp only
    rw [show ∀ (t : State) (m : Nat), ({ t with ldm.merges := m } : State).steady = t.steady from
      fun _ _ => rfl]
    simp

theorem Linking.leave_steady (k : Linking) (seg : Run) : (k.leave seg).state.steady = k.state.steady := rfl

theorem Linking.link_steady (ln : Line) (eng : EngState) (k : Linking) (seg : Run) :
    (Linking.link ln eng k seg).state.steady = k.state.steady := by
  unfold Linking.link
  split
  · split_ifs
    · split
      · next i t h => simp [k.state.openPiece_steady _ _ _ h]
      · rfl
    · rfl
  · simp
  · dsimp only
    rw [State.updatePiece_steady, State.foldl_steady _ (by simp)]

theorem Linking.fold_steady (ln : Line) (eng : EngState) (segs : List Run) (k : Linking) :
    (segs.foldl (Linking.link ln eng) k).state.steady = k.state.steady := by
  induction segs generalizing k with
  | nil => rfl
  | cons a as ih => simp [ih, Linking.link_steady]

@[simp] theorem State.fines_steady (i : Slot) (p : Piece) : (s.fines i p).steady = s.steady := by
  unfold State.fines; dsimp only; split_ifs <;> simp

@[simp] theorem State.closePiece_steady (i : Slot) (p : Piece) : (s.closePiece i p).steady = s.steady := by
  unfold State.closePiece
  split_ifs
  · simp
  · rfl
  · simp

@[simp] theorem State.dispose_steady (eng : EngState) (i : Slot) : (State.dispose eng s i).steady = s.steady := by
  unfold State.dispose
  split
  · rfl
  · dsimp only
    split_ifs
    · split
      · next u h => rw [State.openPiece_steady _ _ _ _ h]; simp
      · simp
    · simp

@[simp] theorem State.endLineAll_steady (ln : Line) : (s.endLineAll ln).steady = s.steady :=
  State.foldl_steady _ (by simp) _ s

@[simp] theorem State.segmentLine_steady (ln : Line) : (s.segmentLine ln).steady = s.steady := by
  unfold State.segmentLine
  dsimp only
  have h : ((segmentsOf ln.marks).foldl (Linking.link ln s.eng.state) ⟨s, s.matchSet, []⟩).state.steady
      = s.steady := Linking.fold_steady ln _ _ _
  split_ifs
  · rw [State.foldl_steady _ (by simp)]; simpa using h
  · rw [State.handOff_steady, State.foldl_steady _ (by simp)]; simpa using h

/-! ### Valves and engine -/

@[simp] theorem State.truncate_steady (l : Lane) (r : Row) : (s.truncate l r).steady = s.steady := by
  unfold State.truncate; dsimp only; split <;> simp

@[simp] theorem State.endRecover_steady (l : Lane) (r : Row) : (s.endRecover l r).steady = s.steady := by
  simp [State.endRecover]

@[simp] theorem State.endPulse_steady (l : Lane) (r : Row) : (s.endPulse l r).steady = s.steady := by
  simp [State.endPulse]

@[simp] theorem State.loseAirAt_steady (l : Lane) (r : Row) : (s.loseAirAt l r).steady = s.steady := by
  unfold State.loseAirAt
  dsimp only
  split_ifs
  · split <;> simp
  · rfl

@[simp] theorem State.takeReport_steady (c : CoilReport) : (s.takeReport c).steady = s.steady := by
  unfold State.takeReport; dsimp only; split_ifs <;> simp

@[simp] theorem State.disable_steady (l : Lane) (r : Row) : (s.disable l r).steady = s.steady := by
  unfold State.disable; split_ifs <;> simp

@[simp] theorem State.enable_steady (l : Lane) (r : Row) : (s.enable l r).steady = s.steady := by
  unfold State.enable; split_ifs <;> simp

@[simp] theorem State.stopDrain_steady : s.stopDrain.steady = s.steady := by
  unfold State.stopDrain; split_ifs <;> simp

@[simp] theorem State.stopAbandon_steady : s.stopAbandon.steady = s.steady := by
  unfold State.stopAbandon; dsimp only; split_ifs <;> simp

@[simp] theorem State.flushOpen_steady : s.flushOpen.steady = s.steady := by simp [State.flushOpen]

@[simp] theorem State.flushClassifier_steady : s.flushClassifier.steady = s.steady := by
  simp only [State.flushClassifier, State.flushAll_steady]; rfl

@[simp] theorem State.flushLanes_steady : s.flushLanes.steady = s.steady := rfl

@[simp] theorem State.flushValve_steady (l : Lane) (r : Row) : (s.flushValve l r).steady = s.steady := by
  unfold State.flushValve; split_ifs <;> simp

@[simp] theorem State.flushValves_steady : s.flushValves.steady = s.steady := by
  unfold State.flushValves
  dsimp only
  rw [State.flushAll_steady, State.foldl_steady _ (by simp), State.foldl_steady _ (by simp)]

@[simp] theorem State.endDraining_steady : s.endDraining.steady = s.steady := by
  unfold State.endDraining; split_ifs <;> simp

@[simp] theorem State.flushed_steady : s.flushed.steady = s.steady := by simp [State.flushed]

end Ops

end Sys2Proof.Machine
end

