-- ==== Sys2Proof/WellFormed.lean ====
section
/-! DEFINITION. When the operands of a command are such as the part's connections can carry. The model gives every
command its meaning whether or not it is well formed. -/
namespace Sys2Proof

/-- A frame that ends on the sensor bar link holds at least the character that began it (spec/02, R17). -/
def sensorFrameFormed (bytes : List Byte) : Bool := !bytes.isEmpty

/-- A link frame that completes holds exactly the characters its stated length asks for, and states a body of at most
1024 bytes (spec/10, R183, R185). -/
def linkFrameFormed (bytes : List Byte) : Bool :=
  decide (4 ≤ bytes.length) && decide (Machine.statedLength bytes ≤ Config.bodyMax) &&
    decide (bytes.length = Machine.wholeLength (Machine.statedLength bytes))

/-- No valve is reported twice in one return frame: "for each valve it reports" (spec/08, R159). -/
def returnFrameFormed (reports : List CoilReport) : Bool :=
  decide (reports.map fun c => (c.lane, c.row)).Nodup

/-- The operands of a command are well formed. -/
def Instr.wellFormed (i : Instr) : Bool :=
  match i with
  | .sensorFrameEnd bytes _ => sensorFrameFormed bytes
  | .linkFrameEnd bytes => linkFrameFormed bytes
  | .valveReturnFrame reports _ _ => returnFrameFormed reports
  | .encoderTransition _ _ => true
  | .speedUpdate => true
  | .lineRequestSend => true
  | .bltTakeLine => true
  | .segTakeLine => true
  | .ldmTakeLine => true
  | .capTakeLine => true
  | .walkStart => true
  | .testEvaluate => true
  | .walkEnd => true
  | .placePiece _ => true
  | .placeUntracked => true
  | .maxOnExpiry _ _ => true
  | .minOffExpiry _ _ => true
  | .pulseExpiry _ _ => true
  | .airLost => true
  | .airRestored => true
  | .linkFramingError => true
  | .gapAbort => true
  | .transmitFrame => true
  | .unknownKind => true
  | .hello => true
  | .status => true
  | .set => true
  | .get => true
  | .hold => true
  | .release => true
  | .sortStart => true
  | .sortStopDrain => true
  | .sortStopAbandon => true
  | .flush => true
  | .clear => true
  | .reset => true
  | .softReset _ _ _ => true
  | .hardReset _ _ _ _ => true
  | .surveyStart => true
  | .surveyStop => true
  | .surveyResult => true
  | .baselineRead => true
  | .baselineWrite => true
  | .recipeOpen => true
  | .recipePutRecords => true
  | .recipePutClasses => true
  | .recipeCommit => true
  | .recipeAbandon => true
  | .recipeInfo => true
  | .laneRead => true
  | .valveEnable => true
  | .valveDisable => true
  | .valvePulse => true
  | .valveState => true
  | .captureArmNow => true
  | .captureArmClass => true
  | .captureCancel => true
  | .captureRead => true
  | .statsRead => true
  | .statsReadClear => true
  | .linkFrameStart => true
  | .sensorFrameStart => true
  | .returnFrameStart => true
  | .linkFrameSent => true

end Sys2Proof
end

