-- ==== Sys2Proof/Tests/Slice0.lean ====
section
/-! SUPPORT. Checks of the model against the worked figures of spec/, the terms that WellFormed refuses, and for every
statement with hypotheses a state and operands that meet them. -/

open Sys2Proof Sys2Proof.Machine

namespace Sys2Proof.Tests

-- One theorem after another: many kernel evaluations at once would take more threads than the memory allows.
set_option Elab.async false

/-! ### Small states -/

/-- The machine right after a hard reset. -/
def base : State := State.reset

/-- What a command leaves, read by a function; none where it does not answer a next state. -/
def reads {α : Type} (c : Instr) (s : State) (f : State → α) : Option α :=
  match exec c s with
  | .next t => some (f t)
  | _ => none

/-- The state with one request in the inbound queue and no reply waiting. -/
def request (kind : Nat) (body : List Byte) (s : State) : State :=
  { s with lnk.inbound := [⟨BitVec.ofNat 8 kind, 7, body⟩], lnk.replies := [] }

/-- A request of a kind with a body stands to be taken. -/
def Stands (kind : Nat) (body : List Byte) (s : State) : Prop :=
  ∃ f rest, s.asked kind f rest ∧ f.body = body

theorem stands {kind : Nat} {body : List Byte} {s : State} (h : kind < 256) (g : s.eng.resetPending = false) :
    Stands kind body (request kind body s) :=
  ⟨⟨BitVec.ofNat 8 kind, 7, body⟩, [], ⟨rfl, by simp [Nat.mod_eq_of_lt h], by simp [request], g⟩, rfl⟩

/-- The status and the data of the last reply. -/
def lastReply (s : State) : Option (Status × List Byte) := s.lnk.replies.getLast?.map fun r => (r.status, r.data)

/-- A setting of the class IMMEDIATE or IDLE_ONLY put in force. -/
def withOwn (i : OwnId) (v : Nat) (s : State) : State := { s with cdu.own := s.cdu.own.put i v }

/-- The record of spec/05 section 5.4.1, in a phase. -/
def piece (ph : Phase) : Piece :=
  { number := 6100, bank := 0, gen := 0, first := some (10, 1000000), last := some (22, 1000104), contributed := 13,
    gap := 0, extent := some ⟨20, 25⟩, area := 37, sums := ⟨7421, 1517, 902, -118⟩, indPeak := some 411, metal := 25,
    clipped := 0, absorbed := 0, front := [⟨20, 25⟩], received := [],
    flags := { PieceFlags.none with merged := true }, phase := ph, classed := none, pendingEntries := 0, tallies := {} }

/-- A classification with a destination and a precedence, margins and widen those of spec/07 section 7.3.1. -/
def classed (d : Dest) (prec : Nat) : Classification :=
  { cls := .cls 1, dest := d, steps := 3, chainFault := false
    terms := { prec := prec, lead := 6, trail := 10, widen := 1, report := true }
    features := (piece .walking).features 4 }

/-- The state with a piece in slot 3. -/
def withPiece (p : Piece) (s : State) : State := { s with seg.slots := put s.seg.slots 3 (some p) }

/-- The state with a schedule in lane 12. -/
def withLane (es : List Entry) (s : State) : State := s.setLane 12 es

/-- A lane entry of slot 3. -/
def entry (row : EntryRow) (a b prec : Nat) (active : Bool) : Entry :=
  { row := row, start := a, stop := b, owner := some (3, 6100), prec := prec, active := active,
    lateStart := false, sharedCut := false, trimmed := false }

/-- The UP valve of lane 12 in a state. -/
def withValve (v : Valve) (s : State) : State :=
  { s with vdr.valves := put s.vdr.valves 12 { look s.vdr.valves 12 with up := v } }

/-- A line with one occupied run, from a frame or missing. -/
def line (run : Run) (sm : Option Samples) : Line :=
  { seq := 10, start := 1000000, stop := 1000008, snap := base.cdu.line, disturbed := false, samples := sm
    marks := tabulate 96 fun i => if run.left ≤ i.val ∧ i.val ≤ run.right then .occupied else .vacant
    prevMarks := Marks.none }

/-- Samples of a quiet belt. -/
def quiet : Samples :=
  { refs := Vector.replicate 16 ⟨8192, 8192, 8192, 8192⟩
    cells := Vector.replicate 96
      ⟨⟨8192, 8192, 8192, 8192⟩, ⟨8192, 8192, 8192, 8192⟩, ⟨0, 0, 0, 0⟩, false⟩ }

/-- An outstanding trigger. -/
def trigger (n : SeqNo) : Trigger :=
  { seq := n, start := 8, stop := 16, snap := base.cdu.line, disturbed := false, requested := false }

/-- The sequence number and the samples of a line frame, one sample everywhere. -/
def frameBody (n sample : Nat) : List Byte := toBytes 2 n ++ (List.replicate 448 (toBytes 2 sample)).flatten

/-- A line frame with its CRC. -/
def lineFrame (n sample : Nat) : List Byte := frameBody n sample ++ toBytes 2 (crc16 (frameBody n sample)).toNat

/-- The two bytes that end a byte string spell the number they were made of. -/
theorem field_end (b : List Byte) (x : BitVec 16) {n : Nat} (h : b.length = n) :
    field (b ++ toBytes 2 x.toNat) n 2 = x.toNat := by
  subst h
  have hx := x.isLt
  simp [field, toBytes, ofBytes]
  omega

/-- A field that lies in the front of a byte string is read from it. -/
theorem field_front (b c : List Byte) {i n : Nat} (h : i + n ≤ b.length) : field (b ++ c) i n = field b i n := by
  simp only [field]
  rw [List.drop_append_of_le_length (by omega), List.take_append_of_le_length (by simp; omega)]

theorem frameBody_length (n sample : Nat) : (frameBody n sample).length = 898 := by
  simp [frameBody, toBytes, -List.reduceReplicate]
theorem drop_pairs (x : List Byte) (hx : x.length = 2) :
    ∀ j n, j ≤ n → ((List.replicate n x).flatten).drop (2 * j) = (List.replicate (n - j) x).flatten
  | 0, n, _ => by simp
  | j + 1, 0, h => by omega
  | j + 1, n + 1, h => by
    have := drop_pairs x hx j n (by omega)
    rw [List.replicate_succ, List.flatten_cons, show 2 * (j + 1) = x.length + 2 * j by omega, List.drop_append,
      Nat.add_sub_cancel_left, this, List.drop_eq_nil_of_le (by omega), List.nil_append, Nat.add_sub_add_right]
theorem frameBody_sample (n sample j : Nat) (hj : j < 448) :
    field (frameBody n sample) (2 + 2 * j) 2 = ofBytes (toBytes 2 sample) := by
  have h : (frameBody n sample).drop (2 + 2 * j) = (List.replicate (447 - j + 1) (toBytes 2 sample)).flatten := by
    rw [frameBody, show 447 - j + 1 = 448 - j by omega, ← drop_pairs _ rfl j 448 (by omega),
      show 2 + 2 * j = (toBytes 2 n).length + 2 * j from rfl, List.drop_append, Nat.add_sub_cancel_left,
      List.drop_eq_nil_of_le (by omega), List.nil_append]
  rw [field, h, List.replicate_succ, List.flatten_cons, List.take_left' (by rfl)]

theorem sound_of (b : List Byte) (h : b.length = 898) (g : ∀ j < 448, field b (2 + 2 * j) 2 ≤ 16383) :
    sensorFrameSound (b ++ toBytes 2 (crc16 b).toNat) := by
  refine ⟨?_, ?_, fun j hj => ?_⟩
  · simp [h, toBytes]
  · rw [field_end _ _ h, List.take_left' h]
  · rw [field_front _ _ (by omega)]
    exact g j hj

theorem lineFrame_sound : sensorFrameSound (lineFrame 1 16383) :=
  sound_of _ (frameBody_length 1 16383) fun j hj => by
    rw [frameBody_sample 1 16383 j hj]
    decide

/-! ### WellFormed refuses -/

/-- A sensor frame that no character began. -/
theorem test_wellFormed_sensorFrame : (Instr.sensorFrameEnd [] true).wellFormed = false := by decide

/-- A link frame of 7 bytes that states a body of two, and one that states a body of 1025. -/
theorem test_wellFormed_linkFrame :
    (Instr.linkFrameEnd [1, 7, 0, 2, 0, 0, 0]).wellFormed = false ∧
      (Instr.linkFrameEnd ([1, 7, 4, 1] ++ List.replicate 1027 0)).wellFormed = false ∧
      (Instr.linkFrameEnd [1, 7, 0, 0, 0, 0]).wellFormed = true := by decide +kernel

/-- A return frame that reports one valve twice. -/
theorem test_wellFormed_returnFrame :
    (Instr.valveReturnFrame [⟨3, .up, .ok⟩, ⟨3, .up, .fault⟩] true false).wellFormed = false ∧
      (Instr.valveReturnFrame [⟨3, .up, .ok⟩, ⟨3, .down, .fault⟩] true false).wellFormed = true := by decide +kernel

/-! ### Worked figures of the spec -/

/-- The check value 29B1 (hex) of R184. -/
theorem test_crc : crc16 [0x31, 0x32, 0x33, 0x34, 0x35, 0x36, 0x37, 0x38, 0x39] = 0x29B1 := by decide +kernel

/-- Spec/01 section 1.2: the forward cycle makes a tick at each step, and both inputs at once an encoder error. -/
theorem test_encoder :
    reads (.encoderTransition true false) base (fun t => (t.bpu.pos, t.bpu.debt)) = some (1, 0) ∧
      reads (.encoderTransition false true) base (fun t => (t.bpu.pos, t.bpu.debt)) = some (0, 1) ∧
      reads (.encoderTransition true true) base (fun t => (t.bpu.pos, t.sta.get .encoderErrors)) = some (0, 1) := by
  decide +kernel

/-- The leads of the table of spec/08 section 8.2, by a speed update that finds 96 ticks in 8 ms, 12000 per second. -/
theorem test_speedUpdate :
    reads .speedUpdate { base with bpu.pos := 96 } (fun t => (t.bpu.speed, t.vdr.leadOpen, t.vdr.leadClose)) =
      some (12000, 22, 14) := by decide +kernel

/-- The conditioning cases of spec/02 section 2.6.1: p of 20800, −1480, 256, −256 and 768, and the clamp. -/
theorem test_conditioning :
    [20800, -1480, 256, -256, 768].map (fun p => roundNear p 512) = [41, -3, 1, -1, 2] ∧
      roundNear 19259 16 = 1204 ∧ conditionSample (base.cdu.line.put (.gain .vis) 40) .vis 3020 47800 = 41 ∧
      conditionSample ((base.cdu.line.put (.gain .ind) 255).put (.range .ind) 1) .ind 16383 16000 = 2047 := by
  decide +kernel

/-- The updates of spec/03 section 3.4.1. -/
theorem test_tracking :
    let g := fun damp : Nat => (⟨24, 4, damp, 64⟩ : TrackSettings)
    [trackSample (g 1) 47800 .track 2995, trackSample (g 1) 47800 .track 2984, trackSample (g 1) 47800 .track 2983,
      trackSample (g 0) 47800 .track 3011, trackSample (g 0) 47800 .track 3012] =
    [(47802, .track), (47800, .track), (47799, .track), (47811, .track), (47996, .settle 3)] := by decide +kernel

/-- The features of spec/05 section 5.4.1. -/
theorem test_features : ((piece .walking).features 4).toList =
    [37, 13, 6, 121, 201, 41, 24, -3, 411, 172, 246, 463, 8, 0, 306, 0] := by decide +kernel

/-- The chain of spec/05 section 5.6.1: MEAN_VIS 41 IN 30..60 and FLAGS 8 ANY 8 hold, NDI 246 OUT −40..40 holds. -/
theorem test_operators :
    (TestRecord.holds ⟨5, .inside, 30, 60, .cls 1, .cls 2⟩ 41 &&
      TestRecord.holds ⟨12, .anyBit, 8, 0, .unresolved, .cls 6⟩ 8 &&
      TestRecord.holds ⟨10, .outside, -40, 40, .cls 1, .unresolved⟩ 246) = true := by decide +kernel

/-- The state of spec/07 section 7.4.1 before the placement, with 6095 in slot 4. -/
def insertion : State :=
  let e := fun (row : EntryRow) (a b : Nat) (o : Slot × PieceNo) (prec : Nat) (act : Bool) =>
    ({ entry row a b prec act with owner := some o } : Entry)
  let p6095 : Piece := { piece .scheduled with number := 6095, classed := some (classed .down 1), pendingEntries := 1 }
  { withPiece { piece .scheduled with classed := some (classed .up 3) } (withLane
      [e .up 1004020 1004100 (5, 6090) 2 true, e .down 1004120 1004150 (4, 6095) 1 false,
       e .down 1004190 1004260 (6, 6097) 5 false] base) with
    bpu.pos := 1004010, vdr.leadOpen := 22, vdr.leadClose := 14
    seg.slots := put (put base.seg.slots 4 (some p6095)) 3 (some { piece .scheduled with
      classed := some (classed .up 3) })
    lsc.handoffs := [.piece .classifier 3] }

/-- The insertion of spec/07 section 7.4.1 in lane 12: the windows and marks after it, and 6095 gone. -/
theorem test_placePiece :
    reads (.placePiece .classifier) insertion (fun t => (t.lane 12).map fun e =>
        (e.start, e.stop, e.sharedCut, e.trimmed)) =
      some [(1004020, 1004100, false, false), (1004100, 1004190, true, true), (1004190, 1004260, false, false)] ∧
    reads (.placePiece .classifier) insertion (fun t => (t.piece 4 == none, t.sta.get .trimmed)) =
      some (true, 2) := by decide +kernel

/-- The lateness of spec/07 section 7.4.3. -/
theorem test_lateness :
    let rd : Reading := ⟨1004090, 22, 14, 4⟩
    let f := fun a b : Nat => (⟨a, b, false, false, false⟩ : Fragment)
    [(f 1004120 1004240).judged .up rd, (f 1004100 1004130).judged .up rd, (f 1004100 1004105).judged .up rd] =
      [some (f 1004120 1004240), some ⟨1004112, 1004130, true, false, false⟩, none] := by decide +kernel

/-- The outcomes of spec/08 section 8.13.3, B to F. -/
theorem test_outcomes :
    [Tallies.outcome { planned := 3, fired := 3, shared := 2 } .up,
      Tallies.outcome { planned := 2, fired := 1, firedLate := 1 } .down,
      Tallies.outcome { planned := 2, dropRecoverMiss := 1, dropAirLost := 1 } .up,
      Tallies.outcome { planned := 4, guardHeld := 4 } .pass,
      Tallies.outcome { planned := 4, guardHeld := 3, dropLate := 1 } .pass, Tallies.outcome {} .pass] =
    [.complete, .partialOutcome, .shortfall, .complete, .partialOutcome, .notEjected] := by decide

/-- The block ends of spec/11 section 11.1.1. -/
theorem test_load :
    [LoadState.judged .normal 4 5 20 350, LoadState.judged .empty 20 5 20 350, LoadState.judged .empty 28 5 20 350,
      LoadState.judged .normal 366 5 20 350, LoadState.judged .dense 325 5 20 350] =
    [.empty, .empty, .normal, .dense, .normal] := by decide

/-- Section 8.5.1: at the close trigger of Ea the valve enters RECOVER for 3000 microseconds, Eb waiting. -/
theorem test_recover :
    reads (.encoderTransition true false)
      { withLane [entry .up 5000000 5000100 2 true, entry .up 5000130 5000140 2 false]
          (withPiece { piece .scheduled with classed := some (classed .up 2), pendingEntries := 2 }
          (withValve { Valve.rest with state := .opened, served := .entry, maxOn := some ⟨9000, 40000⟩ } base)) with
        bpu.pos := 5000085, vdr.leadOpen := 22, vdr.leadClose := 14 }
      (fun t => ((t.valve 12 .up).state, (t.valve 12 .up).minOff, (t.lane 12).length,
        t.sta.get (.ofRetire .fired))) = some (.recover, some 3000, 1, 1) := by decide +kernel

/-- R191: HELLO gives the part number 4D31 (hex) first, and R187: a body it does not have is BAD_LENGTH. -/
theorem test_hello :
    reads .hello (request 0x01 [] base) (fun t => (lastReply t).map fun r => (r.1, r.2.take 2)) =
      some (some (.ok, [0x4D, 0x31])) ∧
    reads .hello (request 0x01 [0] base) lastReply = some (some (.badLength, [])) := by decide +kernel

/-- R170: SORT_START without valid baselines and without an ACTIVE bank is refused with NOT_READY and both weights. -/
theorem test_sortStart :
    reads .sortStart (request 0x07 [] base) lastReply = some (some (.notReady, [3])) := by decide +kernel

/-! ### States that meet the hypotheses of the statements

One theorem for each statement with hypotheses; where it has several clauses, a state or operand for each, at the
ends of their ranges. -/

/-- Belt position, next line and reverse debt. -/
def belt (pos next debt : Nat) : State := { base with bpu.pos := pos, bpu.nextLine := next, bpu.debt := debt }

/-- The engine in a state. -/
def engineIn (e : EngState) (s : State) : State := { s with eng.state := e }

theorem test_witness_StepRunsTheFrontCommand :
    ({ base with pending := [.hello, .status] } : State).pending = .hello :: [.status] := rfl

theorem test_witness_IdleMicrosecondRunsTimers :
    base.pending = [] ∧ (withValve { Valve.rest with maxOn := some ⟨39999, 40000⟩ } base).pending = [] := ⟨rfl, rfl⟩

theorem test_witness_EventsThatCannotOccurChangeNothing :
    (∀ e ∈ base.sli.outstanding, e.requested = true) ∧ base.sli.inFrame = false ∧ base.bltLines = [] ∧
    base.segLines = [] ∧ base.ldmLines = [] ∧ base.capLines = [] ∧ (base.cls.walk ≠ none ∨ base.cls.queue = []) ∧
    (∃ w : Walk, ({ base with cls.walk := some w } : State).cls.walk = some w ∧ w.point = .ended .unresolved true) ∧
    (∃ w : Walk, ({ base with cls.walk := some w } : State).cls.walk = some w ∧ w.point = .record 255) ∧
    base.cls.walk = none ∧ (∀ src, ∀ h ∈ base.lsc.handoffs, h.isFrom src = false) ∧
    (base.valve 47 .down).state = .closed ∧ ({ base with vdr.air := .lost } : State).vdr.air = .lost ∧
    base.vdr.air = .present ∧ base.vdr.inFrame = false ∧ base.lnk.inFrame = false ∧
    field ([1, 7, 4, 0, 0] : List Byte) 2 2 ≤ 1024 ∧
    ({ base with lnk.sending := some ⟨[], false⟩ } : State).lnk.sending ≠ none ∧
    ({ base with eng.resetReplySent := true } : State).eng.resetReplySent = true ∧ base.lnk.sending = none ∧
    base.lnk.inbound = [] ∧ base.eng.resetPending = false := by
  refine ⟨by decide, rfl, rfl, rfl, rfl, rfl, .inr rfl, ⟨⟨0, 0, classed .up 0 |>.features, _, 24⟩, rfl, rfl⟩,
    ⟨⟨0, 0, classed .up 0 |>.features, _, 0⟩, rfl, rfl⟩, rfl, ?_, ?_⟩
  · intro src h hm
    exact (List.not_mem_nil hm).elim
  · decide +kernel

theorem test_witness_CountsRiseAndStop :
    ∃ t, exec (.encoderTransition true true) base = .next t ∧ base.sta.get .encoderErrors ≤ 4294967295 ∧
      (base.valve 0 .up).actuations ≤ 4294967295 := ⟨_, rfl, by decide +kernel, by decide +kernel⟩

theorem test_witness_TicksMoveTheBelt :
    ticksBackward (base.own .encPolarity) (base.bpu.refA, base.bpu.refB) (false, true) ∧
    ticksForward (base.own .encPolarity) (base.bpu.refA, base.bpu.refB) (true, false) ∧
    65535 ≤ (belt 5 8 65535).bpu.debt ∧
    (base.own .reverseLimit < (belt 5 8 4096).bpu.debt + 1 ∧ (belt 5 8 4096).bpu.excursion = false) ∧
    ¬ base.own .reverseLimit < (belt 5 8 4095).bpu.debt + 1 ∧ 0 < (belt 5 8 1).bpu.debt ∧
    281474976710655 ≤ (belt 281474976710655 8 0).bpu.pos ∧
    (belt 281474976710646 281474976710647 0).bpu.nextLine = (belt 281474976710646 281474976710647 0).bpu.pos + 1 ∧
    (belt 281474976710646 281474976710647 0).bpu.pos + 1 + base.cdu.line.get .lineTicks = 281474976710655 ∧
    281474976710655 < (belt 281474976710647 281474976710648 0).bpu.pos + 1 + base.cdu.line.get .lineTicks ∧
    (belt 281474976710654 8 0).bpu.pos < 281474976710655 ∧ (belt 281474976710654 8 0).bpu.nextLine ≠
      (belt 281474976710654 8 0).bpu.pos + 1 ∧ (belt 281474976710654 8 0).bpu.pos + 1 = 281474976710655 ∧
    base.sta.get (.ofRetire .guardHeld) ≤ 4294967295 := by
  unfold ticksBackward ticksForward
  decide +kernel

/-- A state one forward tick before a line trigger, with triggers outstanding. -/
def beforeTrigger (out : List Trigger) : State :=
  { belt 281474976710646 281474976710647 0 with sli.outstanding := out }

theorem test_witness_LineTriggerIsTaken :
    ticksForward (base.own .encPolarity) (base.bpu.refA, base.bpu.refB) (true, false) ∧
    (∃ t, exec (.encoderTransition true false) (beforeTrigger [trigger 0, trigger 1, trigger 2]) = .next t) ∧
    (beforeTrigger [trigger 0, trigger 1, trigger 2]).sli.outstanding.length < 4 ∧
    (∃ t, exec (.encoderTransition true false) (beforeTrigger [trigger 0, trigger 1, trigger 2, trigger 3]) =
      .next t) ∧
    (beforeTrigger [trigger 0, trigger 1, trigger 2, trigger 3]).sli.outstanding =
      trigger 0 :: [trigger 1, trigger 2, trigger 3] := by
  refine ⟨?_, ⟨_, rfl⟩, by decide, ⟨_, rfl⟩, rfl⟩
  unfold ticksForward
  decide +kernel

/-- Spec/08 section 8.11: a GUARD entry whose end the tick reaches retires GUARD_HELD; the one after it stays. -/
theorem test_guardHeld :
    reads (.encoderTransition true false)
      (withLane [entry .guard 5 20 1 false, entry .guard 20 21 1 false]
        (withPiece { piece .scheduled with classed := some (classed .pass 1), pendingEntries := 2 } (belt 19 8 0)))
      (fun t => ((t.lane 12).length, t.sta.get (.ofRetire .guardHeld), (t.piece 3).map (·.pendingEntries))) =
      some (1, 1, some 1) := by decide +kernel

theorem test_witness_QuotientsAreRoundedAsStated :
    (0 < (512 : Nat)) ∧ 2 * |(512 : Int) * roundNear 256 512 - 256| = 512 ∧ (0 < (33 : Int)) ∧ (-2048 : Int) ≤ 2047 := by
  decide +kernel

theorem test_witness_LineRequestsGoOutInOrder :
    let sent := [{ trigger 0 with requested := true }]
    ({ base with sli.outstanding := sent ++ trigger 1 :: [trigger 2] } : State).sli.outstanding =
      sent ++ trigger 1 :: [trigger 2] ∧
    (∀ o ∈ sent, o.requested = true) ∧ (trigger 1).requested = false := by
  exact ⟨rfl, by decide, rfl⟩

/-- The SLI inside a frame, with triggers outstanding. -/
def inFrame (out : List Trigger) : State := { base with sli.inFrame := true, sli.outstanding := out }

theorem test_witness_BadSensorFrameIsDiscarded :
    let b := frameBody 1 16383
    let bad := b ++ toBytes 2 (crc16 b + 1).toNat
    (inFrame []).sli.inFrame = true ∧ b.length ≠ 900 ∧
    field bad 898 2 ≠ (crc16 (bad.take 898)).toNat ∧ 16383 < field (frameBody 1 16384) (2 + 2 * 447) 2 := by
  refine ⟨rfl, by rw [frameBody_length]; decide, ?_, by rw [frameBody_sample _ _ _ (by decide)]; decide⟩
  rw [field_end _ _ (frameBody_length _ _), List.take_left' (frameBody_length _ _)]
  bv_omega

theorem test_witness_GoodSensorFrameIsMatched :
    sensorFrameSound (lineFrame 1 16383) ∧ (inFrame [trigger 0]).sli.inFrame = true ∧
    (∀ e ∈ (inFrame [trigger 0]).sli.outstanding, e.seq.toNat ≠ field (lineFrame 1 16383) 0 2) ∧
    (inFrame [trigger 0, trigger 1]).sli.outstanding = [trigger 0] ++ trigger 1 :: [] ∧
    (∀ o ∈ [trigger 0], o.seq.toNat ≠ field (lineFrame 1 16383) 0 2) ∧
    (trigger 1).seq.toNat = field (lineFrame 1 16383) 0 2 :=
  ⟨lineFrame_sound, rfl, by decide +kernel, rfl, by decide +kernel, by decide +kernel⟩

theorem test_witness_CellsAreConditionedAndMarked :
    base.cdu.line.get (.refcorr .ind) = 1 ∧ (base.cdu.line.put (.refcorr .ind) 0).get (.refcorr .ind) ≠ 1 := by
  decide +kernel

/-- A line in the four queues of processed lines. -/
def withLine (ln : Line) : State :=
  { base with bltLines := [ln], segLines := [ln], ldmLines := [ln], capLines := [ln] }

theorem test_witness_BaselineTrackerTakesLine :
    (262143 ≤ 262143 ∧ 16383 ≤ 16383) ∧ (16 * (24 : Int) < |16 * (3012 : Int) - 47800|) ∧
    ¬ (16 * (24 : Int) < |16 * (3011 : Int) - 47800|) ∧
    (withLine (line ⟨3, 5⟩ (some quiet))).bltLines = line ⟨3, 5⟩ (some quiet) :: [] ∧
    (withLine (line ⟨3, 5⟩ (some quiet))).blt.status ≠ .running ∧ (withLine (line ⟨3, 5⟩ (some quiet))).own .blMode = 0 ∧
    (withOwn .blMode 2 (withLine (line ⟨3, 5⟩ (some quiet)))).own .blMode ≠ 0 ∧
    backgroundCell .empty (line ⟨3, 5⟩ (some quiet)) 2 ∧ backgroundCell .normal (line ⟨3, 5⟩ (some quiet)) 95 ∧
    ¬ backgroundCell .empty (line ⟨3, 5⟩ (some quiet)) 3 := by
  refine ⟨by decide, by decide +kernel, by decide +kernel, rfl, by decide +kernel, by decide +kernel,
    by decide +kernel, ?_⟩
  unfold backgroundCell
  decide +kernel

/-- A survey that runs, with a target and lines counted. -/
def surveying (good target : Nat) (sm : Option Samples) : State :=
  { withLine (line ⟨3, 5⟩ sm) with
    eng.state := .survey, blt.status := .running
    blt.acc := { SurveyAcc.zero with good := good, target := target } }

theorem test_witness_SurveyTakesLine :
    (surveying 0 64 none).bltLines = line ⟨3, 5⟩ none :: [] ∧ (line ⟨3, 5⟩ none).samples = none ∧
    (surveying 1 64 (some quiet)).blt.status = .running ∧ (line ⟨3, 5⟩ (some quiet)).samples = some quiet ∧
    (surveying 0 64 none).blt.acc.early = 0 ∧
    0 < ({ surveying 0 64 none with blt.acc.early := 1 } : State).blt.acc.early ∧
    (1 ≤ (surveying 1 64 (some quiet)).blt.acc.good ∧ ((surveying 1 64 (some quiet)).own .surveyStep : Int) <
      |((look quiet.cells 0).raw.get .ind : Int) - (look (surveying 1 64 (some quiet)).blt.acc.prev 0).get .ind|) ∧
    ¬ 1 ≤ (surveying 0 64 (some quiet)).blt.acc.good ∧
    (surveying 0 64 (some quiet)).blt.acc.good + 1 < (surveying 0 64 (some quiet)).blt.acc.target ∧
    spoils ((surveying 0 1 (some quiet)).own .surveyStep) (surveying 0 1 (some quiet)).blt.acc quiet = false ∧
    (surveying 0 1 (some quiet)).blt.acc.good + 1 = (surveying 0 1 (some quiet)).blt.acc.target := by
  refine ⟨rfl, rfl, rfl, rfl, rfl, ?_⟩
  decide +kernel

/-- R47: a line processed before the SURVEY_START is none of the survey's, the next one is its first. -/
theorem test_surveyStart :
    let two : State := request 0x0C [0, 64] { base with bltLines := [line ⟨3, 5⟩ (some quiet)] }
    (match exec .surveyStart two with
      | .next t => reads .bltTakeLine { t with bltLines := List.replicate 2 (line ⟨3, 5⟩ (some quiet)) } fun u =>
          (u.blt.acc.good, reads .bltTakeLine u fun v => v.blt.acc.good)
      | _ => none) = some (0, some 1) := by decide +kernel

theorem test_witness_SurveyAndBaselineRequestsAct :
    let one : List Byte := [0, 95, 1] ++ toBytes 4 262144
    let manual := withOwn .blMode 2 base
    Stands 0x0C [16, 1] (request 0x0C [16, 1] base) ∧ Stands 0x0D [] (request 0x0D [] base) ∧
    Stands 0x10 one (request 0x10 one base) ∧ one.length = 3 + 4 * [262144].length ∧
    (∀ (j : Nat) (v : Nat), [262144][j]? = some v → v = field one (3 + 4 * j) 4) ∧
    base.own .blMode ≠ 2 ∧ manual.own .blMode = 2 ∧ manual.blt.status ≠ .running ∧
    ({ manual with blt.status := .running } : State).blt.status = .running ∧
    (3 < byteAt ([4, 0, 0] : List Byte) 0 ∧ 96 < 95 + 2) ∧ Chan.ind.index = byteAt one 0 ∧
    ¬ (3 < byteAt one 0 ∨ 95 < byteAt one 1 ∨ [262144] = ([] : List Nat) ∨ 96 < byteAt one 1 + 1) := by
  refine ⟨stands (by decide) rfl, stands (by decide) rfl, stands (by decide) rfl, by decide +kernel, ?_,
    by decide +kernel⟩
  intro j v h
  match j with
  | 0 => simp at h; subst h; decide +kernel
  | j + 1 => simp at h

/-- Bank 0 in a state with a pin count. -/
def withBank (st : BankState) (pins : Nat) (s : State) : State :=
  { s with rcs.banks := put s.rcs.banks 0 { Bank.blank with state := st, pins := pins } }

theorem test_witness_SegmenterTakesLine :
    (withLine (line ⟨0, 95⟩ none)).segLines = line ⟨0, 95⟩ none :: [] ∧
    (withLine (line ⟨0, 95⟩ none)).eng.state ≠ .sorting ∧
    (engineIn .sorting (withLine (line ⟨0, 95⟩ none))).eng.state = .sorting ∧
    (engineIn .draining (withLine (line ⟨0, 95⟩ none))).eng.state = .draining ∧
    touchedSlots ⟨10, 19⟩ [⟨⟨21, 95⟩, 0⟩, ⟨⟨0, 8⟩, 255⟩] = [] ∧ touchedSlots ⟨10, 19⟩ [⟨⟨20, 95⟩, 0⟩] = [0] ∧
    touchedSlots ⟨10, 19⟩ [⟨⟨20, 95⟩, 0⟩, ⟨⟨0, 9⟩, 255⟩] = 0 :: 255 :: [] ∧ base.sta.get .untracked ≤ 4294967295 ∧
    base.openPiece [] false = none ∧
    ((withBank .active 0 base).openPiece [] false).isSome = true := by
  exact ⟨rfl, by decide, rfl, rfl, by decide +kernel⟩

theorem test_witness_LinkingLosesNoCell :
    (line ⟨0, 95⟩ (some quiet)).samples ≠ none ∧ (line ⟨0, 95⟩ none).samples = none := ⟨nofun, rfl⟩

theorem test_witness_PieceOpensInTheLowestFreeSlot :
    let s := withBank .active 0 base
    let full : State := { s with seg.slots := Vector.replicate 256 (some (piece .openPiece)) }
    (s.bank 0).state = .active ∧ (s.bank (otherBank 0)).state ≠ .active ∧
    ((∀ i, full.piece i ≠ none) ∧ 64 ≤ full.openCount) ∧ s.piece 0 = none ∧ (∀ j < (0 : Slot), s.piece j ≠ none) ∧
    s.openCount < 64 := by decide +kernel

theorem test_witness_SegmentIsAccumulated :
    let ln := line ⟨0, 95⟩ (some quiet)
    ln.samples = some quiet ∧ (0 ≤ 95) ∧ ln.snap.windowStart ≤ 0 ∧ 95 ≤ ln.snap.windowLast ∧ (95 < 96) ∧
    ({ piece .openPiece with extent := none } : Piece).extent = none ∧ (piece .openPiece).extent = some ⟨20, 25⟩ ∧
    (line ⟨0, 95⟩ none).samples = none := by
  refine ⟨rfl, ?_⟩
  decide +kernel

theorem test_witness_MergeKeepsTheEarliestPiece :
    let young : Piece := { piece .openPiece with first := none, extent := none, indPeak := none }
    let s : State := { base with seg.slots := put (put base.seg.slots 0 (some (piece .openPiece))) 255 (some young) }
    ([0, 255] : List Slot).Pairwise (· < ·) ∧ (∀ j ∈ ([0, 255] : List Slot), s.piece j ≠ none) ∧
    (piece .openPiece).extent = some ⟨20, 25⟩ ∧ (piece .openPiece).indPeak = some 411 ∧
    (piece .openPiece).first = some (10, 1000000) ∧ (piece .openPiece).last = some (22, 1000104) ∧ young.first = none ∧
    ({ piece .openPiece with last := none } : Piece).last = none ∧
    ([⟨3, 5⟩, ⟨7, 7⟩] : List Run).Pairwise (fun a b => a.left ≤ b.left) ∧
    (0 : Slot) ≠ 255 ∧ s.piece 0 = some (piece .openPiece) ∧
    s.piece 255 = some young := by decide +kernel

theorem test_witness_LineEndJudgesPieces :
    let eight : List Run := List.replicate 8 ⟨1, 1⟩
    let seven : List Run := List.replicate 7 ⟨1, 1⟩
    eight.length ≤ 8 ∧ seven ++ ⟨50, 50⟩ :: [] ++ [⟨60, 61⟩] = seven ++ (⟨50, 50⟩ : Run) :: [] ++ [⟨60, 61⟩] ∧
    seven.length = 7 ∧ (piece .openPiece).received = [] ∧
    (piece .openPiece).gap + 1 ≤ (line ⟨0, 0⟩ none).snap.get .gapLines ∧
    (line ⟨0, 0⟩ none).snap.get .gapLines < ({ piece .openPiece with gap := 1 } : Piece).gap + 1 ∧
    ({ piece .openPiece with received := [⟨3, 5⟩] } : Piece).received ≠ [] ∧
    (piece .openPiece).first = some (10, 1000000) := by decide +kernel

theorem test_witness_ClosedPieceIsDisposedOf :
    (withPiece { piece .openPiece with area := 3 } base).piece 3 = some { piece .openPiece with area := 3 } ∧
    3 < base.own .minArea ∧ base.own .minArea ≤ 4 ∧
    ({ base with cls.queue := List.replicate 15 0 } : State).cls.queue.length < 16 ∧
    16 ≤ ({ base with cls.queue := List.replicate 16 0 } : State).cls.queue.length := by decide +kernel

theorem test_witness_FeaturesAreComputedAsStated :
    let p := piece .walking
    p.first = some (10, 1000000) ∧ p.last = some (22, 1000104) ∧ p.extent = some ⟨20, 25⟩ ∧ p.indPeak = some 411 ∧
    (20 ≤ 25) ∧ (25 ≤ 95) ∧ ((22 : SeqNo) - 10).toNat ≤ 2050 ∧ 1 ≤ p.area ∧
    p.area ≤ (((22 : SeqNo) - 10).toNat + 1) * (25 + 1 - 20) ∧ p.metal ≤ p.area ∧
    (∀ k, -2048 * (p.area : Int) ≤ p.sums.get k ∧ p.sums.get k ≤ 2047 * p.area) ∧ (-2048 : Int) ≤ 411 ∧
    (411 : Int) ≤ 2047 := by
  refine ⟨rfl, rfl, rfl, rfl, by decide, by decide, by decide, by decide, by decide, by decide, ?_, by decide, by decide⟩
  intro k
  cases k <;> decide

/-- A test record. -/
def record (a b : Target) : TestRecord := ⟨9, .ge, 128, 0, a, b⟩

/-- Bank 0 ACTIVE with a chain of one record and classes that all eject UP, and a walk over slot 3. -/
def walking (pt : WalkPoint) (steps : Nat) : State :=
  let b : Bank := { Bank.blank with
    state := .active, count := 1, pins := 1, records := put Bank.blank.records 0 (some (record (.record 0) .unresolved))
    classes := Vector.replicate 16 (some ⟨.up, (classed .up 3).terms⟩) }
  { withPiece (piece .walking) base with
    rcs.banks := put base.rcs.banks 0 b
    cls.walk := some ⟨3, 0, (piece .walking).features 4, pt, steps⟩ }

theorem test_witness_WalkStartsAndTests :
    let s : State := { withPiece (piece .queued) (withBank .active 1 base) with cls.queue := [3] }
    s.cls.walk = none ∧ s.cls.queue = 3 :: [] ∧ s.piece 3 = some (piece .queued) ∧
    (s.bank (piece .queued).bank).root = (0 : Fin 256).val ∧
    (walking (.record 0) 23).cls.walk = some ⟨3, 0, (piece .walking).features 4, .record 0, 23⟩ ∧
    look ((walking (.record 0) 23).bank 0).records 0 = some (record (.record 0) .unresolved) := by
  refine ⟨rfl, rfl, by decide +kernel, by decide +kernel, rfl, by decide +kernel⟩

theorem test_witness_TestOperatorsHold :
    ((-32768 : Int) ≤ -32768 ∧ (-32768 : Int) ≤ 32767) ∧ ((-32768 : Int) ≤ 32767 ∧ (32767 : Int) ≤ 32767) := by decide

theorem test_witness_WalkEndSchedulesThePiece :
    let e : ClassEntry := ⟨.up, (classed .up 3).terms⟩
    let s := walking (.ended (.cls 1) false) 3
    let u := walking (.ended .unresolved true) 24
    s.cls.walk = some ⟨3, 0, (piece .walking).features 4, .ended (.cls 1) false, 3⟩ ∧
    s.piece 3 = some (piece .walking) ∧ look (s.bank 0).classes 1 = some e ∧ (u.bank 0).unresolved = .up ∧
    s.cap.state ≠ .ringing ∧
    ({ s with cap := armClass 0 1 1 } : State).cap.state = .ringing ∧ (armClass 0 1 1).trigger = .onClass (.cls 1) ∧
    (armClass 0 1 1).post ≠ 0 ∧ (armClass 0 1 0).post = 0 ∧ (armClass 0 1 0).ring = [] ∧
    ({ armClass 0 1 0 with ring := [⟨5, 0, true, false, []⟩] } : Cap).ring ≠ [] := by
  refine ⟨rfl, ?_⟩
  decide +kernel

theorem test_witness_RecipeIsLoaded :
    let rec2 : List Byte := [254] ++ List.replicate 20 0
    let cls2 : List Byte := List.replicate 7 0 ++ [15] ++ List.replicate 6 0
    let s := withBank .loading 0 base
    Stands 0x11 [] (request 0x11 [] base) ∧ (base.bank 0).state ≠ .active ∧
    (∀ j, (base.bank j).state ≠ .active ∧ (base.bank j).state ≠ .loading) ∧
    (s.bank 0).state = .loading ∧ (s.bank (otherBank 0)).state ≠ .loading ∧
    ((withBank .active 0 base).bank (otherBank 1)).state = .active ∧
    Stands 0x12 rec2 (request 0x12 rec2 s) ∧ rec2.length = 1 + 10 * (1 + 1) ∧ byteAt rec2 0 + 1 ≤ 255 ∧
    255 < byteAt ([255] ++ List.replicate 20 0 : List Byte) 0 + 1 ∧
    Stands 0x13 cls2 (request 0x13 cls2 s) ∧ cls2.length = 7 * (1 + 1) ∧
    (∀ j ≤ 1, byteAt cls2 (7 * j) ≤ 15) ∧ byteAt cls2 (7 * 0) ≠ byteAt cls2 (7 * 1) ∧
    15 < byteAt ([16] : List Byte) 0 ∧
    byteAt (List.replicate 14 (0 : Byte)) (7 * 0) = byteAt (List.replicate 14 (0 : Byte)) (7 * 1) := by
  refine ⟨stands (by decide) rfl, by decide +kernel, by decide +kernel, by decide +kernel, by decide +kernel,
    by decide +kernel, stands (by decide) rfl, by decide, by decide, by decide, stands (by decide) rfl, ?_⟩
  decide +kernel

/-- Bank 0 LOADING with one record and all classes written. -/
def loaded : State :=
  { base with rcs.banks := put base.rcs.banks 0 { Bank.blank with
      state := .loading, records := put Bank.blank.records 0 (some (record (.record 1) .unresolved))
      classes := Vector.replicate 16 (some ⟨.up, (classed .up 3).terms⟩) } }

/-- A RECIPE_COMMIT of a record count and a root, with the check of the bank of `loaded`. -/
def commitBody (count root : Nat) : List Byte :=
  toBytes 2 count ++ toBytes 1 root ++ toBytes 1 2 ++ toBytes 4 77 ++ toBytes 2 ((loaded.bank 0).check 1)

/-- What the clauses of RECIPE_COMMIT ask of a bank and a body, but the request itself and its check. -/
theorem test_commit_cases :
    ((commitBody 1 0).length = 10 ∧ field (commitBody 0 0) 0 2 = 0 ∧ 256 < field (commitBody 257 0) 0 2 ∧
      field (commitBody 256 0) 0 2 ≤ 256 ∧ 1 ≤ byteAt (commitBody 1 1) 2 ∧ byteAt (commitBody 1 0) 2 < 1) ∧
    ((∀ b, (base.bank b).state ≠ .loading) ∧ (loaded.bank 0).state = .loading ∧
      (loaded.bank (otherBank 0)).state ≠ .loading) ∧
    (look (loaded.bank 0).records 1 = none ∧ (∀ j < (1 : Fin 256), look (loaded.bank 0).records j ≠ none) ∧
      look ((withBank .loading 0 base).bank 0).classes 0 = none ∧ ∀ c, look (loaded.bank 0).classes c ≠ none) ∧
    (1 ≤ (record (.record 1) .unresolved).onTrue.code ∧ (record (.record 1) .unresolved).onTrue.code < 256) ∧
    (record (.record 0) .unresolved).onTrue.code < 1 ∧ 256 ≤ (record (.record 0) .unresolved).onFalse.code ∧
    (∀ i : Fin 256, i.val < 1 → look (loaded.bank 0).records i ≠ none) := by decide +kernel

theorem test_witness_RecipeCommitSwapsBanks :
    Stands 0x14 (commitBody 1 0) (request 0x14 (commitBody 1 0) loaded) ∧
    (crc16 ((loaded.bank 0).checkBytes 1)).toNat = field (commitBody 1 0) 8 2 :=
  ⟨stands (by decide) rfl, (field_end _ _ (by decide +kernel)).symm⟩

theorem test_witness_RecipeAbandonEmptiesTheLoadingBank :
    Stands 0x15 [] (request 0x15 [] loaded) ∧ (∀ b, (base.bank b).state ≠ .loading) ∧
    (loaded.bank 0).state = .loading ∧ (loaded.bank (otherBank 0)).state ≠ .loading := by
  refine ⟨stands (by decide) rfl, ?_⟩
  decide +kernel

theorem test_reset_recipesSound : base.recipesSound := by
  unfold State.recipesSound State.pinned
  refine ⟨trivial, ?_⟩
  decide +kernel

theorem test_witness_RecipesStaySound :
    base.recipesSound ∧ (∃ t, step base = .next t) ∧ (∃ t, exec .hold base = .next t) ∧
    ((withBank .active 0 base).bank 0).state = .active := ⟨test_reset_recipesSound, ⟨_, rfl⟩, ⟨_, rfl⟩, rfl⟩

/-- A lane of sixteen entries. -/
def fullLane : List Entry := (List.range 16).map fun j => entry .down (100 * j + 10) (100 * j + 60) 2 false

theorem test_witness_FragmentsAreCutJudgedAndInserted :
    let rd : Reading := ⟨1004090, 22, 14, 4⟩
    ((4 < 5) ∧ (5 < 9)) ∧ ((1004113 : Int) - rd.leadOpen = rd.pos + 1 ∧ (1004112 : Int) - rd.leadOpen ≤ rd.pos) ∧
    ((rd.minPulse : Int) ≤ (1004108 : Int) - rd.leadClose - rd.pos ∧ ¬ (rd.minPulse : Int) ≤ (1004107 : Int) -
      rd.leadClose - rd.pos ∧ rd.pos + rd.leadOpen < 1004113) ∧
    (base.lane 12).length < 16 ∧ 16 ≤ ((withLane fullLane base).lane 12).length ∧
    (withPiece (piece .scheduled) base).piece 3 = some (piece .scheduled) := by decide +kernel

theorem test_witness_ProposalMeetsAnEntry :
    let e := entry .down 100 200 2 false
    let n : Proposal := ⟨.up, 120, 150, some (3, 6100), 3⟩
    let f := fun a b : Nat => (⟨a, b, false, false, false⟩ : Fragment)
    let left := fun fs : List Fragment => (e.cutAround fs).filter fun w => base.own .minPulse ≤ w.2 - w.1
    laneSound ((withLane [e] base).lane 12) ∧ e ∈ (withLane [e] base).lane 12 ∧
    ({ n with row := .down } : Proposal).row = e.row ∧ n.row ≠ e.row ∧
    ({ n with prec := 2 } : Proposal).prec ≤ e.prec ∧ (entry .down 100 200 2 true).active = true ∧ e.prec < n.prec ∧
    left [f 97 203] = [] ∧ left [f 104 203] = [(100, 104)] ∧ left [f 120 150] = [(100, 120), (150, 200)] ∧
    laneSound ((withLane fullLane base).lane 12) ∧ 16 ≤ ((withLane fullLane base).lane 12).length ∧
    e.owner = some (3, 6100) ∧
    (withPiece { piece .scheduled with classed := some (classed .down 2), pendingEntries := 1 } base).piece 3 =
      some { piece .scheduled with classed := some (classed .down 2), pendingEntries := 1 } := by
  unfold laneSound
  decide +kernel

theorem test_witness_PieceIsPlaced :
    let p : Piece := { piece .scheduled with classed := some (classed .up 3) }
    let g : Piece := { piece .scheduled with classed := some (classed .pass 1) }
    insertion.lsc.handoffs = [] ++ .piece .classifier 3 :: [] ∧ insertion.piece 3 = some p ∧ p.phase = .scheduled ∧
    p.classed = some (classed .up 3) ∧ p.first = some (10, 1000000) ∧ p.last = some (22, 1000104) ∧
    p.extent = some ⟨20, 25⟩ ∧ (classed .pass 0).terms.prec = 0 ∧ (classed .pass 1).dest = .pass ∧
    (withPiece g insertion).piece 3 = some g ∧ (20 - 1) / 2 ≤ (9 : Lane).val ∧ (13 : Lane).val ≤ min 95 (25 + 1) / 2 ∧
    (classed .up 3).dest.row? = some .up ∧ (insertion.valve 9 .up).available = true ∧ insertion.lane 9 = [] ∧
    insertion.bpu.pos + insertion.vdr.leadOpen < 1000000 + insertion.own .barOffset - 6 ∧
    insertion.own .minPulse ≤ 1000104 + insertion.own .barOffset + 10 - (1000000 + insertion.own .barOffset - 6) := by
  decide +kernel

/-- A hand-off of untracked cells over lanes 12 and 47, under OVERFLOW_DEST UP. -/
def overflow : State :=
  { withOwn .overflowDest 0 base with
    lsc.handoffs := [.untracked 7 1000000 1000008 [⟨24, 24⟩, ⟨95, 95⟩]] }

theorem test_witness_UntrackedRunsArePlaced :
    let ws := 1000000 + overflow.own .barOffset - overflow.own .ovfMargin
    let we := min (1000008 + overflow.own .barOffset + overflow.own .ovfMargin) 281474976710655
    let e : Entry := { entry .up (ws - 8) ws 0 false with owner := none }
    overflow.lsc.handoffs = [] ++ .untracked 7 1000000 1000008 [⟨24, 24⟩, ⟨95, 95⟩] :: [] ∧
    2 ≤ base.own .overflowDest ∧ overflow.own .overflowDest = 0 ∧ 24 / 2 ≤ (12 : Lane).val ∧
    (47 : Lane).val ≤ 95 / 2 ∧ (overflow.valve 47 .up).available = true ∧ ws < we ∧ overflow.own .minPulse ≤ we - ws ∧
    overflow.lane 47 = [] ∧ (withLane [e] overflow).lane 12 = [e] ∧ e.row = .ofRow .up ∧ e.owner = none ∧
    e.active = false ∧ ws ≤ e.stop ∧ e.stop ≤ we ∧
    (withLane [e] overflow).bpu.pos + (withLane [e] overflow).vdr.leadOpen < e.start := by decide +kernel

/-- R142, R143: an ACTIVE anonymous entry is extended to the start of the GUARD entry that follows it, and what is left
is proposed after that entry. -/
theorem test_extension :
    let mine : Entry := { entry .up 100 200 0 true with owner := none }
    let held : State := withLane [mine, entry .guard 210 240 2 false] base
    laneSound (held.lane 12) ∧
    ((held.placeOverflow 12 .up 200 260 ⟨50, 0, 0, 4⟩).lane 12).map (fun e => (e.start, e.stop)) =
      [(100, 210), (210, 240), (240, 260)] := by
  unfold laneSound
  decide +kernel

/-- The UP valve of lane 12 OPEN for its first entry. -/
def blowing (es : List Entry) : State :=
  { withPiece { piece .scheduled with classed := some (classed .up 2), pendingEntries := es.length } (withLane es
      (withValve { Valve.rest with state := .opened, served := .entry, maxOn := some ⟨9000, 40000⟩ } base)) with
    bpu.pos := 5000000 }

theorem test_witness_ValveOpensClosesAndBridges :
    let a := entry .up 4999900 5000000 2 true
    let n := entry .up 5000012 5000100 2 false
    laneSound ((withLane [n] base).lane 12) ∧ n ∈ (withLane [n] base).lane 12 ∧
    ((withLane [n] base).valve 12 .up).state = .closed ∧ laneSound ((blowing [a, n]).lane 12) ∧
    a ∈ (blowing [a, n]).lane 12 ∧ ((blowing [a, n]).valve 12 .up).state = .opened ∧
    (n ∈ (blowing [a, n]).lane 12 ∧ a.start < n.start ∧ ∀ x ∈ (blowing [a, n]).lane 12, a.start < x.start →
      n.start ≤ x.start) ∧
    n.start ≤ a.stop + base.own .mergeGap ∧ ¬ (n.start + 1 ≤ a.stop + base.own .mergeGap) := by
  unfold laneSound
  decide +kernel

/-- No lane holds an entry and no valve is OPEN, but for those of lane 12. -/
theorem elsewhere {s : State} (hl : ∀ l : Lane, l ≠ 12 → s.lane l = [])
    (hv : ∀ l : Lane, l ≠ 12 → (look s.vdr.valves l).up.state = .closed ∧ (look s.vdr.valves l).down.state = .closed)
    (h : ∀ r : Row, ((s.rowEntries 12 r).filter (·.active)).length =
      if (s.valve 12 r).state = .opened ∧ (s.valve 12 r).served = .entry then 1 else 0) : s.activitySound := by
  intro l r
  by_cases e : l = 12
  · subst e; exact h r
  · have hc := hv l e
    cases r <;> simp [State.rowEntries, hl l e, State.valve, ValvePair.get, hc]

theorem test_activitySound : (blowing [entry .up 4999900 5000000 2 true]).activitySound ∧ base.activitySound := by
  constructor <;> refine elsewhere (by decide +kernel) (by decide +kernel) ?_ <;> intro r <;> cases r <;>
    decide +kernel

/-- The UP valve of lane 12 OPEN for an entry whose close trigger is reached, with an entry that does not bridge due after
it, under MIN_OFF_US 0. -/
def closing : State :=
  { blowing [entry .up 4999900 5000000 2 true, entry .up 5000050 5000300 2 false] with
    vdr.leadOpen := 100, cdu.own := base.cdu.own.put .minOff 0 }

theorem closing_active : closing.activitySound := by
  refine elsewhere (by decide +kernel) (by decide +kernel) ?_
  intro r
  cases r <;> decide +kernel

theorem test_witness_JudgedValveIsSettled :
    let a := entry .up 4999900 5000000 2 true
    let n := entry .up 5000050 5000300 2 false
    let m := entry .up 0 100 2 false
    let idle : State := { withLane [m] base with vdr.leadOpen := 100 }
    (laneSound (closing.lane 12) ∧ laneSound (idle.lane 12)) ∧ closing.activitySound ∧ idle.activitySound ∧
    closing.vdr.air = .present ∧ closing.firstPending 12 .up = some n ∧ n.start ≤ closing.bpu.pos + closing.vdr.leadOpen ∧
    closing.bpu.pos + closing.vdr.leadClose < n.stop ∧ (closing.valve 12 .up).state = .opened ∧
    (closing.valve 12 .up).served = .entry ∧ closing.activeEntry 12 .up = some a ∧
    a.stop ≤ closing.bpu.pos + closing.vdr.leadClose ∧ closing.own .minOff = 0 ∧
    a.stop + closing.own .mergeGap < n.start ∧ (idle.valve 12 .up).state = .closed ∧
    idle.firstPending 12 .up = some m ∧ m.start ≤ idle.bpu.pos + idle.vdr.leadOpen ∧
    (∀ v : Valve, ((withValve v { idle with bpu.pos := 100 }).valve 12 .up) = v) ∧
    m.stop ≤ ({ idle with bpu.pos := 100 } : State).bpu.pos + idle.vdr.leadClose := by
  refine ⟨?_, closing_active, ?_, by decide +kernel, by decide +kernel, by decide +kernel, by decide +kernel,
    by decide +kernel, rfl, by decide +kernel, by decide, rfl, by decide, rfl, by decide, by decide,
    fun v => ?_, by decide⟩
  · unfold laneSound
    decide +kernel
  · refine elsewhere (by decide +kernel) (by decide +kernel) ?_
    intro r
    cases r <;> decide +kernel
  · simp [withValve, State.valve, ValvePair.get]

/-- R155: an entry opened at its open trigger is not marked LATE_START, and one opened under MIN_OFF_US 0 after the close
before it is marked where its open trigger had been reached before the event. -/
theorem test_lateStart :
    (({ withLane [entry .up 22 100 2 false] base with bpu.pos := 22 } : State).judge 12 .up (.ordinary 21)).lane 12 =
      [entry .up 22 100 2 true] ∧
    (closing.judge 12 .up (.ordinary 5000049)).lane 12 = [entry .up 5000050 5000300 2 true] ∧
    (closing.judge 12 .up (.ordinary 5000050)).lane 12 = [{ entry .up 5000050 5000300 2 true with lateStart := true }] := by
  decide +kernel

theorem test_witness_ValveTimersExpire :
    let a := entry .up 4999900 5000000 2 true
    let s := blowing [a]
    laneSound (s.lane 12) ∧ s.activitySound ∧ (s.valve 12 .up).state = .opened ∧ (s.valve 12 .up).maxOn ≠ none ∧
    0 < s.own .minOff ∧ s.activeEntry 12 .up = some a ∧ base.activitySound ∧
    ((withValve { Valve.rest with state := .opened, served := .pulse } base).valve 12 .up).served = .pulse ∧
    ((withValve { Valve.rest with state := .recover } base).valve 12 .up).state = .recover ∧
    (withLane [entry .up 22 100 2 false] base).firstPending 12 .up = some (entry .up 22 100 2 false) := by
  refine ⟨?_, test_activitySound.1, ?_⟩
  · unfold laneSound
    decide +kernel
  · refine ⟨rfl, nofun, by decide +kernel, by decide +kernel, test_activitySound.2, ?_⟩
    decide +kernel

theorem test_witness_RetirementAndCompletion :
    let a := entry .up 4999900 5000000 2 true
    let s := blowing [a]
    let p : Piece := { piece .scheduled with classed := some (classed .up 2), pendingEntries := 1 }
    a ∈ s.lane 12 ∧ a.owner = some (3, 6100) ∧ s.piece 3 = some p ∧ p.phase = .scheduled ∧ 0 < p.pendingEntries ∧
    p.classed = some (classed .up 2) ∧ (classed .up 2).terms.report = true ∧ s.eng.state ≠ .draining ∧
    (({ planned := 0 } : Tallies).planned = 0 ∧ ({ planned := 1, trimmed := 1 } : Tallies).trimmed ≠ 0 ∧
      ({ planned := 1, trimmed := 1 } : Tallies).fired = 0 ∧ ({ planned := 1, firedLate := 1 } : Tallies).firedLate ≠ 0) := by
  decide +kernel

theorem test_witness_AirIsLostAndReturns :
    let a := entry .up 4999900 5000000 2 true
    let lost : State := { withLane [entry .up 0 100 2 false] base with vdr.air := .lost }
    (blowing [a]).sta.get (.ofRetire .airLost) ≤ 4294967295 ∧ (blowing [a, a]).piece 3 ≠ none ∧
    (blowing [a]).vdr.air = .present ∧ (blowing [a]).lanesSound ∧ lost.vdr.air = .lost ∧ lost.lanesSound ∧
    lost.activitySound ∧ lost.lnk.notices.length < 64 ∧ (lost.valve 12 .up).state = .closed ∧
    lost.firstPending 12 .up = some (entry .up 0 100 2 false) := by
  refine ⟨by decide +kernel, by decide +kernel, rfl, ?_, rfl, ?_, ?_, by decide +kernel⟩
  · unfold State.lanesSound laneSound
    decide +kernel
  · unfold State.lanesSound laneSound
    decide +kernel
  · refine elsewhere (by decide +kernel) (by decide +kernel) ?_
    intro r
    cases r <;> decide +kernel

theorem test_witness_ValveRequestsAct :
    let dis := withValve { Valve.rest with state := .disabled } base
    let a := entry .up 4999900 5000000 2 true
    Stands 0x18 [48, 0, 0] (request 0x18 [48, 0, 0] base) ∧ Stands 0x18 [12, 0, 1] (request 0x18 [12, 0, 1] dis) ∧
    47 < byteAt ([48, 0, 0] : List Byte) 0 ∧ (12 : Lane).val = byteAt ([12, 0, 1] : List Byte) 0 ∧
    (dis.valve 12 .up).state = .disabled ∧ (base.valve 12 .up).state ≠ .disabled ∧
    laneSound ((blowing [a]).lane 12) ∧ Stands 0x19 [47, 1, 0, 0, 0, 0] (request 0x19 [47, 1, 0, 0, 0, 0] base) ∧
    (47 : Lane).val = byteAt ([47, 1, 0, 0, 0, 0] : List Byte) 0 ∧ base.eng.state = .idle ∧
    (engineIn .sorting base).eng.state ≠ .idle ∧ base.vdr.air = .present ∧ base.lane 47 = [] ∧
    (base.valve 47 .down).state = .closed ∧ (blowing [a]).lane 12 ≠ [] := by
  refine ⟨stands (by decide) rfl, stands (by decide) rfl, by decide, by decide, rfl, nofun, ?_,
    stands (by decide) rfl, by decide +kernel⟩
  unfold laneSound
  decide +kernel

theorem test_witness_ReturnFrameReportsCoils :
    let s : State := { blowing [entry .up 4999900 5000000 2 true] with vdr.inFrame := true }
    let rs : List CoilReport := [⟨12, .up, .fault⟩, ⟨12, .down, .ok⟩]
    s.vdr.inFrame = true ∧ s.lanesSound ∧ (rs.map fun c => (c.lane, c.row)).Nodup ∧
    ((⟨12, .up, .fault⟩ : CoilReport) ∈ rs ∧ (s.valve 12 .up).state ≠ .disabled ∧ (s.valve 12 .up).state ≠ .faulted) ∧
    ([] : List CoilReport).Nodup ∧ s.sta.get (.ofRetire .unavailable) ≤ 4294967295 ∧ s.piece 3 ≠ none ∧
    s.lnk.notices.length < 64 := by
  unfold State.lanesSound laneSound
  decide +kernel

/-- R159: a frame that reports a FAULT of one valve twice takes it out once, with one FAULT notice. -/
theorem test_returnFrame :
    reads (.valveReturnFrame [⟨12, .up, .fault⟩, ⟨12, .up, .fault⟩] true false)
      { blowing [entry .up 4999900 5000000 2 true, entry .up 5000100 5000200 2 false] with vdr.inFrame := true }
      (fun t => ((t.valve 12 .up).state, t.sta.get (.ofRetire .unavailable), t.lnk.notices.map Notice.kind)) =
    some (.faulted, 2, [0xC3, 0xC1, 0xC4]) := by decide +kernel

theorem lastWrite_base (l : Lane) (r : Row) : lastWrite base.vdr.busWrites l r = some (base.valve l r).isOpen := by
  cases r <;> revert l <;> unfold lastWrite <;> decide +kernel

theorem test_reset_sound : base.valvesSound ∧ base.lanesSound ∧ base.activitySound := by
  refine ⟨⟨lastWrite_base, nofun⟩, ?_, test_activitySound.2⟩
  unfold State.lanesSound laneSound
  decide +kernel

theorem test_witness_LanesAndValvesStaySound :
    (∃ t, step base = .next t) ∧ base.valvesSound ∧ base.lanesSound ∧ base.activitySound :=
  ⟨⟨_, rfl⟩, test_reset_sound⟩

theorem test_witness_StartsStopsAndFlushAct :
    let ready : State := { withBank .active 0 base with blt.valid := true }
    let s := engineIn .sorting (withPiece (piece .openPiece) ready)
    Stands 0x07 [] (request 0x07 [] ready) ∧ ready.eng.state = .idle ∧ s.eng.state ≠ .idle ∧ ready.blt.valid = true ∧
    base.blt.valid = false ∧ (∃ b, (ready.bank b).state = .active) ∧ ¬ (∃ b, (base.bank b).state = .active) ∧
    Stands 0x08 [2] (request 0x08 [2] s) ∧ Stands 0x08 [0] (request 0x08 [0] s) ∧
    Stands 0x08 [1] (request 0x08 [1] (engineIn .draining s)) ∧ s.eng.state = .sorting ∧
    ready.occupied = 0 ∧ Stands 0x09 [] (request 0x09 [] s) ∧
    (∀ i p, s.piece i = some p → p.phase = .queued ∨ p.phase = .walking →
      i ∈ (match s.cls.walk with | some w => [w.slot] | none => []) ++ s.cls.queue) ∧ s.lsc.handoffs = [] ∧
    s.sta.get (.ofOutcome .abandoned) ≤ 4294967295 ∧ s.sta.get (.ofOutcome .flushed) ≤ 4294967295 ∧
    (∃ r, exec (.placePiece .classifier) insertion = .next r) ∧ (∃ r, exec .placeUntracked overflow = .next r) := by
  refine ⟨stands (by decide) rfl, rfl, nofun, rfl, rfl, by decide +kernel, by decide +kernel, stands (by decide) rfl,
    stands (by decide) rfl, stands (by decide) rfl, rfl, by decide +kernel, stands (by decide) rfl, ?_, rfl,
    by decide +kernel, by decide +kernel, ⟨_, rfl⟩, ⟨_, rfl⟩⟩
  intro i p h hp
  exfalso
  by_cases e : (3 : Slot) = i
  · subst e
    simp [engineIn, withPiece, State.piece] at h
    subst h
    revert hp
    decide
  · simp [engineIn, withPiece, State.piece, look_put, e, withBank, base, State.reset] at h

/-- The engine in a state with one OPEN piece in the table. -/
def onePiece (e : EngState) : State := engineIn e (withPiece (piece .openPiece) (withBank .active 1 base))

/-- R172, R173: the notices of an abandon in SORTING that ends the last piece, and its count. -/
theorem test_abandon :
    reads .sortStopAbandon (request 0x08 [1] (onePiece .sorting)) (fun t => (t.lnk.notices.drop 1).map Notice.kind) =
      some [0xC3, 0xC1, 0xC3] ∧
    reads .sortStopAbandon (request 0x08 [1] (onePiece .sorting)) (fun t => t.sta.get (.ofOutcome .abandoned)) =
      some 1 := by decide +kernel

/-- R179: the notices of a FLUSH in DRAINING: FLUSHED for the piece, then DRAINING to IDLE with cause FLUSH. -/
theorem test_flush :
    reads .flush (request 0x09 [] (onePiece .draining)) (fun t => (t.lnk.notices.drop 1).map Notice.body) =
      some [(piece .openPiece).noticeBody true .flushed 0, [3, 0, 4, 0, 0, 0, 0, 0, 0, 0, 0]] := by decide +kernel

theorem test_witness_FaultsAndClearAct :
    base.eng.state ≠ .sorting ∧ ¬ (FaultKind.airLost = .sensorLost) ∧ (engineIn .survey base).eng.state = .survey ∧
    (engineIn .draining base).eng.state = .draining ∧ base.lnk.notices.length + 2 ≤ 64 ∧
    (engineIn .draining base).sta.get (.ofOutcome .abandoned) ≤ 4294967295 ∧
    Stands 0x0A [] (request 0x0A [] (engineIn .halted base)) ∧ (engineIn .halted base).eng.state = .halted ∧
    0 < (engineIn .halted (withPiece (piece .scheduled) base)).occupied ∧ (engineIn .halted base).occupied = 0 ∧
    Stands 0x0B [] (request 0x0B [] base) := by
  refine ⟨nofun, nofun, rfl, rfl, by decide, by decide +kernel, stands (by decide) rfl, rfl, by decide +kernel,
    by decide +kernel, stands (by decide) rfl⟩

theorem test_witness_EngineMovesByItsTable :
    (∃ t, exec .surveyStart (request 0x0C [0, 64] base) = .next t) ∧ (∃ t, step base = .next t) ∧ base.engineSound := by
  refine ⟨⟨_, rfl⟩, ⟨_, rfl⟩, ?_⟩
  unfold State.engineSound
  decide +kernel

/-- A SET of HOLD-class and other items, the codes of LINE_TICKS, GAIN_ALL and OPEN_DELAY_US. -/
def setBody : List Byte := [1, 3, 0, 0, 0, 64, 2, 0x24, 0, 0, 0, 8, 8, 1, 0, 0, 0x13, 0x88]

theorem test_witness_SettingsRequestsAct :
    (LineId.takes .lineTicks 64 ∧ LineId.takes .lineTicks 4 ∧ (3 : Int) < (LineId.lineTicks.bounds.1 : Nat) ∧
      (LineId.lineTicks.bounds.2 : Int) < 65 ∧ (93 : Int) % 2 = 1 ∧ (93 : Int) ≤ LineId.winStart.bounds.2) ∧
    OwnId.takes .openDelay 5000 ∧ ({ base.cdu with hold := true } : Cdu).hold = true ∧
    Stands 0x03 setBody (request 0x03 setBody base) ∧ setBody.length = 6 * (2 + 1) ∧
    SettingTarget.ofCode (field setBody 0 2) = some (.line .lineTicks) ∧
    SettingTarget.ofCode (field setBody 12 2) = some (.own .openDelay) ∧
    SettingTarget.ofCode 0 = none ∧ SettingTarget.ofCode 0x0101 = some (.own .encPolarity) ∧
    (SettingTarget.own OwnId.encPolarity).idleOnly = true ∧
    Stands 0x05 [] (request 0x05 [] base) ∧ Stands 0x06 [] (request 0x06 [] base) ∧ base.cdu.hold = false := by
  unfold LineId.takes OwnId.takes
  refine ⟨by decide, by decide, rfl, stands (by decide) rfl, rfl, by decide +kernel, by decide +kernel, rfl, rfl, rfl,
    stands (by decide) rfl, stands (by decide) rfl, rfl⟩

theorem test_witness_StateHasItsOwners :
    ∃ t, exec (.encoderTransition true false) base = .next t ∧ t.bpu.pos ≠ base.bpu.pos :=
  ⟨_, rfl, by decide +kernel⟩

/-- A link frame of a request without a body, with its CRC. -/
def linkFrame : List Byte := [2, 7, 0, 0] ++ toBytes 2 (crc16 [2, 7, 0, 0]).toNat

theorem test_witness_FramesPassTheLink :
    ({ base with lnk.inFrame := true } : State).lnk.inFrame = true ∧ 4 ≤ linkFrame.length ∧
    1024 < field ([2, 7, 4, 1] : List Byte) 2 2 ∧ field linkFrame 2 2 + 6 ≤ (linkFrame ++ [0x55]).length ∧
    field linkFrame 4 2 = (crc16 (linkFrame.take 4)).toNat ∧
    field ([2, 7, 0, 0, 0, 0] : List Byte) 4 2 ≠ (crc16 (([2, 7, 0, 0, 0, 0] : List Byte).take 4)).toNat ∧
    base.lnk.inbound.length < 4 ∧
    4 ≤ ({ base with lnk.inbound := List.replicate 4 ⟨2, 7, []⟩ } : State).lnk.inbound.length ∧
    base.lnk.sending = none ∧ base.eng.resetReplySent = false ∧
    ({ base with lnk.replies := [⟨7, 0x0B, .ok, []⟩] } : State).lnk.replies = ⟨7, 0x0B, .ok, []⟩ :: [] ∧
    base.lnk.replies = [] ∧ base.lnk.notices ≠ [] ∧
    ({ base with lnk.sending := some ⟨linkFrame, true⟩ } : State).lnk.sending = some ⟨linkFrame, true⟩ := by
  decide +kernel

/-- Section 10.7: the first notice after a hard reset as a frame, kind C3, tag 0, 11 bytes of body, with its CRC worked
out from R184. -/
theorem test_noticeFrame :
    reads .transmitFrame base (fun t => t.lnk.sending.map Sending.bytes) = some (some
      [0xC3, 0, 0, 11, 0, 0, 11, 0, 0, 0, 0, 0, 0, 0, 1, 0xD9, 0x50]) := by
  decide +kernel

/-- R183: characters that follow a complete frame are ignored. -/
theorem test_trailing :
    reads (.linkFrameEnd (linkFrame ++ [0x55])) { base with lnk.inFrame := true }
      (fun t => (t.lnk.inFrame, t.lnk.inbound.length, t.sta.get .framesGood)) = some (false, 1, 1) := by
  decide +kernel

theorem test_witness_EveryRequestIsAnsweredOnce :
    (∃ mine, requestOf .sortStopDrain = some (0x08, mine) ∧ mine [0] = true ∧ mine [1] = false) ∧
    Stands 0x08 [0] (request 0x08 [0] base) ∧ bodyFits 0x08 0 = false ∧ bodyFits 0x08 1 = true ∧
    Stands 0x1F [] (request 0x1F [] base) ∧ Stands 0 [] (request 0 [] base) := by
  refine ⟨⟨_, rfl, by decide, by decide⟩, stands (by decide) rfl, by decide, by decide, stands (by decide) rfl,
    stands (by decide) rfl⟩

theorem test_witness_ReadsAnswerAndChangeNothing :
    let full : State := { base with cap.state := .full, cap.ring := [⟨0, 8, true, false, []⟩] }
    (∀ k ∈ [0x01, 0x02, 0x0E, 0x16, 0x1A], Stands k [] (request k [] base)) ∧
    Stands 0x04 [0, 0] (request 0x04 [0, 0] base) ∧ Stands 0x0F [3, 95, 1] (request 0x0F [3, 95, 1] base) ∧
    Chan.nb.index = byteAt ([3, 95, 1] : List Byte) 0 ∧ Stands 0x17 [47] (request 0x17 [47] base) ∧
    (47 : Lane).val = byteAt ([47] : List Byte) 0 ∧ 47 < byteAt ([48] : List Byte) 0 ∧
    Stands 0x1D [0, 0] (request 0x1D [0, 0] full) ∧ full.cap.state = .full ∧
    full.cap.ring[field ([0, 0] : List Byte) 0 2]? = some ⟨0, 8, true, false, []⟩ ∧
    full.cap.ring.length ≤ field ([0, 1] : List Byte) 0 2 ∧ base.cap.state ≠ .full ∧ base.blt.status ≠ .done ∧
    Stands 0x1E [5, 0] (request 0x1E [5, 0] base) ∧ Stands 0x1E [6, 0] (request 0x1E [6, 0] base) := by
  refine ⟨?_, stands (by decide) rfl, stands (by decide) rfl, by decide, stands (by decide) rfl, by decide, by decide,
    stands (by decide) rfl, rfl, by decide, by decide, nofun, nofun, stands (by decide) rfl, stands (by decide) rfl⟩
  intro k hk
  exact stands (by revert k; decide) rfl

theorem test_witness_NoticesAreJudgedAndLaidOut :
    let held := fun n : Nat => ({ base with lnk.notices := List.replicate n (.surveyEnd .done 64) } : State)
    Notice.isPiece (.load .normal .empty 0 0 0) = false ∧ (withOwn .noticeMask 7 base).own .noticeMask / 2 % 2 = 1 ∧
    base.own .noticeMask / 2 % 2 ≠ 1 ∧ (held 63).lnk.notices.length < 64 ∧ 64 ≤ (held 64).lnk.notices.length ∧
    (held 55).lnk.notices.length < 56 ∧ 56 ≤ (held 56).lnk.notices.length ∧ (65535 ≤ 65535) ∧
    (piece .scheduled).classed = none ∧ (piece .scheduled).extent = some ⟨20, 25⟩ ∧
    ({ piece .openPiece with extent := none } : Piece).extent = none ∧ (piece .openPiece).last ≠ none := by decide +kernel

/-- Section 10.8.6: the 37 bytes of a FINES notice of the record of spec/05 section 5.4.1, without and with extents
(R79: a continuation fed by missing lines alone has lines and no extents). -/
theorem test_finesBody :
    let p : Piece := { piece .openPiece with area := 3 }
    (Notice.fines p).body = [0, 0, 0x17, 0xD4, 0, 0, 4, 0, 10, 0, 0, 0, 0x0F, 0x42, 0x40, 0, 22, 0, 0, 0, 0x0F, 0x42, 0xA8,
      0, 13, 0, 13, 20, 25, 0, 0, 0, 3, 0, 0, 0, 8] ∧
    (Notice.fines { p with extent := none, area := 0 }).body = [0, 0, 0x17, 0xD4, 0, 0, 0, 0, 10, 0, 0, 0, 0x0F, 0x42, 0x40,
      0, 22, 0, 0, 0, 0x0F, 0x42, 0xA8, 0, 13, 0, 13, 0, 0, 0, 0, 0, 0, 0, 0, 0, 8] := by decide +kernel

/-- The load monitor with 255 lines of a block taken. -/
def blockEnd (occ : Nat) (st : LoadState) : State :=
  { withLine (line ⟨0, 0⟩ none) with ldm := { base.ldm with state := st, lines := 255, occupied := occ, width := 24480 } }

theorem test_witness_LoadIsMonitored :
    (withLine (line ⟨0, 0⟩ none)).ldmLines = line ⟨0, 0⟩ none :: [] ∧ base.ldm.lines + 1 < 256 ∧
    256 ≤ (blockEnd 8626 .normal).ldm.lines + 1 ∧
    ((122 + 1) * 1000 / (24480 + 96) = base.own .loadEmpty ∧ (121 + 1) * 1000 / (24480 + 96) < base.own .loadEmpty) ∧
    ((8625 + 1) * 1000 / (24480 + 96) = base.own .loadDense + 0 ∧
      base.own .loadDense < (8626 + 1) * 1000 / (24480 + 96)) := by
  refine ⟨rfl, ?_⟩
  decide +kernel

/-- The capture in POST with records still to take and a ring of a length. -/
def posting (post n : Nat) : State :=
  { withLine (line ⟨0, 0⟩ none) with
    cap := { armNow 0 post with ring := List.replicate n ⟨0, 8, true, false, []⟩ } }

theorem test_witness_LinesAreCaptured :
    (posting 1 256).capLines = line ⟨0, 0⟩ none :: [] ∧ (line ⟨0, 0⟩ none).samples = none ∧
    (line ⟨0, 0⟩ (some quiet)).samples = some quiet ∧ 256 ≤ (posting 1 256).cap.ring.length ∧
    (posting 1 255).cap.ring.length < 256 ∧ base.cap.state = .idle ∧ (armClass 0 16 0).state = .ringing ∧
    (posting 1 0).cap.state = .post ∧ (posting 1 0).cap.post = 1 ∧ 1 < (posting 2 0).cap.post ∧
    Stands 0x1B [1, 0, 0, 1, 0] (request 0x1B [1, 0, 0, 1, 0] base) ∧
    Stands 0x1B [1, 1, 16, 1, 0] (request 0x1B [1, 1, 16, 1, 0] base) ∧
    Stands 0x1B [2, 0, 0, 1, 1] (request 0x1B [2, 0, 0, 1, 1] base) ∧ 1 < byteAt ([2, 0, 0, 1, 1] : List Byte) 0 ∧
    256 < field ([2, 0, 0, 1, 1] : List Byte) 3 2 ∧ Stands 0x1C [] (request 0x1C [] base) := by
  refine ⟨rfl, rfl, rfl, by decide +kernel, by decide +kernel, rfl, rfl, rfl, rfl, by decide +kernel,
    stands (by decide) rfl, stands (by decide) rfl, stands (by decide) rfl, by decide, by decide, stands (by decide) rfl⟩

theorem test_witness_StatisticsAreCleared :
    Stands 0x1E [5, 1] (request 0x1E [5, 1] base) ∧ byteAt ([5, 1] : List Byte) 1 ≠ 0 ∧
    Stands 0x1E [6, 1] (request 0x1E [6, 1] base) ∧ 5 < byteAt ([6, 1] : List Byte) 0 ∧
    Stands 0x1E [0, 2] (request 0x1E [0, 2] base) ∧ 1 < byteAt ([0, 2] : List Byte) 1 :=
  ⟨stands (by decide) rfl, by decide, stands (by decide) rfl, by decide, stands (by decide) rfl, by decide⟩

theorem test_witness_ResetsTakeEffect :
    let s : State := { base with eng.resetPending := true, eng.resetReplySent := true }
    s.eng.resetPending = true ∧ s.eng.resetReplySent = true := ⟨rfl, rfl⟩

theorem test_reset_settingsSound : base.settingsSound := by
  unfold State.settingsSound LineId.takes OwnId.takes
  refine ⟨?_, ?_, ?_, ?_⟩
  · intro i
    rcases i with _ | _ | _ | _ | ⟨⟨⟩⟩ | ⟨⟨⟩⟩ | ⟨⟨⟩⟩ | ⟨⟨⟩⟩ | ⟨⟨⟩⟩ | _ | _ | _ <;> decide +kernel
  · intro i
    cases i <;> decide +kernel
  · intro i v h
    rcases i with _ | _ | _ | _ | ⟨⟨⟩⟩ | ⟨⟨⟩⟩ | ⟨⟨⟩⟩ | ⟨⟨⟩⟩ | ⟨⟨⟩⟩ | _ | _ | _ <;> cases h
  · intro _ i
    rcases i with _ | _ | _ | _ | ⟨⟨⟩⟩ | ⟨⟨⟩⟩ | ⟨⟨⟩⟩ | ⟨⟨⟩⟩ | ⟨⟨⟩⟩ | _ | _ | _ <;> rfl

theorem test_witness_StateStaysInItsBounds :
    (∃ t, step base = .next t) ∧ base.settingsSound ∧ base.beltSound ∧ base.linkSound ∧ base.listsSound ∧
    (∀ l, (base.valve l .up).actuations ≤ 4294967295) ∧ base.cls.walk = none ∧
    walkSound ⟨3, 0, (piece .walking).features 4, .ended .unresolved true, 24⟩ := by
  refine ⟨⟨_, rfl⟩, test_reset_settingsSound, ?_, ?_, ?_, by decide +kernel, rfl, ?_⟩
  · unfold State.beltSound
    decide +kernel
  · unfold State.linkSound
    decide +kernel
  · unfold State.listsSound
    decide +kernel
  · unfold walkSound
    refine ⟨by decide, nofun, ?_, ?_⟩
    · intro c h; cases h; exact ⟨rfl, rfl⟩
    · intro c fault h; cases h; exact ⟨nofun, by decide⟩

end Sys2Proof.Tests
end

section
/-! SUPPORT. What the shared operations can do. Every operation on pieces, entries, valves, notices and faults is a
sequence of the updates listed in `State.Touches`; what all these updates keep, such an operation keeps. -/
namespace Sys2Proof.Machine

/-! ### The updates an operation is made of -/

/-- What an update may reach that not every operation reaches. -/
inductive Part where
  | count (c : Counter)
  | flag (k : FaultKind)
  | number
  | lanes
  | valves

/-- A valve record that may take the place of another: a DISABLED valve stays DISABLED, and the actuation count stays
within its ceiling. -/
def Valve.mayBecome (v w : Valve) : Prop :=
  (v.state = .disabled → w.state = .disabled) ∧ (v.actuations ≤ 4294967295 → w.actuations ≤ 4294967295)

/-- One update of the shared operations; `A` says which of the parts it may reach. -/
inductive State.Touches (A : Part → Prop) : State → State → Prop where
  | count {s : State} (c : Counter) (n : Nat) : A (.count c) → Touches A s (s.count c n)
  | flag {s : State} (k : FaultKind) : A (.flag k) → Touches A s (s.flag k)
  | notice {s : State} (n : Notice) : n.isPiece = false → s.lnk.notices.length < 64 →
      Touches A s (s.enqueueNotice n)
  | pieceNotice {s : State} (n : Notice) : s.lnk.notices.length < 56 →
      Touches A s { s.enqueueNotice n with lnk.pendingLost := 0 }
  | noticeLost {s : State} : Touches A s { s with lnk.pendingLost := satAdd 65535 s.lnk.pendingLost 1 }
  | engine {s : State} (st : EngState) : Touches A s { s with eng.state := st }
  | survey {s : State} (st : SurveyStatus) (acc : SurveyAcc) :
      Touches A s { s with blt.status := st, blt.acc := acc }
  | free {s : State} (i : Slot) : Touches A s (s.setSlot i none)
  | piece {s : State} (i : Slot) (f : Piece → Piece) :
      (∀ p, (f p).phase = .openPiece → p.phase = .openPiece) → Touches A s (s.updatePiece i f)
  | opened {s : State} (i : Slot) (p : Piece) : A .number → s.openCount < 64 →
      Touches A s { s.setSlot i (some p) with seg.nextNumber := s.seg.nextNumber + 1 }
  | bank {s : State} (b : BankId) (f : Bank → Bank) : Touches A s (s.updateBank b f)
  | queued {s : State} (i : Slot) : s.cls.queue.length < 16 →
      Touches A s { s with cls.queue := s.cls.queue ++ [i] }
  | classifierEmptied {s : State} : Touches A s { s with cls := { queue := [], walk := none } }
  | lanes {s : State} (x : Lsc) : A .lanes → Touches A s { s with lsc := x }
  | valve {s : State} (l : Lane) (r : Row) (v : Valve) : A .valves → (s.valve l r).mayBecome v →
      Touches A s (s.setValve l r v)
  | merges {s : State} (n : Nat) : Touches A s { s with ldm.merges := n }

/-- A sequence of such updates. -/
def State.Life (A : Part → Prop) : State → State → Prop := Relation.ReflTransGen (State.Touches A)

section Life
variable {A : Part → Prop} {s t u : State}

theorem State.Touches.life (h : s.Touches A t) : s.Life A t := Relation.ReflTransGen.single h

theorem State.Life.refl (s : State) : s.Life A s := Relation.ReflTransGen.refl

theorem State.Life.trans (h : s.Life A t) (g : t.Life A u) : s.Life A u := Relation.ReflTransGen.trans h g

theorem State.Life.then (h : s.Life A t) (g : t.Touches A u) : s.Life A u := h.tail g

/-- What holds between the states around each update holds between those around a sequence. -/
theorem State.Life.lift {R : State → State → Prop} (h : s.Life A t) (hr : ∀ s, R s s)
    (ht : ∀ s t u, R s t → R t u → R s u) (hs : ∀ s t, s.Touches A t → R s t) : R s t := by
  induction h with
  | refl => exact hr s
  | tail _ g ih => exact ht _ _ _ ih (hs _ _ g)

/-- A value that no update changes stands at the end as at the start. -/
theorem State.Life.keeps {α : Type} (f : State → α) (h : s.Life A t)
    (hs : ∀ s t, s.Touches A t → f t = f s) : f t = f s :=
  h.lift (R := fun s t => f t = f s) (fun _ => rfl) (fun _ _ _ h g => g.trans h) hs

theorem State.Life.foldl {α : Type} {f : State → α → State} (h : ∀ t a, State.Life A t (f t a)) (as : List α) (s : State) :
    s.Life A (as.foldl f s) := by
  induction as generalizing s with
  | nil => exact .refl s
  | cons a as ih => exact (h s a).trans (ih _)

/-! ### What a sequence of updates leaves -/

theorem State.Touches.steady_eq (h : s.Touches A t) : t.steady = s.steady := by
  cases h with
  | valve l r v => exact s.setValve_steady l r v
  | _ => rfl

theorem State.Life.steady_eq (h : s.Life A t) : t.steady = s.steady :=
  h.keeps State.steady fun _ _ => State.Touches.steady_eq

theorem State.setValve_lsc (l : Lane) (r : Row) (v : Valve) : (s.setValve l r v).lsc = s.lsc := by
  unfold State.setValve; dsimp only; split_ifs <;> rfl

theorem State.setValve_lnk (l : Lane) (r : Row) (v : Valve) : (s.setValve l r v).lnk = s.lnk := by
  unfold State.setValve; dsimp only; split_ifs <;> rfl

theorem State.setValve_eng (l : Lane) (r : Row) (v : Valve) : (s.setValve l r v).eng = s.eng := by
  unfold State.setValve; dsimp only; split_ifs <;> rfl

theorem State.setValve_seg (l : Lane) (r : Row) (v : Valve) : (s.setValve l r v).seg = s.seg := by
  unfold State.setValve; dsimp only; split_ifs <;> rfl

theorem State.setValve_cls (l : Lane) (r : Row) (v : Valve) : (s.setValve l r v).cls = s.cls := by
  unfold State.setValve; dsimp only; split_ifs <;> rfl

theorem State.setValve_sta (l : Lane) (r : Row) (v : Valve) : (s.setValve l r v).sta = s.sta := by
  unfold State.setValve; dsimp only; split_ifs <;> rfl

theorem State.valve_setValve (l m : Lane) (r q : Row) (v : Valve) :
    (s.setValve l r v).valve m q = if l = m ∧ r = q then v else s.valve m q := by
  have h : (s.setValve l r v).vdr.valves = put s.vdr.valves l ((look s.vdr.valves l).put r v) := by
    unfold State.setValve; dsimp only; split_ifs <;> rfl
  by_cases hl : l = m
  · subst hl; simp [State.valve, h]
  · simp [State.valve, h, look_put, hl]

theorem State.Life.count_eq (h : s.Life A t) {d : Counter} (hd : ¬ A (.count d)) : t.sta.get d = s.sta.get d :=
  h.keeps (fun s => s.sta.get d) fun s t g => by
    cases g with
    | count c n hc => 
      have hne : c ≠ d := fun e => hd (e ▸ hc)
      rw [State.get_count, if_neg hne]
    | valve l r v => rw [State.setValve_sta]
    | _ => rfl

theorem FaultFlags.has_raise (f : FaultFlags) (k j : FaultKind) : (f.raise k).has j = (decide (k = j) || f.has j) := by
  cases k <;> cases j <;> rfl

theorem State.Life.flag_eq (h : s.Life A t) {k : FaultKind} (hk : ¬ A (.flag k)) :
    t.eng.flags.has k = s.eng.flags.has k :=
  h.keeps (fun s => s.eng.flags.has k) fun s t g => by
    cases g with
    | flag j hj =>
      have hne : j ≠ k := fun e => hk (e ▸ hj)
      simp [State.flag, FaultFlags.has_raise, hne]
    | valve l r v => rw [State.setValve_eng]
    | _ => rfl

theorem State.Life.lsc_eq (h : s.Life A t) (hA : ¬ A .lanes) : t.lsc = s.lsc :=
  h.keeps State.lsc fun s t g => by
    cases g with
    | lanes x hx => exact absurd hx hA
    | valve l r v => exact State.setValve_lsc l r v
    | _ => rfl

theorem State.Life.vdr_eq (h : s.Life A t) (hA : ¬ A .valves) : t.vdr = s.vdr :=
  h.keeps State.vdr fun s t g => by
    cases g with
    | valve l r v hv => exact absurd hv hA
    | _ => rfl

end Life
end Sys2Proof.Machine
end

section
/-! SUPPORT. Each shared operation as a sequence of updates (`State.Life`): notices and the engine state, the end of
pieces, faults, entries and the judgment of valves. -/
namespace Sys2Proof.Machine

/-- The counts that the end of a piece, a notice or a fault may raise. -/
def Counter.ofEnding : Counter → Bool
  | .ofClass _ => true
  | .ofOutcome _ => true
  | .noticesLost => true
  | .piecesLost => true
  | .suppressed => true
  | _ => false

/-- A set of parts that holds the counts a piece's end may raise. -/
def Endings (A : Part → Prop) : Prop := ∀ c, Counter.ofEnding c = true → A (.count c)

/-- A set of parts that holds all that a judgment of valves may reach. -/
structure Judging (A : Part → Prop) : Prop where
  endings : Endings A
  lanes : A .lanes
  valves : A .valves
  retires : ∀ r, r ≠ .guardHeld → A (.count (.ofRetire r))

section Ops
variable {A : Part → Prop} (s : State)

/-! ### Notices and the engine state -/

theorem State.offer_life (hA : Endings A) (n : Notice) (hn : n.isPiece = false) : s.Life A (s.offer n) := by
  unfold State.offer
  split_ifs with _ hroom
  · exact (State.Touches.count _ _ (hA _ rfl)).life
  · exact (State.Touches.notice n hn hroom).life
  · exact (State.Touches.count _ _ (hA _ rfl)).life

theorem State.offerPiece_life (hA : Endings A) (p : Piece) (o : PieceOutcome) : s.Life A (s.offerPiece p o) := by
  unfold State.offerPiece
  split_ifs with _ hfull
  · exact (State.Touches.count _ _ (hA _ rfl)).life
  · exact (State.Touches.count _ _ (hA _ rfl)).life.then .noticeLost
  · exact (State.Touches.pieceNotice _ (Nat.lt_of_not_le hfull)).life

theorem State.setEngine_life (hA : Endings A) (n : EngState) (c : EngCause) : s.Life A (s.setEngine n c) := by
  unfold State.setEngine
  split_ifs
  · exact .refl s
  · exact (State.Touches.engine n).life.trans (State.offer_life _ hA _ rfl)

theorem State.judgeDrained_life (hA : Endings A) : s.Life A s.judgeDrained := by
  unfold State.judgeDrained
  split_ifs
  · exact s.setEngine_life hA _ _
  · exact .refl s

/-! ### The end of a piece -/

theorem State.releaseSlot_life (i : Slot) : s.Life A (s.releaseSlot i) := by
  unfold State.releaseSlot
  split
  · exact .refl s
  · exact (State.Touches.free i).life.then (.bank _ _)

theorem State.freeSlot_life (hA : Endings A) (i : Slot) : s.Life A (s.freeSlot i) :=
  (s.releaseSlot_life i).trans (State.judgeDrained_life _ hA)

theorem State.endPiece_life (hA : Endings A) (o : PieceOutcome) (i : Slot) : s.Life A (s.endPiece o i) := by
  unfold State.endPiece
  split
  · exact .refl s
  · exact ((State.Touches.count _ _ (hA _ rfl)).life.trans (State.offerPiece_life _ hA _ _)).trans
      (State.releaseSlot_life _ i)

theorem State.abandonAll_life (hA : Endings A) (is : List Slot) : s.Life A (s.abandonAll is) :=
  .foldl (fun t i => (t.endPiece_life hA _ i).trans (State.judgeDrained_life _ hA)) is s

theorem State.flushAll_life (hA : Endings A) (is : List Slot) : s.Life A (s.flushAll is) :=
  .foldl (fun t i => t.endPiece_life hA _ i) is s

theorem State.abandonOpen_life (hA : Endings A) : s.Life A s.abandonOpen := s.abandonAll_life hA _

theorem State.abandonClassifier_life (hA : Endings A) : s.Life A s.abandonClassifier :=
  State.Touches.classifierEmptied.life.trans (State.abandonAll_life _ hA _)

theorem State.complete_life (hA : Endings A) (i : Slot) : s.Life A (s.complete i) := by
  unfold State.complete
  split
  · exact .refl s
  · next p _ =>
    split
    · exact .refl s
    · next c _ =>
      have report : s.Life A (if c.terms.report then s.offerPiece p (p.tallies.outcome c.dest)
          else s.count .suppressed 1) := by
        split_ifs
        · exact s.offerPiece_life hA _ _
        · exact (State.Touches.count _ _ (hA _ rfl)).life
      exact ((report.then (.count _ _ (hA _ rfl))).then (.count _ _ (hA _ rfl))).trans
        (State.freeSlot_life _ hA i)

theorem State.completeIfDone_life (hA : Endings A) (i : Slot) : s.Life A (s.completeIfDone i) := by
  unfold State.completeIfDone
  split
  · split_ifs
    · exact s.complete_life hA i
    · exact .refl s
  · exact .refl s

/-! ### Faults -/

theorem State.abortSurvey_life (hA : Endings A) (c : EngCause) : s.Life A (s.abortSurvey c) :=
  ((State.Touches.survey .aborted SurveyAcc.zero).life.trans (State.offer_life _ hA _ rfl)).trans
    (State.setEngine_life _ hA _ _)

theorem State.haltBy_life (hA : Endings A) (k : FaultKind) (hk : A (.flag k)) : s.Life A (s.haltBy k) :=
  ((((State.Touches.flag k hk).life.trans (State.offer_life _ hA _ rfl)).trans
    (State.setEngine_life _ hA _ _)).trans (State.abandonOpen_life _ hA)).trans (State.abandonClassifier_life _ hA)

theorem State.raiseFault_life (hA : Endings A) (k : FaultKind) (hk : A (.flag k)) : s.Life A (s.raiseFault k) := by
  unfold State.raiseFault
  have flagged : s.Life A (s.flag k) := (State.Touches.flag k hk).life
  split_ifs
  · exact s.haltBy_life hA k hk
  · exact (flagged.trans (State.offer_life _ hA _ rfl)).trans (State.abortSurvey_life _ hA _)
  · exact flagged.trans (State.offer_life _ hA _ rfl)

/-! ### Entries -/

theorem State.updatePiece_life (i : Slot) (f : Piece → Piece)
    (hf : ∀ p, (f p).phase = .openPiece → p.phase = .openPiece) : s.Life A (s.updatePiece i f) :=
  (State.Touches.piece i f hf).life

theorem State.tallyOwner_life (o : Option (Slot × PieceNo)) (f : Piece → Piece) (hf : ∀ p, (f p).phase = p.phase) :
    s.Life A (s.tallyOwner o f) := by
  unfold State.tallyOwner
  split
  · exact s.updatePiece_life _ f fun p h => (hf p) ▸ h
  · exact .refl s

theorem State.ownerDone_life (hA : Endings A) (o : Option (Slot × PieceNo)) : s.Life A (s.ownerDone o) := by
  unfold State.ownerDone
  split
  · exact s.completeIfDone_life hA _
  · exact .refl s

theorem State.setLane_life (hl : A .lanes) (l : Lane) (es : List Entry) : s.Life A (s.setLane l es) :=
  (State.Touches.lanes _ hl).life

/-- What the retirement of an entry does beside the lane and the reason's count. -/
theorem State.retire_tail_life (hA : Endings A) (l : Lane) (e : Entry) (r : RetireReason) :
    ((s.setLane l ((s.lane l).erase e)).count (.ofRetire r) 1).Life A (s.retire l e r) := by
  unfold State.retire
  generalize (s.setLane l ((s.lane l).erase e)).count (.ofRetire r) 1 = t
  exact (t.tallyOwner_life e.owner (Piece.retireOne r) fun _ => rfl).trans (State.ownerDone_life _ hA e.owner)

theorem State.retire_life (hA : Endings A) (hl : A .lanes) (l : Lane) (e : Entry) (r : RetireReason)
    (hr : A (.count (.ofRetire r))) : s.Life A (s.retire l e r) :=
  ((s.setLane_life hl l _).then (.count _ _ hr)).trans (s.retire_tail_life hA l e r)

theorem State.retire_vdr (l : Lane) (e : Entry) (r : RetireReason) : (s.retire l e r).vdr = s.vdr :=
  (s.retire_life (A := fun x => x ≠ .valves) (fun _ _ => nofun) nofun l e r nofun).vdr_eq fun h => h rfl

theorem State.retire_valve (l m : Lane) (e : Entry) (r : RetireReason) (q : Row) :
    (s.retire l e r).valve m q = s.valve m q := by
  simp only [State.valve, State.retire_vdr]

theorem State.retire_lane (l m : Lane) (e : Entry) (r : RetireReason) :
    (s.retire l e r).lane m = if l = m then (s.lane l).erase e else s.lane m := by
  have h := (s.retire_tail_life (A := fun x => x ≠ .lanes) (fun _ _ => nofun) l e r).lsc_eq fun h => h rfl
  calc (s.retire l e r).lane m = (s.setLane l ((s.lane l).erase e)).lane m := by
        simp only [State.lane, h, State.count_lsc]
    _ = _ := s.lane_setLane l m _

/-! ### Valves -/

theorem State.setValve_life (hv : A .valves) (l : Lane) (r : Row) (v : Valve) (h : (s.valve l r).mayBecome v) :
    s.Life A (s.setValve l r v) :=
  (State.Touches.valve l r v hv h).life

theorem Valve.mayBecome_of_running {v w : Valve} (h : v.state ≠ .disabled) (ha : w.actuations = v.actuations) :
    v.mayBecome w := ⟨fun g => absurd g h, fun g => ha ▸ g⟩

theorem Valve.recovering_actuations (v : Valve) (n : Nat) : (v.recovering n).actuations = v.actuations := by
  unfold Valve.recovering; split_ifs <;> rfl

theorem State.enterRecover_life (hv : A .valves) (l : Lane) (r : Row) (h : (s.valve l r).state ≠ .disabled) :
    s.Life A (s.enterRecover l r) :=
  s.setValve_life hv l r _ (Valve.mayBecome_of_running h (Valve.recovering_actuations _ _))

theorem State.openFor_life (hl : A .lanes) (hv : A .valves) (l : Lane) (r : Row) (e : Entry) (late : Bool)
    (h : (s.valve l r).state ≠ .disabled) : s.Life A (s.openFor l r e late) :=
  (s.setValve_life hv l r _ ⟨fun g => absurd g h, fun _ => Nat.min_le_left _ _⟩).then (.lanes _ hl)

theorem State.closeEntry_life (hA : Judging A) (l : Lane) (r : Row) (e : Entry)
    (h : (s.valve l r).state ≠ .disabled) : s.Life A (s.closeEntry l r e) := by
  have hr : A (.count (.ofRetire (if e.lateStart then .firedLate else .fired))) :=
    hA.retires _ (by split_ifs <;> nofun)
  unfold State.closeEntry
  dsimp only
  generalize (if e.lateStart then RetireReason.firedLate else .fired) = reason at hr
  have retired := s.retire_life hA.endings hA.lanes l e reason hr
  have recovers := (s.retire l e reason).enterRecover_life hA.valves l r (by rwa [State.retire_valve])
  split
  · split_ifs
    · exact retired.trans (State.setLane_life _ hA.lanes l _)
    · exact retired.trans recovers
  · exact retired.trans recovers

/-! ### The judgment of a valve -/

/-- The cases of a step of a judgment: an entry whose close trigger is reached before it could be served is retired,
the served entry closes, or a CLOSED valve opens for the first PENDING entry. -/
theorem State.judgeStep_cases {l : Lane} {r : Row} {o : Opening} {p : Bool} {x : State × Bool}
    (h : s.judgeStep l r o p = some x) :
    (∃ e reason, s.missedPending l r = some e ∧ x.1 = s.retire l e reason ∧ reason ≠ .guardHeld ∧
      (s.valve l r).state ≠ .disabled) ∨
    (∃ e, s.activeEntry l r = some e ∧ x.1 = s.closeEntry l r e ∧ (s.valve l r).state = .opened) ∨
    ∃ e late, s.firstPending l r = some e ∧ x.1 = s.openFor l r e late ∧ (s.valve l r).state = .closed := by
  have missed : ∀ reason, reason ≠ .guardHeld → (s.valve l r).state ≠ .disabled →
      (s.missedPending l r).map (fun e => (s.retire l e reason, p)) = some x →
      ∃ e reason, s.missedPending l r = some e ∧ x.1 = s.retire l e reason ∧ reason ≠ .guardHeld ∧
        (s.valve l r).state ≠ .disabled := by
    intro reason hr hd hm
    obtain ⟨e, he, rfl⟩ := Option.map_eq_some_iff.mp hm
    exact ⟨e, reason, he, rfl, hr, hd⟩
  unfold State.judgeStep at h
  dsimp only at h
  split at h
  · next hv =>
    split at h
    · split at h
      · next e he =>
        split_ifs at h
        cases h
        exact .inr (.inl ⟨e, he, rfl, hv⟩)
      · cases h
    · exact .inl (missed .recoverMiss nofun (by simp [hv]) h)
    · cases h
  · next hv => exact .inl (missed .recoverMiss nofun (by simp [hv]) h)
  · next hv =>
    split at h
    · exact .inl (missed .airLost nofun (by simp [hv]) h)
    · split at h
      · next e he =>
        split_ifs at h
        cases h
        exact .inr (.inr ⟨e, _, he, rfl, hv⟩)
      · cases h
  · cases h
  · cases h

theorem State.judgeStep_life (hA : Judging A) {l : Lane} {r : Row} {o : Opening} {p : Bool} {x : State × Bool}
    (h : s.judgeStep l r o p = some x) : s.Life A x.1 := by
  obtain ⟨e, reason, _, hx, hr, _⟩ | ⟨e, _, hx, hv⟩ | ⟨e, late, _, hx, hv⟩ := s.judgeStep_cases h
  · exact hx ▸ s.retire_life hA.endings hA.lanes l e reason (hA.retires _ hr)
  · exact hx ▸ s.closeEntry_life hA l r e (by simp [hv])
  · exact hx ▸ s.openFor_life hA.lanes hA.valves l r e late (by simp [hv])

theorem State.judgeLoop_life (hA : Judging A) (l : Lane) (r : Row) (o : Opening) (n : Nat) (p : Bool) :
    s.Life A (s.judgeLoop l r o n p) := by
  induction n generalizing s p with
  | zero => exact .refl s
  | succ n ih =>
    unfold State.judgeLoop
    split
    · next t q h => exact (s.judgeStep_life hA h).trans (ih t q)
    · exact .refl s

theorem State.judge_life (hA : Judging A) (l : Lane) (r : Row) (o : Opening) : s.Life A (s.judge l r o) :=
  s.judgeLoop_life hA l r o _ _

theorem State.judgeAll_life (hA : Judging A) (o : Opening) : s.Life A (s.judgeAll o) :=
  .foldl (fun t _ => t.judge_life hA _ _ o) _ s

theorem State.retireGuards_life (hA : Endings A) (hl : A .lanes) (hg : A (.count (.ofRetire .guardHeld))) :
    s.Life A s.retireGuards :=
  .foldl (fun t _ => .foldl (fun u e => u.retire_life hA hl _ e _ hg) _ t) _ s

theorem State.retireRow_life (hA : Judging A) (l : Lane) (r : Row) : s.Life A (s.retireRow l r) :=
  .foldl (fun t e => t.retire_life hA.endings hA.lanes l e .unavailable (hA.retires _ nofun)) _ s

theorem State.takeOut_life (hA : Judging A) (l : Lane) (r : Row) (st : ValveState)
    (h : (s.valve l r).state = .disabled → st = .disabled) : s.Life A (s.takeOut l r st) :=
  (s.setValve_life hA.valves l r ((s.valve l r).idleIn st) ⟨h, id⟩).trans (State.retireRow_life _ hA l r)

end Ops
end Sys2Proof.Machine
end

section
/-! SUPPORT. The placements, the segmenter's line and the operations of the valves and of the engine as sequences of
updates (`State.Life`). -/
namespace Sys2Proof.Machine

/-- A set of parts that holds all that a placement may reach: what a judgment reaches, and every count. -/
structure Placing (A : Part → Prop) : Prop extends Judging A where
  counts : ∀ c, A (.count c)

section Ops
variable {A : Part → Prop} (hA : Placing A) (s : State)
include hA

/-! ### Placing an entry -/

theorem State.countAny_life (c : Counter) (n : Nat) : s.Life A (s.count c n) :=
  (State.Touches.count c n (hA.counts c)).life

/-- A tally of an owner and a count. -/
theorem State.tallyCount_life (o : Option (Slot × PieceNo)) (f : Piece → Piece) (hf : ∀ p, (f p).phase = p.phase)
    (c : Counter) (n : Nat) : s.Life A ((s.tallyOwner o f).count c n) :=
  (s.tallyOwner_life o f hf).then (.count c n (hA.counts c))

theorem State.cutEntry_life (l : Lane) (e : Entry) (fs : List Fragment) : s.Life A (s.cutEntry l e fs) := by
  have tallied := s.tallyCount_life hA e.owner Piece.tallyTrimmed (fun _ => rfl) .trimmed 1
  unfold State.cutEntry
  dsimp only
  generalize (s.tallyOwner e.owner Piece.tallyTrimmed).count .trimmed 1 = t at tallied
  split
  · exact ((tallied.trans (t.setLane_life hA.lanes l _)).trans
      (State.tallyOwner_life _ e.owner Piece.loseEntry fun _ => rfl)).trans
      (State.ownerDone_life _ hA.endings e.owner)
  · exact tallied.trans (t.setLane_life hA.lanes l _)
  · split_ifs
    · exact (tallied.trans (t.setLane_life hA.lanes l _)).trans
        (State.tallyOwner_life _ e.owner Piece.gainEntry fun _ => rfl)
    · exact (tallied.trans (t.setLane_life hA.lanes l _)).trans
        (State.tallyCount_life hA _ e.owner Piece.tallyFull (fun _ => rfl) .droppedFull 1)

theorem State.meetEntry_life (l : Lane) (n : Proposal) (e : Entry) (fs : List Fragment) :
    s.Life A (s.meetEntry l n e fs).2 := by
  unfold State.meetEntry
  split_ifs
  · exact s.tallyOwner_life n.owner Piece.tallyShared fun _ => rfl
  · exact s.tallyCount_life hA n.owner Piece.tallyTrimmed (fun _ => rfl) .trimmed 1
  · exact s.cutEntry_life hA l e fs

theorem State.meetEntries_life (l : Lane) (n : Proposal) (es : List Entry) (fs : List Fragment) :
    s.Life A (s.meetEntries l n es fs).2 := by
  induction es generalizing s fs with
  | nil => exact .refl s
  | cons e es ih => exact (s.meetEntry_life hA l n e fs).trans (ih _ _)

theorem State.insertFragment_life (l : Lane) (n : Proposal) (f : Fragment) :
    s.Life A (s.insertFragment l n f) := by
  unfold State.insertFragment
  dsimp only
  split_ifs
  · exact ((s.setLane_life hA.lanes l _).trans
      (State.tallyCount_life hA _ n.owner Piece.gainEntry (fun _ => rfl) .placed 1)).trans
      (State.countAny_life hA _ .anonymous 1)
  · exact (s.setLane_life hA.lanes l _).trans
      (State.tallyCount_life hA _ n.owner Piece.gainEntry (fun _ => rfl) .placed 1)
  · exact s.tallyCount_life hA n.owner Piece.tallyFull (fun _ => rfl) .droppedFull 1

theorem State.settleFragment_life (l : Lane) (n : Proposal) (rd : Reading) (f : Fragment) :
    s.Life A (s.settleFragment l n rd f) := by
  unfold State.settleFragment
  split
  · exact s.insertFragment_life hA l n _
  · exact s.tallyCount_life hA n.owner Piece.tallyLate (fun _ => rfl) .droppedLate 1

theorem State.propose_life (l : Lane) (n : Proposal) (rd : Reading) : s.Life A (s.propose l n rd) :=
  (s.meetEntries_life hA l n _ _).trans (.foldl (fun t f => t.settleFragment_life hA l n rd f) _ _)

/-! ### Placing a piece and untracked runs -/

theorem State.judgeChanged_life (b : State) : s.Life A (b.judgeChanged s) :=
  .foldl (fun t v => by
    split_ifs
    · exact .refl t
    · exact t.judge_life hA.toJudging _ _ _) _ s

theorem State.proposeOrLate_life (l : Lane) (n : Proposal) (rd : Reading) : s.Life A (s.proposeOrLate l n rd) := by
  unfold State.proposeOrLate
  split_ifs
  · exact (s.tallyOwner_life n.owner Piece.tallyPlanned fun _ => rfl).trans (State.propose_life hA _ l n rd)
  · exact s.tallyCount_life hA n.owner Piece.tallyLate (fun _ => rfl) .droppedLate 1

theorem State.proposeBlow_life (l : Lane) (r : Row) (n : Proposal) (rd : Reading) :
    s.Life A (s.proposeBlow l r n rd) := by
  unfold State.proposeBlow
  split_ifs
  · exact s.proposeOrLate_life hA l n rd
  · exact s.tallyOwner_life n.owner Piece.tallyUnavailable fun _ => rfl

theorem State.placePiece_life (i : Slot) (p : Piece) (c : Classification) (a b : Nat) (x : Run) :
    s.Life A (s.placePiece i p c a b x) := by
  have fresh : s.Life A (s.updatePiece i fun q => { q with tallies := {}, pendingEntries := 0 }) :=
    s.updatePiece_life i _ fun _ h => h
  unfold State.placePiece
  dsimp only
  refine State.Life.trans (State.Life.trans ?placed (State.completeIfDone_life _ hA.endings i))
    (State.judgeChanged_life hA _ s)
  case placed =>
    split
    · exact fresh.trans (.foldl (fun t l => t.proposeBlow_life hA l _ _ _) _ _)
    · split_ifs
      · exact fresh
      · exact fresh.trans (.foldl (fun t l => t.proposeOrLate_life hA l _ _) _ _)

theorem State.placeOverflow_life (l : Lane) (r : Row) (a b : Nat) (rd : Reading) :
    s.Life A (s.placeOverflow l r a b rd) := by
  unfold State.placeOverflow
  dsimp only
  split
  · split_ifs
    · exact (s.setLane_life hA.lanes l _).trans (State.propose_life hA _ l _ rd)
    · exact s.setLane_life hA.lanes l _
  · exact s.propose_life hA l _ rd

theorem State.placeUntracked_life (a b : Nat) (rs : List Run) : s.Life A (s.placeUntracked a b rs) := by
  unfold State.placeUntracked
  split
  · exact .refl s
  · refine State.Life.trans (.foldl (fun t l => ?_) _ s) (State.judgeChanged_life hA _ s)
    split_ifs
    · exact t.placeOverflow_life hA l _ _ _ _
    · exact t.countAny_life hA .droppedLate 1
    · exact .refl t

theorem State.placeHandoff_life (h : Handoff) : s.Life A (s.placeHandoff h) := by
  unfold State.placeHandoff
  split
  · exact s.placeUntracked_life hA _ _ _
  · split
    · split
      · split_ifs
        · exact s.placePiece_life hA _ _ _ _ _ _
        · exact .refl s
      · exact .refl s
    · exact .refl s

theorem State.placeAllHandoffs_life : s.Life A s.placeAllHandoffs :=
  State.Life.trans (State.Touches.lanes { s.lsc with handoffs := [] } hA.lanes).life
    (.foldl (fun t h => t.placeHandoff_life hA h) _ _)

omit hA in
theorem State.handOff_life (hl : A .lanes) (h : Handoff) : s.Life A (s.handOff h) :=
  (State.Touches.lanes _ hl).life

omit hA in
theorem State.dropHandoff_life (hl : A .lanes) (h : Handoff) : s.Life A (s.dropHandoff h) :=
  (State.Touches.lanes _ hl).life

/-! ### The segmenter's line -/

theorem State.openPiece_life (hn : A .number) {f : List Run} {c : Bool} {x : Slot × State}
    (h : s.openPiece f c = some x) : s.Life A x.2 := by
  unfold State.openPiece at h
  split at h
  · next i b _ _ =>
    split_ifs at h with hroom
    cases h
    exact ((State.Touches.opened i _ hn hroom).life.then (.bank b Bank.pin)).trans
      (State.countAny_life hA _ .opened 1)
  · cases h

theorem State.absorb_life (into i : Slot) : s.Life A (State.absorb into s i) := by
  unfold State.absorb
  split
  · exact .refl s
  · next q _ =>
    exact (((s.updatePiece_life into (Piece.combine q) fun _ h => h).trans
      (State.countAny_life hA _ .absorbed 1)).trans (State.freeSlot_life _ hA.endings i)).then (.merges _)

omit hA s in
theorem Piece.accumulateAll_phase (m : Nat) (sm : Samples) (seg : Run) (p : Piece) :
    (p.accumulateAll m sm seg).phase = p.phase := by
  unfold Piece.accumulateAll
  induction seg.cells generalizing p with
  | nil => rfl
  | cons c cs ih =>
    rw [List.foldl_cons, ih]
    split <;> rfl

omit hA s in
theorem Piece.receive_phase (ln : Line) (seg : Run) (p : Piece) : (p.receive ln seg).phase = p.phase := by
  unfold Piece.receive
  dsimp only
  split
  · exact p.accumulateAll_phase _ _ seg
  · rfl

omit hA in
theorem State.receive_life (ln : Line) (seg : Run) (i : Slot) : s.Life A (s.updatePiece i (Piece.receive ln seg)) :=
  s.updatePiece_life i _ fun p h => p.receive_phase ln seg ▸ h

theorem Linking.link_life (hn : A .number) (ln : Line) (eng : EngState) (k : Linking) (seg : Run) :
    k.state.Life A (Linking.link ln eng k seg).state := by
  have leaves : k.state.Life A (k.leave seg).state := k.state.countAny_life hA .untracked seg.width
  unfold Linking.link
  split
  · split_ifs
    · split
      · next i t h => exact (k.state.openPiece_life hA hn h).trans (t.receive_life ln seg i)
      · exact leaves
    · exact leaves
  · exact k.state.receive_life ln seg _
  · exact (State.Life.foldl (fun t j => t.absorb_life hA _ j) _ k.state).trans (State.receive_life _ ln seg _)

theorem Linking.fold_life (hn : A .number) (ln : Line) (eng : EngState) (segs : List Run) (k : Linking) :
    k.state.Life A (segs.foldl (Linking.link ln eng) k).state := by
  induction segs generalizing k with
  | nil => exact .refl _
  | cons a as ih => exact (Linking.link_life hA hn ln eng k a).trans (ih _)

theorem State.fines_life (i : Slot) (p : Piece) : s.Life A (s.fines i p) := by
  have freed : s.Life A ((s.freeSlot i).count .fines 1) :=
    (s.freeSlot_life hA.endings i).trans (State.countAny_life hA _ .fines 1)
  unfold State.fines
  dsimp only
  split_ifs
  · exact freed.trans (State.offer_life _ hA.endings _ rfl)
  · exact freed.trans (State.countAny_life hA _ .finesSuppressed 1)

omit hA s in
theorem Piece.overflowed_phase (d : Dest) (n : Nat) (p : Piece) : (p.overflowed d n).phase = .scheduled := rfl

theorem State.closePiece_life (i : Slot) (p : Piece) : s.Life A (s.closePiece i p) := by
  unfold State.closePiece
  split_ifs with _ hroom
  · exact s.fines_life hA i p
  · exact (s.updatePiece_life i (fun q => { q with phase := .queued, front := [] }) (by simp)).then
      (.queued i hroom)
  · exact (s.updatePiece_life i _ (by simp [Piece.overflowed_phase])).trans (State.handOff_life _ hA.lanes _)

theorem State.dispose_life (hn : A .number) (eng : EngState) (i : Slot) : s.Life A (State.dispose eng s i) := by
  unfold State.dispose
  split
  · exact .refl s
  · next p _ =>
    have closed := s.closePiece_life hA i p
    dsimp only
    split_ifs
    · split
      · next h => exact closed.trans (State.openPiece_life hA _ hn h)
      · exact closed
    · exact closed

omit hA s in
theorem Piece.endLine_phase (ln : Line) (p : Piece) : (p.endLine ln).1.phase = p.phase := by
  unfold Piece.endLine
  dsimp only
  split_ifs <;> rfl

omit hA in
theorem State.endLineAll_life (ln : Line) : s.Life A (s.endLineAll ln) :=
  .foldl (fun t i => t.updatePiece_life i _ fun p h => p.endLine_phase ln ▸ h) _ s

theorem State.segmentLine_life (hn : A .number) (ln : Line) : s.Life A (s.segmentLine ln) := by
  have linked : s.Life A ((segmentsOf ln.marks).foldl (Linking.link ln s.eng.state) ⟨s, s.matchSet, []⟩).state :=
    Linking.fold_life hA hn ln s.eng.state (segmentsOf ln.marks) ⟨s, s.matchSet, []⟩
  have disposed (t : State) (is : List Slot) : t.Life A (is.foldl (State.dispose s.eng.state) t) :=
    .foldl (fun t i => t.dispose_life hA hn s.eng.state i) is t
  unfold State.segmentLine
  dsimp only
  split_ifs
  · exact (linked.trans (State.endLineAll_life _ ln)).trans (disposed _ _)
  · exact ((linked.trans (State.endLineAll_life _ ln)).trans (disposed _ _)).trans
      (State.handOff_life _ hA.lanes _)

/-! ### Valves -/

theorem State.truncate_life (l : Lane) (r : Row) (h : (s.valve l r).state = .opened) :
    s.Life A (s.truncate l r) := by
  have recovers := s.enterRecover_life hA.valves l r (by simp [h])
  unfold State.truncate
  dsimp only
  refine State.Life.trans ?_ (State.judge_life _ hA.toJudging l r .late)
  split
  · exact recovers.trans (State.retire_life _ hA.endings hA.lanes l _ .truncated (hA.retires _ nofun))
  · exact recovers

theorem State.endRecover_life (l : Lane) (r : Row) (h : (s.valve l r).state = .recover) :
    s.Life A (s.endRecover l r) :=
  (s.setValve_life hA.valves l r ((s.valve l r).idleIn .closed) (Valve.mayBecome_of_running (by simp [h]) rfl)).trans
    (State.judge_life _ hA.toJudging l r .late)

theorem State.endPulse_life (l : Lane) (r : Row) (h : (s.valve l r).state = .opened) :
    s.Life A (s.endPulse l r) :=
  (s.enterRecover_life hA.valves l r (by simp [h])).trans (State.judge_life _ hA.toJudging l r .late)

theorem State.loseAirAt_life (l : Lane) (r : Row) : s.Life A (s.loseAirAt l r) := by
  unfold State.loseAirAt
  split_ifs with h
  · have closes : s.Life A (s.setValve l r ((s.valve l r).idleIn .closed)) :=
      s.setValve_life hA.valves l r _ (Valve.mayBecome_of_running (by simp [h]) rfl)
    dsimp only
    split
    · exact closes.trans (State.retire_life _ hA.endings hA.lanes l _ .airLost (hA.retires _ nofun))
    · exact closes
  · exact .refl s

theorem State.takeReport_life (hk : A (.flag .valveFault)) (c : CoilReport) : s.Life A (s.takeReport c) := by
  have reported : s.Life A (s.setValve c.lane c.row { s.valve c.lane c.row with coil := c.coil }) :=
    s.setValve_life hA.valves c.lane c.row _ ⟨fun h => h, fun h => h⟩
  unfold State.takeReport
  dsimp only
  split_ifs with h
  · refine (reported.trans (State.takeOut_life _ hA.toJudging _ _ .faulted fun hd => ?_)).trans
      (State.raiseFault_life _ hA.endings .valveFault hk)
    have hserv := h.2
    simp only [State.valve_setValve, and_self, if_true] at hd
    simp [hd, ValveState.inService] at hserv
  · exact reported

theorem State.disable_life (l : Lane) (r : Row) : s.Life A (s.disable l r) := by
  unfold State.disable
  split_ifs
  · exact .refl s
  · exact s.takeOut_life hA.toJudging l r .disabled fun _ => rfl

/-! ### The engine -/

theorem State.stopDrain_life : s.Life A s.stopDrain := by
  unfold State.stopDrain
  split_ifs
  · exact (s.setEngine_life hA.endings _ _).trans (State.judgeDrained_life _ hA.endings)
  · exact .refl s

theorem State.stopAbandon_life : s.Life A s.stopAbandon := by
  have draining : s.Life A (if s.eng.state = .sorting then s.setEngine .draining .stopAbandon else s) := by
    split_ifs
    · exact s.setEngine_life hA.endings _ _
    · exact .refl s
  exact ((draining.trans (State.abandonOpen_life _ hA.endings)).trans
    (State.abandonClassifier_life _ hA.endings)).trans (State.judgeDrained_life _ hA.endings)

theorem State.flushValve_life (l : Lane) (r : Row) : s.Life A (s.flushValve l r) := by
  unfold State.flushValve
  split_ifs with h
  · exact s.enterRecover_life hA.valves l r (by simp [h])
  · exact .refl s

theorem State.flushValves_life : s.Life A s.flushValves := by
  have closing (vs : List (Lane × Row)) : s.Life A (vs.foldl (fun (u : State) v => u.flushValve v.1 v.2) s) :=
    .foldl (fun t v => t.flushValve_life hA v.1 v.2) vs s
  unfold State.flushValves
  have closes := closing valveOrder
  generalize valveOrder.foldl (fun (u : State) v => u.flushValve v.1 v.2) s = t at closes ⊢
  exact (closes.trans (.foldl (fun t i => t.updatePiece_life i Piece.withoutEntries fun _ h => h) _ t)).trans
    (State.flushAll_life _ hA.endings _)

theorem State.endDraining_life : s.Life A s.endDraining := by
  unfold State.endDraining
  split_ifs
  · exact s.setEngine_life hA.endings _ _
  · exact .refl s

theorem State.flushClassifier_life : s.Life A s.flushClassifier :=
  State.Touches.classifierEmptied.life.trans (State.flushAll_life _ hA.endings _)

theorem State.flushed_life : s.Life A s.flushed :=
  (((((s.placeAllHandoffs_life hA).trans (State.flushAll_life _ hA.endings _)).trans
    (State.flushClassifier_life hA _)).then (.lanes _ hA.lanes)).trans (State.flushValves_life hA _)).trans
    (State.endDraining_life hA _)

end Ops
end Sys2Proof.Machine
end

section
/-! SUPPORT. What a command keeps (`State.Kept`): the state that is another's, but where the command is its owner, and
the bounds of settings, belt values, queues, lists, counts and walks. The shared operations keep it all. -/
namespace Sys2Proof.Machine

/-! ### The relation -/

/-- The bounds of `State.linkSound` but for the replies. -/
def State.queuesSound (s : State) : Prop :=
  s.lnk.inbound.length ≤ 4 ∧ s.lnk.notices.length ≤ 64 ∧ (s.lnk.notices.filter Notice.isPiece).length ≤ 56 ∧
    s.lnk.pendingLost ≤ 65535

/-- The walk in progress is within the limit of R99. -/
def State.walksSound (s : State) : Prop := ∀ w, s.cls.walk = some w → walkSound w

/-- What a part of the command `c` keeps from one state to the next: each value that is not the command's own, and each
bound. `n` is the number of replies that may wait. A field not given is one of unchanged state. -/
structure State.Kept (c : Instr) (n : Nat) (s t : State) : Prop where
  pending : t.pending = s.pending := by rfl
  pos : (∃ a b, c = .encoderTransition a b) ∨ t.bpu.pos = s.bpu.pos := by exact .inr rfl
  speed : c = .speedUpdate ∨ t.bpu.speed = s.bpu.speed := by exact .inr rfl
  cdu : (c = .set ∨ c = .hold ∨ c = .release) ∨ t.cdu = s.cdu := by exact .inr rfl
  baseline : (c = .bltTakeLine ∨ c = .baselineWrite) ∨ t.blt.baseline = s.blt.baseline := by exact .inr rfl
  refLevel : c = .bltTakeLine ∨ t.blt.refLevel = s.blt.refLevel := by exact .inr rfl
  valid : s.blt.valid = true → t.blt.valid = true := by exact fun h => h
  number : c = .segTakeLine ∨ t.seg.nextNumber = s.seg.nextNumber := by exact .inr rfl
  generation : c = .recipeCommit ∨ t.rcs.generation = s.rcs.generation := by exact .inr rfl
  flags : c = .clear ∨ ∀ k, s.eng.flags.has k = true → t.eng.flags.has k = true := by exact .inr fun _ h => h
  disabled : c = .valveEnable ∨ ∀ l r, (s.valve l r).state = .disabled → (t.valve l r).state = .disabled := by
    exact .inr fun _ _ h => h
  rate : t.lnk.rate = s.lnk.rate := by rfl
  settings : s.settingsSound → t.settingsSound := by exact fun h => h
  belt : s.settingsSound → s.beltSound → t.beltSound := by exact fun _ h => h
  queues : s.queuesSound → t.queuesSound := by exact fun h => h
  replies : s.lnk.replies.length ≤ n → t.lnk.replies.length ≤ n := by exact fun h => h
  lists : s.listsSound → t.listsSound := by exact fun h => h
  counts : s.countsSound → t.countsSound := by exact fun h => h
  walks : s.walksSound → t.walksSound := by exact fun h => h

section Kept
variable {A : Part → Prop} {c : Instr} {n : Nat} {s t u : State}

theorem State.Kept.refl (s : State) : s.Kept c n s where

theorem State.Kept.trans (h : s.Kept c n t) (g : t.Kept c n u) : s.Kept c n u where
  pending := g.pending.trans h.pending
  pos := h.pos.elim .inl fun e => g.pos.imp_right (·.trans e)
  speed := h.speed.elim .inl fun e => g.speed.imp_right (·.trans e)
  cdu := h.cdu.elim .inl fun e => g.cdu.imp_right (·.trans e)
  baseline := h.baseline.elim .inl fun e => g.baseline.imp_right (·.trans e)
  refLevel := h.refLevel.elim .inl fun e => g.refLevel.imp_right (·.trans e)
  valid := g.valid ∘ h.valid
  number := h.number.elim .inl fun e => g.number.imp_right (·.trans e)
  generation := h.generation.elim .inl fun e => g.generation.imp_right (·.trans e)
  flags := h.flags.elim .inl fun e => g.flags.imp_right fun f k hk => f k (e k hk)
  disabled := h.disabled.elim .inl fun e => g.disabled.imp_right fun f l r hd => f l r (e l r hd)
  rate := g.rate.trans h.rate
  settings := g.settings ∘ h.settings
  belt hs hb := g.belt (h.settings hs) (h.belt hs hb)
  queues := g.queues ∘ h.queues
  replies := g.replies ∘ h.replies
  lists := g.lists ∘ h.lists
  counts := g.counts ∘ h.counts
  walks := g.walks ∘ h.walks

theorem State.Kept.foldl {α : Type} {f : State → α → State} (h : ∀ t a, State.Kept c n t (f t a)) (as : List α)
    (s : State) : s.Kept c n (as.foldl f s) := by
  induction as generalizing s with
  | nil => exact .refl s
  | cons a as ih => exact (h s a).trans (ih _)

/-! ### The OPEN slots -/

theorem State.mem_slotsIn {ph : Phase} {i : Slot} : i ∈ s.slotsIn ph ↔ ∃ p, s.piece i = some p ∧ p.phase = ph := by
  simp only [State.slotsIn, List.mem_filter, List.mem_finRange, true_and, State.slotIs]
  cases s.piece i <;> simp

theorem State.nodup_slotsIn (s : State) (ph : Phase) : (s.slotsIn ph).Nodup := (List.nodup_finRange 256).filter _

/-- No more slots are OPEN where each OPEN slot was OPEN before. -/
theorem State.openCount_le (h : ∀ i ∈ t.slotsIn .openPiece, i ∈ s.slotsIn .openPiece) : t.openCount ≤ s.openCount :=
  (List.subperm_of_subset (t.nodup_slotsIn _) h).length_le

/-- At most one slot more is OPEN where each other OPEN slot was OPEN before. -/
theorem State.openCount_le_succ (j : Slot) (h : ∀ i ∈ t.slotsIn .openPiece, i = j ∨ i ∈ s.slotsIn .openPiece) :
    t.openCount ≤ s.openCount + 1 :=
  (List.subperm_of_subset (l₂ := j :: s.slotsIn .openPiece) (t.nodup_slotsIn _)
    fun i hi => List.mem_cons.mpr (h i hi)).length_le

theorem State.openCount_setSlot_none (i : Slot) : (s.setSlot i none).openCount ≤ s.openCount :=
  State.openCount_le fun j hj => by
    obtain ⟨p, hp, hph⟩ := State.mem_slotsIn.mp hj
    rw [State.piece_setSlot] at hp
    split_ifs at hp
    exact State.mem_slotsIn.mpr ⟨p, hp, hph⟩

theorem State.openCount_updatePiece (i : Slot) (f : Piece → Piece)
    (hf : ∀ p, (f p).phase = .openPiece → p.phase = .openPiece) : (s.updatePiece i f).openCount ≤ s.openCount :=
  State.openCount_le fun j hj => by
    obtain ⟨p, hp, hph⟩ := State.mem_slotsIn.mp hj
    rw [State.piece_updatePiece] at hp
    split_ifs at hp with hij
    · subst hij
      obtain ⟨q, hq, rfl⟩ := Option.map_eq_some_iff.mp hp
      exact State.mem_slotsIn.mpr ⟨q, hq, hf q hph⟩
    · exact State.mem_slotsIn.mpr ⟨p, hp, hph⟩

theorem State.openCount_setSlot (i : Slot) (x : Option Piece) : (s.setSlot i x).openCount ≤ s.openCount + 1 :=
  State.openCount_le_succ i fun j hj => by
    obtain ⟨p, hp, hph⟩ := State.mem_slotsIn.mp hj
    rw [State.piece_setSlot] at hp
    split_ifs at hp with hij
    · exact .inl hij.symm
    · exact .inr (State.mem_slotsIn.mpr ⟨p, hp, hph⟩)

/-- The lists stay within their bounds where only the OPEN slots change, and within theirs. -/
theorem State.listsSound_of_open (h : s.listsSound) (hsli : t.sli = s.sli) (hcls : t.cls = s.cls)
    (hcap : t.cap = s.cap) (ho : s.openCount ≤ 64 → t.openCount ≤ 64) : t.listsSound := by
  obtain ⟨hout, hrun, hqueue, hopen, hring, hpost⟩ := h
  exact ⟨hsli ▸ hout, hsli ▸ hrun, hcls ▸ hqueue, ho hopen, hcap ▸ hring, hcap ▸ hpost⟩

/-! ### Counts and queues -/

theorem State.countsSound_count (h : s.countsSound) (d : Counter) (m : Nat) : (s.count d m).countsSound := by
  refine ⟨fun e => ?_, h.2⟩
  rw [State.get_count]
  split_ifs
  · exact Nat.min_le_left _ _
  · exact h.1 e

theorem State.countsSound_setValve (h : s.countsSound) (l : Lane) (r : Row) (v : Valve)
    (hv : (s.valve l r).actuations ≤ 4294967295 → v.actuations ≤ 4294967295) : (s.setValve l r v).countsSound := by
  refine ⟨fun e => by rw [State.setValve_sta]; exact h.1 e, fun m q => ?_⟩
  rw [State.valve_setValve]
  split_ifs with hlr
  · exact hv (h.2 l r)
  · exact h.2 m q

theorem State.queuesSound_notice (h : s.queuesSound) (x : Notice) (hx : x.isPiece = false)
    (hroom : s.lnk.notices.length < 64) : (s.enqueueNotice x).queuesSound := by
  obtain ⟨hin, _, hpiece, hlost⟩ := h
  refine ⟨hin, ?_, ?_, hlost⟩
  · simp only [State.enqueueNotice, List.length_append, List.length_singleton]; omega
  · simpa [State.enqueueNotice, hx] using hpiece

theorem State.queuesSound_pieceNotice (h : s.queuesSound) (x : Notice) (hroom : s.lnk.notices.length < 56) :
    ({ s.enqueueNotice x with lnk.pendingLost := 0 } : State).queuesSound := by
  obtain ⟨hin, _, _, _⟩ := h
  have hlen : (s.lnk.notices ++ [x]).length ≤ 56 := by simpa using hroom
  exact ⟨hin, hlen.trans (by omega), (List.length_filter_le _ _).trans hlen, Nat.zero_le _⟩

/-! ### The shared operations -/

/-- A valve record replaced; only ENABLE takes a valve out of DISABLED. -/
theorem State.setValve_kept (l : Lane) (r : Row) (v : Valve)
    (hd : c = .valveEnable ∨ ((s.valve l r).state = .disabled → v.state = .disabled))
    (ha : (s.valve l r).actuations ≤ 4294967295 → v.actuations ≤ 4294967295) :
    s.Kept c n (s.setValve l r v) := by
  have steady := s.setValve_steady l r v
  have hcdu : (s.setValve l r v).cdu = s.cdu := congrArg Steady.cdu steady
  have hbpu : (s.setValve l r v).bpu = s.bpu := congrArg Steady.bpu steady
  have hopen : (s.setValve l r v).vdr.leadOpen = s.vdr.leadOpen := congrArg Steady.leadOpen steady
  have hclose : (s.setValve l r v).vdr.leadClose = s.vdr.leadClose := congrArg Steady.leadClose steady
  exact {
    pending := congrArg Steady.pending steady
    pos := .inr (by rw [hbpu])
    speed := .inr (by rw [hbpu])
    cdu := .inr hcdu
    baseline := .inr (congrArg Steady.baseline steady)
    refLevel := .inr (congrArg Steady.refLevel steady)
    valid := fun h => (congrArg Steady.valid steady).trans h
    number := .inr (by rw [State.setValve_seg])
    generation := .inr (congrArg Steady.generation steady)
    flags := .inr fun k h => by rwa [State.setValve_eng]
    disabled := hd.imp_right fun hd m q h => by
      rw [State.valve_setValve]
      split_ifs with hlr
      · exact hd (hlr.1 ▸ hlr.2 ▸ h)
      · exact h
    rate := congrArg Steady.rate steady
    settings := fun h => by unfold State.settingsSound; rwa [hcdu]
    belt := fun _ h => by unfold State.beltSound; rwa [hbpu, hopen, hclose]
    queues := fun h => by unfold State.queuesSound; rwa [State.setValve_lnk]
    replies := fun h => by rwa [State.setValve_lnk]
    lists := fun h => State.listsSound_of_open h (congrArg Steady.sli steady) (State.setValve_cls l r v)
      (congrArg Steady.cap steady) (State.openCount_le fun i hi => by
        simpa only [State.mem_slotsIn, State.piece, State.setValve_seg] using hi).trans
    counts := fun h => State.countsSound_setValve h l r v ha
    walks := fun h => by unfold State.walksSound; rwa [State.setValve_cls] }

theorem State.Touches.kept (hn : c = .segTakeLine ∨ ¬ A .number) (h : s.Touches A t) : s.Kept c n t := by
  cases h with
  | count d m => exact { counts := fun h => State.countsSound_count h d m }
  | flag k => exact { flags := .inr fun j h => by simp [State.flag, FaultFlags.has_raise, h] }
  | notice x hx hroom => exact { queues := fun h => State.queuesSound_notice h x hx hroom }
  | pieceNotice x hroom => exact { queues := fun h => State.queuesSound_pieceNotice h x hroom }
  | noticeLost =>
    exact { queues := fun ⟨hin, hlen, hpiece, _⟩ => ⟨hin, hlen, hpiece, Nat.min_le_left _ _⟩ }
  | engine st => exact {}
  | survey st acc => exact {}
  | free i =>
    exact { lists := fun h => State.listsSound_of_open h rfl rfl rfl (State.openCount_setSlot_none i).trans }
  | piece i f hf =>
    exact { lists := fun h => State.listsSound_of_open h rfl rfl rfl (State.openCount_updatePiece i f hf).trans }
  | opened i p hA hroom =>
    exact {
      number := .inl (hn.resolve_right (not_not_intro hA))
      lists := fun h => State.listsSound_of_open h rfl rfl rfl fun _ =>
        (State.openCount_setSlot i (some p)).trans hroom }
  | bank b f => exact {}
  | queued i hroom =>
    exact { lists := fun ⟨hout, hrun, _, hopen, hring, hpost⟩ =>
      ⟨hout, hrun, by simpa using hroom, hopen, hring, hpost⟩ }
  | classifierEmptied =>
    exact {
      lists := fun ⟨hout, hrun, _, hopen, hring, hpost⟩ => ⟨hout, hrun, Nat.zero_le _, hopen, hring, hpost⟩
      walks := fun _ _ h => nomatch h }
  | lanes x => exact {}
  | valve l r v hA hv => exact State.setValve_kept l r v (.inr hv.1) hv.2
  | merges m => exact {}

/-- The shared operations keep it all; only those that open pieces move the piece numbers. -/
theorem State.Life.kept (hn : c = .segTakeLine ∨ ¬ A .number) (h : s.Life A t) : s.Kept c n t :=
  h.lift State.Kept.refl (fun _ _ _ => State.Kept.trans) fun _ _ => State.Touches.kept hn

end Kept

/-- What the operations that open no piece may reach. -/
def Part.old (x : Part) : Prop := x ≠ .number

theorem Part.old_placing : Placing Part.old where
  endings _ _ := nofun
  lanes := nofun
  valves := nofun
  retires _ _ := nofun
  counts _ := nofun

theorem State.Life.kept_old {c : Instr} {n : Nat} {s t : State} (h : s.Life Part.old t) : s.Kept c n t :=
  h.kept (.inr fun h => h rfl)

end Sys2Proof.Machine
end

section
/-! SUPPORT. Settings and leads: what a table of settings reads after a write, that a value taken is one that can be
taken (R27, R189), and the ranges of the leads (R149). -/
namespace Sys2Proof.Machine

/-! ### Reading settings after writing -/

theorem LineId.all_ix (i : LineId) : LineId.all[i.ix.val]? = some i := by
  cases i with
  | refcorr k | gain k | range k | occHi k | occLo k => cases k <;> rfl
  | _ => rfl

theorem LineId.ix_injective {i j : LineId} (h : i.ix = j.ix) : i = j := by
  have hi := i.all_ix
  rw [h, j.all_ix] at hi
  exact (Option.some.inj hi).symm

theorem OwnId.all_ix (i : OwnId) : OwnId.all[i.ix.val]? = some i := by cases i <;> rfl

theorem OwnId.ix_injective {i j : OwnId} (h : i.ix = j.ix) : i = j := by
  have hi := i.all_ix
  rw [h, j.all_ix] at hi
  exact (Option.some.inj hi).symm

theorem LineSettings.get_put (s : LineSettings) (i j : LineId) (v : Nat) :
    (s.put i v).get j = if i = j then v else s.get j := by
  by_cases h : i = j
  · subst h; simp [LineSettings.get, LineSettings.put]
  · have hx : i.ix ≠ j.ix := fun e => h (LineId.ix_injective e)
    simp [LineSettings.get, LineSettings.put, look_put_ne _ _ _ _ hx, h]

theorem OwnSettings.get_put (s : OwnSettings) (i j : OwnId) (v : Nat) :
    (s.put i v).get j = if i = j then v else s.get j := by
  by_cases h : i = j
  · subst h; simp [OwnSettings.get, OwnSettings.put]
  · have hx : i.ix ≠ j.ix := fun e => h (OwnId.ix_injective e)
    simp [OwnSettings.get, OwnSettings.put, look_put_ne _ _ _ _ hx, h]

theorem StagedSet.get_put (s : StagedSet) (i j : LineId) (v : Nat) :
    (s.put i v).get j = if i = j then some v else s.get j := by
  by_cases h : i = j
  · subst h; simp [StagedSet.get, StagedSet.put]
  · have hx : i.ix ≠ j.ix := fun e => h (LineId.ix_injective e)
    simp [StagedSet.get, StagedSet.put, look_put_ne _ _ _ _ hx, h]

@[simp] theorem StagedSet.get_empty (i : LineId) : StagedSet.empty.get i = none := by
  simp [StagedSet.get, StagedSet.empty]

@[simp] theorem LineSettings.get_release (s : LineSettings) (g : StagedSet) (i : LineId) :
    (s.release g).get i = (g.get i).getD (s.get i) := by
  simp [LineSettings.get, LineSettings.release, StagedSet.get]

@[simp] theorem LineSettings.get_defaults (i : LineId) : LineSettings.defaults.get i = i.default := by
  simp [LineSettings.get, LineSettings.defaults, i.all_ix]

@[simp] theorem OwnSettings.get_defaults (i : OwnId) : OwnSettings.defaults.get i = i.default := by
  simp [OwnSettings.get, OwnSettings.defaults, i.all_ix]

/-! ### Values taken -/

theorem clampInto_bounds {b : Nat × Nat} (hb : b.1 ≤ b.2) (v : Int) :
    b.1 ≤ clampInto b v ∧ clampInto b v ≤ b.2 := by
  unfold clampInto
  split_ifs <;> omega

theorem LineId.bounds_le (i : LineId) : i.bounds.1 ≤ i.bounds.2 := by cases i <;> simp [LineId.bounds]

theorem OwnId.bounds_le (i : OwnId) : i.bounds.1 ≤ i.bounds.2 := by cases i <;> decide

/-- A value taken by a SET is one that can be taken: rounding keeps the ranges of WIN_START and WIN_WIDTH, whose ends
are even (R27). -/
theorem LineId.takes_taken (i : LineId) (v : Int) : i.takes (i.taken v) := by
  have hb := clampInto_bounds i.bounds_le v
  unfold LineId.takes LineId.taken
  cases i with
  | winStart | winWidth => simp only [LineId.bounds, reduceCtorEq, or_true, true_or] at hb ⊢; omega
  | _ => exact ⟨hb.1, hb.2, nofun⟩

theorem LineId.takes_gain (k : Chan) (v : Int) : (LineId.gain k).takes (LineId.taken (.gain .ind) v) :=
  (LineId.gain k).takes_taken v

theorem OwnId.takes_taken (i : OwnId) (v : Int) : i.takes (i.taken v) := clampInto_bounds i.bounds_le v

theorem LineId.takes_default (i : LineId) : i.takes i.default := by
  cases i with
  | refcorr k | gain k | range k | occHi k | occLo k => cases k <;> exact ⟨by decide, by decide, nofun⟩
  | winStart | winWidth => exact ⟨by decide, by decide, fun _ => by decide⟩
  | _ => exact ⟨by decide, by decide, nofun⟩

theorem OwnId.takes_default (i : OwnId) : i.takes i.default := by
  cases i <;> exact ⟨by decide, by decide⟩

/-! ### Settings in force and staged -/

/-- `State.settingsSound` of the CDU alone. -/
def Cdu.sound (c : Cdu) : Prop :=
  (∀ i, LineId.takes i (c.line.get i)) ∧ (∀ i, OwnId.takes i (c.own.get i)) ∧
    (∀ i v, c.staged.get i = some v → LineId.takes i v) ∧ (c.hold = false → ∀ i, c.staged.get i = none)

theorem State.settingsSound_iff (s : State) : s.settingsSound ↔ s.cdu.sound := Iff.rfl

theorem Cdu.writeLine_sound {c : Cdu} (h : c.sound) (i : LineId) (v : Nat) (hv : i.takes v) :
    (c.writeLine i v).sound := by
  obtain ⟨hline, hown, hstaged, hhold⟩ := h
  unfold Cdu.writeLine
  split_ifs with hold
  · refine ⟨hline, hown, fun j w hw => ?_, fun h => absurd hold (by simp_all)⟩
    rw [StagedSet.get_put] at hw
    split_ifs at hw with hij
    · exact hij ▸ Option.some.inj hw ▸ hv
    · exact hstaged j w hw
  · refine ⟨fun j => ?_, hown, hstaged, hhold⟩
    rw [LineSettings.get_put]
    split_ifs with hij
    · exact hij ▸ hv
    · exact hline j

theorem Cdu.applyItem_sound {c : Cdu} (h : c.sound) (x : SettingTarget) (v : Int) : (c.applyItem x v).1.sound := by
  cases x with
  | line i => exact Cdu.writeLine_sound h i _ (i.takes_taken v)
  | own i =>
    obtain ⟨hline, hown, hstaged, hhold⟩ := h
    refine ⟨hline, fun j => ?_, hstaged, hhold⟩
    simp only [Cdu.applyItem, OwnSettings.get_put]
    split_ifs with hij
    · exact hij ▸ i.takes_taken v
    · exact hown j
  | gainAll =>
    have writes (ks : List Chan) : ∀ d : Cdu, d.sound →
        (ks.foldl (fun d k => d.writeLine (.gain k) (LineId.taken (.gain .ind) v)) d).sound := by
      induction ks with
      | nil => exact fun _ hd => hd
      | cons k ks ih => exact fun d hd => ih _ (Cdu.writeLine_sound hd _ _ (LineId.takes_gain k v))
    exact writes Chan.all c h

theorem Cdu.applyItems_sound (items : List SetItem) : ∀ {c : Cdu}, c.sound → (c.applyItems items).1.sound := by
  induction items with
  | nil => exact fun h => h
  | cons it rest ih =>
    intro c h
    unfold Cdu.applyItems
    split
    · exact ih h
    · exact ih (Cdu.applyItem_sound h _ _)

theorem Cdu.released_sound {c : Cdu} (h : c.sound) : c.released.sound := by
  unfold Cdu.released
  split_ifs
  · obtain ⟨hline, hown, hstaged, _⟩ := h
    refine ⟨fun i => ?_, hown, fun i v hv => by simp at hv, fun _ i => StagedSet.get_empty i⟩
    rw [LineSettings.get_release]
    cases hg : c.staged.get i with
    | none => exact hline i
    | some v => exact hstaged i v hg
  · exact h

theorem Cdu.defaults_sound :
    Cdu.sound { line := LineSettings.defaults, own := OwnSettings.defaults, staged := StagedSet.empty, hold := false } :=
  ⟨fun i => by simpa using i.takes_default, fun i => by simpa using i.takes_default,
    fun i v hv => by simp at hv, fun _ i => StagedSet.get_empty i⟩

/-! ### Leads -/

theorem leadOpenAt_spec (delay speed : Nat) :
    delay * speed ≤ 1000000 * leadOpenAt delay speed ∧
      1000000 * leadOpenAt delay speed < delay * speed + 1000000 := by
  unfold leadOpenAt ceilDiv
  omega

theorem leadCloseAt_spec (delay speed : Nat) :
    1000000 * leadCloseAt delay speed ≤ delay * speed ∧
      delay * speed < 1000000 * leadCloseAt delay speed + 1000000 := by
  unfold leadCloseAt
  omega

theorem leadOpenAt_le {delay speed : Nat} (hd : delay ≤ 5000) (hs : speed ≤ 65535) : leadOpenAt delay speed ≤ 328 := by
  have := leadOpenAt_spec delay speed
  have := Nat.mul_le_mul hd hs
  omega

theorem leadCloseAt_le {delay speed : Nat} (hd : delay ≤ 5000) (hs : speed ≤ 65535) :
    leadCloseAt delay speed ≤ 327 := by
  have := leadCloseAt_spec delay speed
  have := Nat.mul_le_mul hd hs
  omega

theorem State.setLeads_kept {c : Instr} {n : Nat} (s : State) (a b : Nat)
    (h : s.settingsSound → s.beltSound → a ≤ 328 ∧ b ≤ 327) :
    s.Kept c n { s with vdr.leadOpen := a, vdr.leadClose := b } :=
  { belt := fun hs hb =>
      have ⟨ha, hb'⟩ := h hs hb
      have ⟨hpos, hdebt, hexc, hspeed, _, _⟩ := hb
      ⟨hpos, hdebt, hexc, hspeed, ha, hb'⟩ }

theorem State.computeLeads_kept {c : Instr} {n : Nat} (s : State) : s.Kept c n s.computeLeads :=
  (s.setLeads_kept _ _ fun ⟨_, hown, _⟩ ⟨_, _, _, hspeed, _, _⟩ =>
    ⟨leadOpenAt_le (hown .openDelay).2 hspeed, leadCloseAt_le (hown .closeDelay).2 hspeed⟩).trans
    (State.judgeAll_life _ Part.old_placing.toJudging _).kept_old

end Sys2Proof.Machine
end

section
/-! SUPPORT. Line triggers and missing lines in steps: the snapshot, the place made in the outstanding-trigger list, the
entry; and what they keep. -/
namespace Sys2Proof.Machine

/-- The entry that a line trigger puts into the outstanding-trigger list. -/
def State.newTrigger (s : State) (seq : SeqNo) (start stop : Nat) : Trigger :=
  { seq := seq, start := start, stop := stop, snap := s.cdu.line,
    disturbed := s.cdu.line.disturbingValues != s.sli.kept, requested := false }

/-- The snapshot of a line trigger kept, and a DISTURBED one counted (R25, R38). -/
def State.snapped (s : State) : State :=
  if s.cdu.line.disturbingValues != s.sli.kept then
    ({ s with sli.kept := s.cdu.line.disturbingValues } : State).count .disturbed 1
  else { s with sli.kept := s.cdu.line.disturbingValues }

/-- A full outstanding-trigger list has its oldest entry declared missing (R18). -/
def State.withRoom (s : State) : State :=
  match s.sli.outstanding with
  | [] => s
  | oldest :: rest =>
    if Config.outstandingMax ≤ s.sli.outstanding.length then
      State.declareMissing oldest { s with sli.outstanding := rest }
    else s

/-- An entry at the newest end of the outstanding-trigger list. -/
def State.enlist (t : Trigger) (s : State) : State := { s with sli.outstanding := s.sli.outstanding ++ [t] }

/-- A missing line handed over and counted, and the run of missing lines one longer (R21, R23, R24). -/
def State.missed (t : Trigger) (s : State) : State :=
  { (s.handOver (t.line none (carriedMarks t.snap s.sli.prevMarks) s.sli.prevMarks)).count .missing 1 with
    sli.missingRun := min 8 (s.sli.missingRun + 1) }

section Lines
variable {c : Instr} {n : Nat} (s : State)

theorem State.takeTrigger_eq (seq : SeqNo) (start stop : Nat) :
    s.takeTrigger seq start stop = s.snapped.withRoom.enlist (s.newTrigger seq start stop) := rfl

theorem State.declareMissing_eq (t : Trigger) :
    s.declareMissing t = if s.sli.missingRun = 7 then (s.missed t).raiseFault .sensorLost else s.missed t := rfl

theorem State.withRoom_of_lt (h : s.sli.outstanding.length < 4) : s.withRoom = s := by
  unfold State.withRoom
  split
  · rfl
  · exact if_neg (Nat.not_le_of_lt h)

theorem State.withRoom_of_full {o : Trigger} {rest : List Trigger} (ho : s.sli.outstanding = o :: rest)
    (h : 4 ≤ s.sli.outstanding.length) :
    s.withRoom = State.declareMissing o { s with sli.outstanding := rest } := by
  unfold State.withRoom
  split
  · next h0 => rw [h0] at ho; cases ho
  · next h1 =>
    rw [h1] at ho
    cases ho
    exact if_pos h

theorem State.snapped_sli : s.snapped.sli = { s.sli with kept := s.cdu.line.disturbingValues } := by
  unfold State.snapped; split_ifs <;> rfl

theorem State.raiseFault_sli (k : FaultKind) : (s.raiseFault k).sli = s.sli :=
  congrArg Steady.sli (s.raiseFault_steady k)

theorem State.declareMissing_sli (t : Trigger) :
    (s.declareMissing t).sli = { s.sli with
      prevMarks := carriedMarks t.snap s.sli.prevMarks, missingRun := min 8 (s.sli.missingRun + 1) } := by
  rw [State.declareMissing_eq]
  split_ifs
  · rw [State.raiseFault_sli]; rfl
  · rfl

theorem State.withRoom_outstanding (h : s.sli.outstanding.length ≤ 4) : s.withRoom.sli.outstanding.length ≤ 3 := by
  by_cases hroom : s.sli.outstanding.length < 4
  · rw [s.withRoom_of_lt hroom]; omega
  · match ho : s.sli.outstanding with
    | [] => simp [ho] at hroom
    | o :: rest =>
      rw [s.withRoom_of_full ho (Nat.le_of_not_lt hroom), State.declareMissing_sli]
      rw [ho] at h
      exact Nat.le_of_succ_le_succ h

/-! ### What they keep -/

theorem State.snapped_kept : s.Kept c n s.snapped := by
  unfold State.snapped
  split_ifs
  · exact State.Kept.trans (t := { s with sli.kept := s.cdu.line.disturbingValues }) {}
      (State.countAny_life Part.old_placing _ .disturbed 1).kept_old
  · exact {}

/-- The outstanding-trigger list replaced by one within its bound. -/
theorem State.setOutstanding_kept (ts : List Trigger) (h : s.sli.outstanding.length ≤ 4 → ts.length ≤ 4) :
    s.Kept c n { s with sli.outstanding := ts } where
  lists := fun ⟨hout, hrun, hqueue, hopen, hring, hpost⟩ => ⟨h hout, hrun, hqueue, hopen, hring, hpost⟩

theorem State.handOver_kept (ln : Line) : s.Kept c n (s.handOver ln) where

theorem State.setMissingRun_kept (m : Nat) (h : m ≤ 8) : s.Kept c n { s with sli.missingRun := m } where
  lists := fun ⟨hout, _, hqueue, hopen, hring, hpost⟩ => ⟨hout, h, hqueue, hopen, hring, hpost⟩

theorem State.missed_kept (t : Trigger) : s.Kept c n (s.missed t) :=
  ((s.handOver_kept _).trans (State.countAny_life Part.old_placing _ .missing 1).kept_old).trans
    (State.setMissingRun_kept _ _ (Nat.min_le_left _ _))

theorem State.raiseFault_kept (k : FaultKind) : s.Kept c n (s.raiseFault k) :=
  (s.raiseFault_life Part.old_placing.endings k nofun).kept_old

theorem State.declareMissing_kept (t : Trigger) : s.Kept c n (s.declareMissing t) := by
  rw [State.declareMissing_eq]
  split_ifs
  · exact (s.missed_kept t).trans (State.raiseFault_kept _ _)
  · exact s.missed_kept t

theorem State.withRoom_kept : s.Kept c n s.withRoom := by
  unfold State.withRoom
  split
  · exact .refl s
  · next o rest ho =>
    split_ifs
    · exact (s.setOutstanding_kept rest fun h => by rw [ho] at h; exact (Nat.le_succ _).trans h).trans
        (State.declareMissing_kept _ o)
    · exact .refl s

/-- The place made for the entry is one within the bound of the list. -/
theorem State.takeTrigger_kept (seq : SeqNo) (start stop : Nat) : s.Kept c n (s.takeTrigger seq start stop) := by
  have room : s.Kept c n s.snapped.withRoom := s.snapped_kept.trans (State.withRoom_kept _)
  rw [State.takeTrigger_eq]
  exact {
    room with
    lists := fun h => by
      have hsnap : s.snapped.sli.outstanding.length ≤ 4 := by rw [State.snapped_sli]; exact h.1
      obtain ⟨_, hrun, hqueue, hopen, hring, hpost⟩ := room.lists h
      refine ⟨?_, hrun, hqueue, hopen, hring, hpost⟩
      have hroom := State.withRoom_outstanding _ hsnap
      simp only [State.enlist, List.length_append, List.length_singleton]
      omega }

end Lines
end Sys2Proof.Machine
end

section
/-! SUPPORT. What each event keeps (`State.Kept`): belt, sensor lines, baseline tracker, segmenter, classifier, lanes,
valves, link and monitors. -/
-- One proof at a time: elaborated side by side, the proofs take more stacks than the check's memory holds.
set_option Elab.async false
namespace Sys2Proof.Machine

section Events
variable {s t : State}

theorem State.Kept.of_next {c : Instr} {n : Nat} {u : State} (k : s.Kept c n u)
    (h : (Host.Outcome.next u : Host.Outcome State Fault Refusal) = .next t) : s.Kept c n t :=
  Host.Outcome.next.inj h ▸ k

/-! ### Belt -/

theorem State.backwardTick_kept {c : Instr} {n : Nat} (s : State) : s.Kept c n s.backwardTick := by
  unfold State.backwardTick
  split_ifs with hdebt
  · have indebted (x : Bool) : s.Kept c n { s with bpu.debt := s.bpu.debt + 1, bpu.excursion := x } :=
      { belt := fun _ ⟨hpos, _, _, hspeed⟩ => ⟨hpos, hdebt, fun _ => Nat.succ_pos _, hspeed⟩ }
    dsimp only
    split_ifs
    · exact (indebted true).trans (State.raiseFault_kept _ _)
    · exact indebted s.bpu.excursion
  · exact (State.countAny_life Part.old_placing s .reverseLost 1).kept_old

theorem State.lineTimer_kept {c : Instr} {n : Nat} (s : State) : s.Kept c n s.lineTimer := by
  unfold State.lineTimer
  dsimp only
  split_ifs
  · have timed (stop : Nat) : s.Kept c n { s with bpu.nextLine := stop, bpu.seq := s.bpu.seq + 1 } := {}
    exact ((timed _).trans (State.countAny_life Part.old_placing _ .triggered 1).kept_old).trans
      (State.takeTrigger_kept _ _ _ _)
  · exact .refl s

theorem State.advance_kept {a b : Bool} {n : Nat} (s : State) (h : s.bpu.pos < Config.posMax) :
    s.Kept (.encoderTransition a b) n s.advance := by
  have moved : s.Kept (.encoderTransition a b) n { s with bpu.pos := s.bpu.pos + 1 } :=
    { pos := .inl ⟨a, b, rfl⟩, belt := fun _ ⟨_, hrest⟩ => ⟨h, hrest⟩ }
  unfold State.advance
  dsimp only
  refine ((State.Kept.trans ?judged (State.lineTimer_kept _)).trans
    (State.judgeAll_life _ Part.old_placing.toJudging _).kept_old).trans
    (State.retireGuards_life _ Part.old_placing.endings nofun nofun).kept_old
  case judged =>
    split_ifs
    · exact moved.trans (State.raiseFault_kept _ _)
    · exact moved

theorem State.forwardTick_kept {a b : Bool} {n : Nat} (s : State) :
    s.Kept (.encoderTransition a b) n s.forwardTick := by
  unfold State.forwardTick
  split_ifs with hdebt hpos
  · exact {
      belt := fun _ ⟨hpos, hmax, hexc, hrest⟩ => by
        refine ⟨hpos, (Nat.sub_le _ _).trans hmax, fun h => ?_, hrest⟩
        simp only [Bool.and_eq_true, bne_iff_ne] at h
        show 0 < s.bpu.debt - 1
        omega }
  · exact s.advance_kept hpos
  · exact .refl s

theorem execEncoderTransition_kept {a b : Bool} (h : execEncoderTransition a b s = .next t) :
    s.Kept (.encoderTransition a b) 4 t := by
  have paired : s.Kept (.encoderTransition a b) 4 { s with bpu.refA := a, bpu.refB := b } := {}
  unfold execEncoderTransition at h
  dsimp only at h
  split_ifs at h <;> cases h
  · exact .refl s
  · exact paired.trans (State.countAny_life Part.old_placing _ .encoderErrors 1).kept_old
  · exact paired.trans (State.forwardTick_kept _)
  · exact paired.trans (State.backwardTick_kept _)

theorem speedOf_le (n : Nat) : speedOf n ≤ 65535 := Nat.min_le_left _ _

theorem execSpeedUpdate_kept (h : execSpeedUpdate s = .next t) : s.Kept .speedUpdate 4 t := by
  have estimated (v : Nat) (x : Vector Nat 8) (hv : v ≤ 65535) :
      s.Kept .speedUpdate 4 { s with bpu.speed := v, bpu.history := x, sinceSpeed := 0 } :=
    { speed := .inl rfl
      belt := fun _ ⟨hpos, hdebt, hexc, _, hleads⟩ => ⟨hpos, hdebt, hexc, hv, hleads⟩ }
  refine State.Kept.of_next ?_ h
  exact (estimated _ (shiftHistory s.bpu.history s.bpu.pos) (speedOf_le (s.bpu.pos - look s.bpu.history 0))).trans
    (State.computeLeads_kept _)

/-! ### Sensor lines -/

theorem markRequested_length (ts : List Trigger) : (markRequested ts).length = ts.length := by
  induction ts with
  | nil => rfl
  | cons x xs ih =>
    unfold markRequested
    split_ifs
    · simpa using ih
    · rfl

theorem execLineRequestSend_kept {c : Instr} (h : execLineRequestSend s = .next t) : s.Kept c 4 t := by
  unfold execLineRequestSend at h
  split at h <;> cases h
  · exact .refl s
  · exact (s.setOutstanding_kept (markRequested s.sli.outstanding)
      fun h => (markRequested_length _).trans_le h).trans {}

theorem State.processFrame_kept {c : Instr} {n : Nat} (s : State) (x : Trigger) (bytes : List Byte) :
    s.Kept c n (s.processFrame x bytes) :=
  (s.handOver_kept _).trans (State.setMissingRun_kept _ 0 (Nat.zero_le _))

theorem State.matchFrame_kept {c : Instr} {n : Nat} (s : State) (bytes : List Byte) :
    s.Kept c n (s.matchFrame bytes) := by
  unfold State.matchFrame
  dsimp only
  split
  · exact (State.countAny_life Part.old_placing s .stray 1).kept_old
  · next x rest hrest =>
    have hlen : rest.length ≤ s.sli.outstanding.length := by
      have hsub := (List.dropWhile_sublist (l := s.sli.outstanding)
        (fun t => t.seq.toNat != field bytes 0 2)).length_le
      rw [hrest] at hsub
      exact (Nat.le_succ _).trans hsub
    exact ((s.setOutstanding_kept rest hlen.trans).trans
      (.foldl (fun t o => t.declareMissing_kept o) _ _)).trans (State.processFrame_kept _ x bytes)

theorem execSensorFrameEnd_kept {c : Instr} {bytes : List Byte} {broken : Bool}
    (h : execSensorFrameEnd bytes broken s = .next t) : s.Kept c 4 t := by
  have ended : s.Kept c 4 { s with sli.inFrame := false } := {}
  unfold execSensorFrameEnd at h
  dsimp only at h
  split_ifs at h <;> cases h
  · exact ended.trans (State.matchFrame_kept _ bytes)
  · exact ended.trans (State.countAny_life Part.old_placing _ .frameErrors 1).kept_old
  · exact .refl s

theorem execSensorFrameStart_kept {c : Instr} (h : execSensorFrameStart s = .next t) : s.Kept c 4 t := by
  cases h; exact {}

/-! ### Baseline tracker -/

theorem State.trackLine_kept {n : Nat} (s : State) (ln : Line) : s.Kept .bltTakeLine n (s.trackLine ln) where
  baseline := .inl (.inl rfl)

theorem State.setBlt_kept {n : Nat} (s : State) (b : Blt) (h : s.blt.valid = true → b.valid = true) :
    s.Kept .bltTakeLine n { s with blt := b } where
  baseline := .inl (.inl rfl)
  refLevel := .inl rfl
  valid := h

theorem State.setEngine_kept {c : Instr} {n : Nat} (s : State) (st : EngState) (cause : EngCause) :
    s.Kept c n (s.setEngine st cause) :=
  (s.setEngine_life Part.old_placing.endings st cause).kept_old

theorem State.offer_kept {c : Instr} {n : Nat} (s : State) (x : Notice) (hx : x.isPiece = false) :
    s.Kept c n (s.offer x) :=
  (s.offer_life Part.old_placing.endings x hx).kept_old

theorem State.surveyLine_kept {n : Nat} (s : State) (ln : Line) (sm : Samples) :
    s.Kept .bltTakeLine n (s.surveyLine ln sm) := by
  unfold State.surveyLine
  dsimp only
  split_ifs
  · exact (((State.Touches.survey .spoiled SurveyAcc.zero).life.kept_old).trans
      (State.setEngine_kept _ _ _)).trans (State.offer_kept _ _ rfl)
  · exact ((s.setBlt_kept _ fun _ => rfl).trans (State.setEngine_kept _ _ _)).trans (State.offer_kept _ _ rfl)
  · exact {}

theorem execBltTakeLine_kept (h : execBltTakeLine s = .next t) : s.Kept .bltTakeLine 4 t := by
  unfold execBltTakeLine at h
  split at h
  · cases h; exact .refl s
  · next ln rest _ =>
    have taken : s.Kept .bltTakeLine 4 { s with bltLines := rest } := {}
    dsimp only at h
    split_ifs at h <;> cases h
    · refine taken.trans ?_
      unfold State.surveyTakes
      split_ifs
      · exact {}
      · split
        · exact State.surveyLine_kept _ _ _
        · exact .refl _
    · exact taken.trans (State.trackLine_kept _ ln)
    · exact taken

/-! ### Segmenter and classifier -/

theorem Part.all_placing : Placing (fun _ => True) where
  endings _ _ := trivial
  lanes := trivial
  valves := trivial
  retires _ _ := trivial
  counts _ := trivial

theorem execSegTakeLine_kept (h : execSegTakeLine s = .next t) : s.Kept .segTakeLine 4 t := by
  unfold execSegTakeLine at h
  split at h
  · cases h; exact .refl s
  · next ln rest _ =>
    have taken : s.Kept .segTakeLine 4 { s with segLines := rest } := {}
    dsimp only at h
    split_ifs at h <;> cases h
    · exact taken.trans ((State.segmentLine_life Part.all_placing _ trivial ln).kept (.inl rfl))
    · exact taken

/-- A slot's piece replaced by one that is not OPEN. -/
theorem State.setSlot_kept {c : Instr} {n : Nat} (s : State) (i : Slot) (p : Piece) (hp : p.phase ≠ .openPiece) :
    s.Kept c n (s.setSlot i (some p)) where
  lists h := State.listsSound_of_open h rfl rfl rfl (State.openCount_le fun j hj => by
    obtain ⟨q, hq, hph⟩ := State.mem_slotsIn.mp hj
    rw [State.piece_setSlot] at hq
    split_ifs at hq with hij
    · exact absurd (Option.some.inj hq ▸ hph) hp
    · exact State.mem_slotsIn.mpr ⟨q, hq, hph⟩).trans

theorem execWalkStart_kept {c : Instr} (h : execWalkStart s = .next t) : s.Kept c 4 t := by
  unfold execWalkStart at h
  split at h
  · next i rest _ hq =>
    split at h
    · next p _ =>
      cases h
      refine (s.setSlot_kept i _ (by simp)).trans {
        lists := fun ⟨hout, hrun, hqueue, hopen, hring, hpost⟩ => ⟨hout, hrun, ?_, hopen, hring, hpost⟩
        walks := fun _ w hw => ?_ }
      · change s.cls.queue.length ≤ 16 at hqueue
        rw [hq] at hqueue
        exact (Nat.le_succ _).trans hqueue
      · cases hw
        exact ⟨by simp [Walk.begun], fun _ _ => by simp [Walk.begun], nofun, nofun⟩
    · cases h
  · cases h; exact .refl s

/-- Where a walk stands after a test that names a target is within the limit (R98, R99). -/
theorem walkSound_after (w : Walk) (target : Target) (hlt : w.steps < 24) :
    walkSound { w with steps := w.steps + 1, point := WalkPoint.after target (w.steps + 1) } := by
  have ended (k : PieceClass) (f : Bool) (hk : k ≠ .overflow) (hf : f = true → k = .unresolved ∧ w.steps + 1 = 24) :
      walkSound { w with steps := w.steps + 1, point := .ended k f } := by
    refine ⟨hlt, nofun, fun j hj => ?_, fun j g hj => ?_⟩ <;> cases hj
    · exact hf rfl
    · exact ⟨hk, Nat.succ_pos _⟩
  cases target with
  | record i =>
    by_cases hmore : w.steps + 1 < 24
    · rw [show WalkPoint.after (.record i) (w.steps + 1) = .record i from if_pos hmore]
      exact ⟨hlt, fun _ _ => hmore, nofun, nofun⟩
    · rw [show WalkPoint.after (.record i) (w.steps + 1) = .ended .unresolved true from if_neg hmore]
      exact ended .unresolved true nofun fun _ => ⟨rfl, by omega⟩
  | cls k => exact ended (.cls k) false nofun nofun
  | unresolved => exact ended .unresolved false nofun nofun

theorem execTestEvaluate_kept {c : Instr} (h : execTestEvaluate s = .next t) : s.Kept c 4 t := by
  unfold execTestEvaluate at h
  split at h
  · cases h; exact .refl s
  · next w hw =>
    split at h
    · cases h; exact .refl s
    · next i hi =>
      split at h
      · next r _ =>
        cases h
        exact { walks := fun hs x hx => by cases hx; exact walkSound_after w _ ((hs w hw).2.1 i hi) }
      · cases h

theorem State.completeCapture_kept {c : Instr} {n : Nat} (s : State) : s.Kept c n s.completeCapture := by
  have full (x : Nat) : s.Kept c n { s with cap.state := .full, freeIndex := x } := {}
  unfold State.completeCapture
  dsimp only
  split
  · exact (full s.freeIndex).trans (State.offer_kept _ _ rfl)
  · exact (full _).trans (State.offer_kept _ _ rfl)

theorem State.announce_kept {c : Instr} {n : Nat} (s : State) (x : PieceNo) (k : PieceClass) :
    s.Kept c n (s.announce x k) := by
  have named : s.Kept c n { s with cap.piece := some x } := {}
  unfold State.announce
  dsimp only
  split_ifs
  · exact named.trans (State.completeCapture_kept _)
  · exact {}
  · exact .refl s

theorem State.finishWalk_kept {c : Instr} {n : Nat} (s : State) (w : Walk) (p : Piece) (k : PieceClass) (f : Bool)
    (m : Dest × Terms) : s.Kept c n (s.finishWalk w p k f m) := by
  have announced (x : Piece) (hx : x.phase = .scheduled) :
      s.Kept c n (((s.setSlot w.slot (some x)).handOff (.piece .classifier w.slot)).announce p.number k) :=
    ((s.setSlot_kept w.slot x (by simp [hx])).trans (State.handOff_life _ Part.old_placing.lanes _).kept_old).trans
      (State.announce_kept _ _ _)
  have ended (u : State) : u.Kept c n { u with cls.walk := none } := { walks := fun _ _ h => nomatch h }
  unfold State.finishWalk
  dsimp only
  refine State.Kept.trans ?_ (ended _)
  split_ifs
  · exact (announced _ rfl).trans (State.countAny_life Part.old_placing _ .chainFaults 1).kept_old
  · exact announced _ rfl

theorem execWalkEnd_kept {c : Instr} (h : execWalkEnd s = .next t) : s.Kept c 4 t := by
  unfold execWalkEnd at h
  split at h
  · cases h; exact .refl s
  · split at h
    · cases h; exact .refl s
    · split at h
      · cases h
      · split at h
        · cases h
        · cases h; exact s.finishWalk_kept _ _ _ _ _

/-! ### Lane scheduler -/

theorem execPlacePiece_kept {c : Instr} {src : HandoffSource} (h : execPlacePiece src s = .next t) :
    s.Kept c 4 t := by
  unfold execPlacePiece at h
  split at h
  · split at h
    · split at h
      · split_ifs at h
        cases h
        exact ((s.dropHandoff_life Part.old_placing.lanes _).trans
          (State.placePiece_life Part.old_placing _ _ _ _ _ _ _)).kept_old
      · cases h
    · cases h
  · cases h; exact .refl s

theorem execPlaceUntracked_kept {c : Instr} (h : execPlaceUntracked s = .next t) : s.Kept c 4 t := by
  unfold execPlaceUntracked at h
  split at h <;> cases h
  · exact ((s.dropHandoff_life Part.old_placing.lanes _).trans
      (State.placeUntracked_life Part.old_placing _ _ _ _)).kept_old
  · exact .refl s

/-! ### Valves -/

theorem execMaxOnExpiry_kept {c : Instr} {l : Lane} {r : Row} (h : execMaxOnExpiry l r s = .next t) :
    s.Kept c 4 t := by
  unfold execMaxOnExpiry at h
  split_ifs at h with hv <;> cases h
  · exact (s.truncate_life Part.old_placing l r hv.1).kept_old
  · exact .refl s

theorem execMinOffExpiry_kept {c : Instr} {l : Lane} {r : Row} (h : execMinOffExpiry l r s = .next t) :
    s.Kept c 4 t := by
  unfold execMinOffExpiry at h
  split_ifs at h with hv <;> cases h
  · exact (s.endRecover_life Part.old_placing l r hv).kept_old
  · exact .refl s

theorem execPulseExpiry_kept {c : Instr} {l : Lane} {r : Row} (h : execPulseExpiry l r s = .next t) :
    s.Kept c 4 t := by
  unfold execPulseExpiry at h
  split_ifs at h with hv <;> cases h
  · exact (s.endPulse_life Part.old_placing l r hv.1).kept_old
  · exact .refl s

theorem State.setAir_kept {c : Instr} {n : Nat} (s : State) (a : Air) : s.Kept c n { s with vdr.air := a } where

theorem State.loseAir_kept {c : Instr} {n : Nat} (s : State) : s.Kept c n s.loseAir := by
  have closing (vs : List (Lane × Row)) (u : State) :
      u.Life Part.old (vs.foldl (fun (t : State) v => t.loseAirAt v.1 v.2) u) :=
    .foldl (fun t v => t.loseAirAt_life Part.old_placing v.1 v.2) vs u
  unfold State.loseAir
  exact ((s.setAir_kept .lost).trans (closing valveOrder _).kept_old).trans (State.raiseFault_kept _ _)

theorem State.regainAir_kept {c : Instr} {n : Nat} (s : State) : s.Kept c n s.regainAir := by
  unfold State.regainAir
  exact ((s.setAir_kept .present).trans (State.offer_kept _ _ rfl)).trans
    (State.judgeAll_life _ Part.old_placing.toJudging _).kept_old

theorem execAirLost_kept {c : Instr} (h : execAirLost s = .next t) : s.Kept c 4 t := by
  unfold execAirLost at h
  split at h
  · exact s.loseAir_kept.of_next h
  · cases h; exact .refl s

theorem execAirRestored_kept {c : Instr} (h : execAirRestored s = .next t) : s.Kept c 4 t := by
  unfold execAirRestored at h
  split at h
  · exact s.regainAir_kept.of_next h
  · cases h; exact .refl s

theorem execValveReturnFrame_kept {c : Instr} {reports : List CoilReport} {good broken : Bool}
    (h : execValveReturnFrame reports good broken s = .next t) : s.Kept c 4 t := by
  have ended : s.Kept c 4 { s with vdr.inFrame := false } := {}
  unfold execValveReturnFrame at h
  dsimp only at h
  split_ifs at h <;> cases h
  · exact ended.trans (State.Life.foldl (fun u x => u.takeReport_life Part.old_placing nofun x) reports _).kept_old
  · exact ended
  · exact .refl s

theorem execReturnFrameStart_kept {c : Instr} (h : execReturnFrameStart s = .next t) : s.Kept c 4 t := by
  cases h; exact {}

/-! ### Link -/

theorem State.dropFrame_kept {c : Instr} {n : Nat} (s : State) (d : Counter) : s.Kept c n (s.dropFrame d) :=
  State.Kept.trans (t := { s with lnk.inFrame := false }) {} (State.countAny_life Part.old_placing _ d 1).kept_old

theorem execLinkFrameStart_kept {c : Instr} (h : execLinkFrameStart s = .next t) : s.Kept c 4 t := by
  have begun (u : State) : u.Kept c 4 { u with lnk.inFrame := true } := {}
  unfold execLinkFrameStart at h
  cases h
  refine State.Kept.trans ?_ (begun _)
  split_ifs
  · exact s.dropFrame_kept _
  · exact .refl s

theorem State.receiveFrame_kept {c : Instr} {n : Nat} (s : State) (f : Frame) : s.Kept c n (s.receive f) := by
  unfold State.receive
  split_ifs with hroom
  · exact { queues := fun ⟨_, hnot, hpiece, hlost⟩ => ⟨by simpa [Config.linkQueueMax] using hroom, hnot, hpiece, hlost⟩ }
  · exact (State.countAny_life Part.old_placing s .overruns 1).kept_old

theorem State.judgeFrame_kept {c : Instr} {n : Nat} (s : State) (bytes : List Byte) (m : Nat) :
    s.Kept c n (s.judgeFrame bytes m) := by
  have ended : s.Kept c n { s with lnk.inFrame := false } := {}
  unfold State.judgeFrame
  split_ifs
  · exact (ended.trans (State.countAny_life Part.old_placing _ .framesGood 1).kept_old).trans
      (State.receiveFrame_kept _ _)
  · exact s.dropFrame_kept _

theorem execLinkFrameEnd_kept {c : Instr} {bytes : List Byte} (h : execLinkFrameEnd bytes s = .next t) :
    s.Kept c 4 t := by
  unfold execLinkFrameEnd at h
  dsimp only at h
  split_ifs at h <;> cases h
  · exact .refl s
  · exact s.dropFrame_kept _
  · exact .refl s
  · exact s.judgeFrame_kept _ _

theorem execLinkFramingError_kept {c : Instr} (h : execLinkFramingError s = .next t) : s.Kept c 4 t := by
  unfold execLinkFramingError at h
  split_ifs at h <;> cases h
  · exact s.dropFrame_kept _
  · exact .refl s

theorem execGapAbort_kept {c : Instr} (h : execGapAbort s = .next t) : s.Kept c 4 t := by
  unfold execGapAbort at h
  split_ifs at h <;> cases h
  · exact s.dropFrame_kept _
  · exact .refl s

theorem State.choose_kept {c : Instr} {n : Nat} (s : State) : s.Kept c n s.choose := by
  unfold State.choose
  split
  · next r rest _ hr => exact { replies := fun h => by rw [hr] at h; exact (Nat.le_succ _).trans h }
  · next x rest _ hx =>
    exact {
      queues := fun ⟨hin, hnot, hpiece, hlost⟩ => by
        rw [hx] at hnot hpiece
        exact ⟨hin, (Nat.le_succ _).trans hnot,
          (((List.sublist_cons_self x rest).filter Notice.isPiece).length_le).trans hpiece, hlost⟩ }
  · exact .refl s

theorem execTransmitFrame_kept {c : Instr} (h : execTransmitFrame s = .next t) : s.Kept c 4 t := by
  unfold execTransmitFrame at h
  split_ifs at h <;> cases h
  · exact s.choose_kept
  · exact .refl s

theorem execLinkFrameSent_kept {c : Instr} (h : execLinkFrameSent s = .next t) : s.Kept c 4 t := by
  unfold execLinkFrameSent at h
  split at h <;> cases h
  · exact .refl s
  · exact {}

/-! ### Monitors -/

theorem execLdmTakeLine_kept {c : Instr} (h : execLdmTakeLine s = .next t) : s.Kept c 4 t := by
  unfold execLdmTakeLine at h
  split at h
  · cases h; exact .refl s
  · next ln rest _ =>
    have added (u : State) (ls : List Line) (d : Ldm) : u.Kept c 4 { u with ldmLines := ls, ldm := d } := {}
    dsimp only at h
    split_ifs at h <;> cases h
    · refine (added s rest (s.ldm.add ln)).trans ?_
      unfold State.endBlock
      dsimp only
      split_ifs
      · exact added _ rest _
      · exact (added _ _ _).trans (State.offer_kept _ _ rfl)
    · exact added s rest _

theorem pushRecord_length (ring : List LineRecord) (r : LineRecord) (h : ring.length ≤ 256) :
    (pushRecord ring r).length ≤ 256 := by
  unfold pushRecord Config.ringMax
  split_ifs <;> simp <;> omega

theorem execCapTakeLine_kept {c : Instr} (h : execCapTakeLine s = .next t) : s.Kept c 4 t := by
  unfold execCapTakeLine at h
  split at h
  · cases h; exact .refl s
  · next ln rest _ =>
    have taken : s.Kept c 4 { s with capLines := rest } := {}
    have recorded (m : Nat) (hm : m ≤ s.cap.post) : s.Kept c 4
        { s with capLines := rest, cap.ring := pushRecord s.cap.ring (ln.record s.cap.mode), cap.post := m } :=
      { lists := fun ⟨hout, hrun, hqueue, hopen, hring, hpost⟩ =>
          ⟨hout, hrun, hqueue, hopen, pushRecord_length _ _ hring, hm.trans hpost⟩ }
    dsimp only at h
    split at h
    · cases h; exact recorded _ le_rfl
    · split_ifs at h <;> cases h
      · exact (recorded _ (Nat.sub_le _ 1)).trans (State.completeCapture_kept _)
      · exact recorded _ (Nat.sub_le _ 1)
    · cases h; exact taken
    · cases h; exact taken

end Events
end Sys2Proof.Machine
end

section
/-! SUPPORT. What each request keeps (`State.Kept`), and what every command but the two resets keeps. -/
-- One proof at a time: elaborated side by side, the proofs take more stacks than the check's memory holds.
set_option Elab.async false
namespace Sys2Proof.Machine

section Requests
variable {s t : State}

theorem State.mayTake_iff (s : State) :
    s.mayTake = true ↔ s.lnk.replies.length < 4 ∧ s.eng.resetPending = false := by
  simp only [State.mayTake, Bool.and_eq_true, decide_eq_true_eq, Bool.not_eq_true']
  rfl

/-- A command keeps what its block's answer keeps; a request is taken only where a reply place is free. -/
theorem State.takeRequest_kept {c : Instr} {kind : Nat} {mine : List Byte → Bool} {act : List Byte → State → Answer}
    (hact : ∀ body u, bodyFits kind body.length = true → mine body = true → State.Kept c 3 u (act body u).state)
    (h : s.takeRequest kind mine act = .next t) : s.Kept c 4 t := by
  unfold State.takeRequest at h
  split at h
  · cases h; exact .refl s
  · next f rest hin =>
    split_ifs at h with htake
    · obtain ⟨hmay, _, hmine⟩ := htake
      have hroom : s.lnk.replies.length ≤ 3 := Nat.le_of_lt_succ ((s.mayTake_iff.mp hmay).1)
      refine State.Kept.of_next ?_ h
      unfold State.takeFrame judgedLength
      have taken : s.Kept c 3 { s with lnk.inbound := rest } :=
        { queues := fun ⟨hlen, hrest⟩ => ⟨by rw [hin] at hlen; exact (Nat.le_succ _).trans hlen, hrest⟩ }
      have answered : s.Kept c 3 (if bodyFits kind f.body.length then act f.body { s with lnk.inbound := rest }
          else State.refuse { s with lnk.inbound := rest } .badLength []).state := by
        split_ifs with hfits
        · exact taken.trans (hact f.body _ hfits hmine)
        · exact taken
      generalize (if bodyFits kind f.body.length then act f.body { s with lnk.inbound := rest }
        else State.refuse { s with lnk.inbound := rest } .badLength []) = a at answered
      exact {
        answered with
        replies := fun _ => by
          have hlen := answered.replies hroom
          simp only [Answer.reply, List.length_append, List.length_singleton]
          omega }
    · cases h; exact .refl s

theorem execUnknownKind_kept {c : Instr} (h : execUnknownKind s = .next t) : s.Kept c 4 t := by
  unfold execUnknownKind at h
  split at h
  · cases h; exact .refl s
  · next f rest hin =>
    split_ifs at h with htake <;> cases h
    · obtain ⟨hmay, _⟩ := htake
      exact {
        queues := fun ⟨hlen, hrest⟩ => ⟨by rw [hin] at hlen; exact (Nat.le_succ _).trans hlen, hrest⟩
        replies := fun _ => by
          simp only [State.takeFrame, Answer.reply, State.refuse, List.length_append, List.length_singleton]
          exact (s.mayTake_iff.mp hmay).1 }
    · exact .refl s

end Requests

section Answers
variable {c : Instr} {n : Nat} (s : State)

/-! ### Engine -/

theorem State.sortStart_kept : s.Kept c n s.sortStart.state := by
  unfold State.sortStart
  split_ifs
  · exact .refl s
  · exact .refl s
  · exact s.setEngine_kept _ _

theorem State.sortStop_kept (body : List Byte) : s.Kept c n (s.sortStop body).state := by
  unfold State.sortStop
  dsimp only
  split_ifs
  · exact .refl s
  · exact .refl s
  · exact (s.stopDrain_life Part.old_placing).kept_old
  · exact (s.stopAbandon_life Part.old_placing).kept_old

theorem State.flush_kept : s.Kept c n s.flush.state := by
  have flushed : s.Kept c n s.flushed := (s.flushed_life Part.old_placing).kept_old
  unfold State.flush State.accept
  dsimp only
  exact flushed

theorem State.clear_kept : s.Kept .clear n s.clear.state := by
  have cleared : s.Kept .clear n { s with eng.flags := {} } := { flags := .inl rfl }
  unfold State.clear
  split_ifs
  · exact cleared.trans (State.setEngine_kept _ _ _)
  · exact .refl s
  · exact cleared

theorem State.requestReset_kept : s.Kept c n s.requestReset.state where

/-! ### Settings -/

theorem State.withSettings_kept (d : Cdu) (h : s.cdu.sound → d.sound) : s.Kept .set n (s.withSettings d) := by
  have written : s.Kept .set n { s with cdu := d } := { cdu := .inl (.inl rfl), settings := h }
  unfold State.withSettings
  dsimp only
  split_ifs
  · exact written
  · exact written.trans (State.computeLeads_kept _)

theorem State.setSettings_kept (body : List Byte) : s.Kept .set n (s.setSettings body).state := by
  unfold State.setSettings
  dsimp only
  split
  · exact .refl s
  · exact s.withSettings_kept _ (Cdu.applyItems_sound _)

theorem State.holdSettings_kept : s.Kept .hold n s.holdSettings.state where
  cdu := .inl (.inr (.inl rfl))
  settings := fun ⟨hline, hown, hstaged, _⟩ => ⟨hline, hown, hstaged, nofun⟩

theorem State.releaseSettings_kept : s.Kept .release n s.releaseSettings.state where
  cdu := .inl (.inr (.inr rfl))
  settings := Cdu.released_sound

/-! ### Survey and baselines -/

theorem State.surveyStart_kept (body : List Byte) : s.Kept c n (s.surveyStart body).state := by
  unfold State.surveyStart
  dsimp only
  split_ifs
  · exact .refl s
  · have started (acc : SurveyAcc) : s.Kept c n
        { s with blt.status := .running, blt.acc := acc, blt.results := none } := {}
    exact (started _).trans (State.setEngine_kept _ _ _)

theorem State.surveyStop_kept : s.Kept c n s.surveyStop.state := by
  unfold State.surveyStop
  split_ifs
  · exact (s.abortSurvey_life Part.old_placing.endings _).kept_old
  · exact .refl s

theorem State.surveyResult_kept : s.Kept c n s.surveyResult.state := by
  unfold State.surveyResult
  split <;> exact .refl s

theorem State.baselineRead_kept (body : List Byte) : s.Kept c n (s.baselineRead body).state := by
  unfold State.baselineRead
  dsimp only
  split
  · exact .refl s
  · split_ifs <;> exact .refl s

theorem State.baselineWrite_kept (body : List Byte) : s.Kept .baselineWrite n (s.baselineWrite body).state := by
  unfold State.baselineWrite
  dsimp only
  split
  · exact .refl s
  · split
    · exact .refl s
    · split
      · exact .refl s
      · split
        · exact .refl s
        · have written (b : Blt) (hb : b.refLevel = s.blt.refLevel) (hv : s.blt.valid = true → b.valid = true) :
              s.Kept .baselineWrite n { s with blt := b } :=
            { baseline := .inl (.inr rfl), refLevel := .inr hb, valid := hv }
          exact written _ rfl fun h => by simp [Blt.write, h]

/-! ### Recipes -/

theorem State.updateBank_kept (b : BankId) (f : Bank → Bank) : s.Kept c n (s.updateBank b f) where

theorem State.recipeOpen_kept : s.Kept c n s.recipeOpen.state := by
  unfold State.recipeOpen
  dsimp only
  split
  · exact s.updateBank_kept _ fun _ => Bank.opened
  · exact s.updateBank_kept _ fun _ => Bank.opened
  · exact .refl s
  · exact .refl s

theorem State.recipePutRecords_kept (body : List Byte) : s.Kept c n (s.recipePutRecords body).state := by
  unfold State.recipePutRecords
  dsimp only
  split
  · exact .refl s
  · split_ifs
    · exact .refl s
    · exact s.updateBank_kept _ _

theorem State.recipePutClasses_kept (body : List Byte) : s.Kept c n (s.recipePutClasses body).state := by
  unfold State.recipePutClasses
  dsimp only
  split
  · exact .refl s
  · split_ifs
    · exact .refl s
    · exact s.updateBank_kept _ _
    · exact .refl s

theorem State.recipeCommit_kept (body : List Byte) : s.Kept .recipeCommit n (s.recipeCommit body).state := by
  have swapped (x : Rcs) : s.Kept .recipeCommit n { s with rcs := x } := { generation := .inl rfl }
  unfold State.recipeCommit
  dsimp only
  split
  · exact .refl s
  · split_ifs
    · exact .refl s
    · split
      · exact .refl s
      · exact swapped _

theorem State.recipeAbandon_kept : s.Kept c n s.recipeAbandon.state := by
  unfold State.recipeAbandon
  split
  · exact .refl s
  · exact s.updateBank_kept _ fun _ => Bank.blank

/-! ### Lanes and valves -/

theorem State.laneRead_kept (body : List Byte) : s.Kept c n (s.laneRead body).state := by
  unfold State.laneRead
  split <;> exact .refl s

theorem State.enable_kept (l : Lane) (r : Row) : s.Kept .valveEnable n (s.enable l r) := by
  unfold State.enable
  split_ifs
  · exact (State.setValve_kept l r ((s.valve l r).idleIn .closed) (.inl rfl) fun h => h).trans
      (State.judge_life _ Part.old_placing.toJudging l r _).kept_old
  · exact .refl s

/-- VALVE_SET keeps all; only with action ENABLE may a valve leave DISABLED. -/
theorem State.valveSet_kept (body : List Byte) (h : byteAt body 2 = 0 → c = .valveEnable) :
    s.Kept c n (s.valveSet body).state := by
  unfold State.valveSet
  split
  · split_ifs with h0
    · rw [h h0]
      exact s.enable_kept _ _
    · exact (s.disable_life Part.old_placing _ _).kept_old
    · exact .refl s
  · exact .refl s

theorem State.valvePulse_kept (body : List Byte) : s.Kept c n (s.valvePulse body).state := by
  unfold State.valvePulse
  dsimp only
  split
  · split_ifs with _ hout
    · exact .refl s
    · exact .refl s
    · exact .refl s
    · exact .refl s
    · exact State.setValve_kept _ _ _ (.inr fun h => absurd (.inl h) hout) fun _ => Nat.min_le_left _ _
  · exact .refl s

/-! ### Capture and statistics -/

theorem State.captureArm_kept (body : List Byte) : s.Kept c n (s.captureArm body).state := by
  have armed (x : Cap) (hring : x.ring = []) (hpost : x.post ≤ 256) : s.Kept c n { s with cap := x } :=
    { lists := fun ⟨hout, hrun, hqueue, hopen, _, _⟩ =>
        ⟨hout, hrun, hqueue, hopen, by rw [hring]; exact Nat.zero_le _, hpost⟩ }
  unfold State.captureArm
  dsimp only
  split_ifs with _ hrange htrigger
  · exact .refl s
  · exact .refl s
  · refine armed _ rfl ?_
    unfold armNow
    dsimp only
    split_ifs <;> omega
  · refine armed _ rfl ?_
    unfold armClass
    dsimp only
    omega

theorem State.captureCancel_kept : s.Kept c n s.captureCancel.state where
  lists := fun ⟨hout, hrun, hqueue, hopen, _, hpost⟩ => ⟨hout, hrun, hqueue, hopen, Nat.zero_le _, hpost⟩

theorem State.captureRead_kept (body : List Byte) : s.Kept c n (s.captureRead body).state := by
  unfold State.captureRead
  split_ifs
  · exact .refl s
  · split <;> exact .refl s

theorem Sta.get_clearGroup_le (x : Sta) (code : Nat) (d : Counter) : (x.clearGroup code).get d ≤ x.get d := by
  simp only [Sta.get, Sta.clearGroup, look_tabulate]
  split_ifs
  · exact Nat.zero_le _
  · exact le_rfl

theorem State.statsAnswer_kept (body : List Byte) : s.Kept c n (s.statsAnswer body).state := by
  unfold State.statsAnswer
  dsimp only
  split_ifs
  · exact .refl s
  · exact { counts := fun ⟨hsta, hact⟩ => ⟨fun d => (Sta.get_clearGroup_le _ _ d).trans (hsta d), hact⟩ }
  · exact .refl s

end Answers

/-! ### Every command but the resets -/

/-- The length that VALVE_SET and SORT_STOP ask for leaves the row's own byte to tell the rows apart (log entry 18). -/
theorem byteAt_ne_of_notOther {n i other : Nat} {body : List Byte} (hn : body.length = n)
    (h : notOther n i other body = true) : byteAt body i ≠ other := by
  simpa [notOther, hn] using h

/-- What every command keeps that is no reset. -/
theorem exec_kept {c : Instr} {s t : State} (h : exec c s = .next t) (hc : isReset c = false) : s.Kept c 4 t := by
  cases c with
  | encoderTransition a b => exact execEncoderTransition_kept h
  | speedUpdate => exact execSpeedUpdate_kept h
  | lineRequestSend => exact execLineRequestSend_kept h
  | sensorFrameEnd bytes broken => exact execSensorFrameEnd_kept h
  | bltTakeLine => exact execBltTakeLine_kept h
  | segTakeLine => exact execSegTakeLine_kept h
  | ldmTakeLine => exact execLdmTakeLine_kept h
  | capTakeLine => exact execCapTakeLine_kept h
  | walkStart => exact execWalkStart_kept h
  | testEvaluate => exact execTestEvaluate_kept h
  | walkEnd => exact execWalkEnd_kept h
  | placePiece src => exact execPlacePiece_kept h
  | placeUntracked => exact execPlaceUntracked_kept h
  | maxOnExpiry l r => exact execMaxOnExpiry_kept h
  | minOffExpiry l r => exact execMinOffExpiry_kept h
  | pulseExpiry l r => exact execPulseExpiry_kept h
  | airLost => exact execAirLost_kept h
  | airRestored => exact execAirRestored_kept h
  | valveReturnFrame reports good broken => exact execValveReturnFrame_kept h
  | linkFrameEnd bytes => exact execLinkFrameEnd_kept h
  | linkFramingError => exact execLinkFramingError_kept h
  | gapAbort => exact execGapAbort_kept h
  | transmitFrame => exact execTransmitFrame_kept h
  | unknownKind => exact execUnknownKind_kept h
  | linkFrameStart => exact execLinkFrameStart_kept h
  | sensorFrameStart => exact execSensorFrameStart_kept h
  | returnFrameStart => exact execReturnFrameStart_kept h
  | linkFrameSent => exact execLinkFrameSent_kept h
  | softReset a b air => exact absurd hc (by simp [isReset])
  | hardReset a b air straps => exact absurd hc (by simp [isReset])
  | hello => exact State.takeRequest_kept (fun _ u _ _ => .refl u) h
  | status => exact State.takeRequest_kept (fun _ u _ _ => .refl u) h
  | set => exact State.takeRequest_kept (fun body u _ _ => u.setSettings_kept body) h
  | get => exact State.takeRequest_kept (fun _ u _ _ => .refl u) h
  | hold => exact State.takeRequest_kept (fun _ u _ _ => u.holdSettings_kept) h
  | release => exact State.takeRequest_kept (fun _ u _ _ => u.releaseSettings_kept) h
  | sortStart => exact State.takeRequest_kept (fun _ u _ _ => u.sortStart_kept) h
  | sortStopDrain => exact State.takeRequest_kept (fun body u _ _ => u.sortStop_kept body) h
  | sortStopAbandon => exact State.takeRequest_kept (fun body u _ _ => u.sortStop_kept body) h
  | flush => exact State.takeRequest_kept (fun _ u _ _ => u.flush_kept) h
  | clear => exact State.takeRequest_kept (fun _ u _ _ => u.clear_kept) h
  | reset => exact State.takeRequest_kept (fun _ u _ _ => u.requestReset_kept) h
  | surveyStart => exact State.takeRequest_kept (fun body u _ _ => u.surveyStart_kept body) h
  | surveyStop => exact State.takeRequest_kept (fun _ u _ _ => u.surveyStop_kept) h
  | surveyResult => exact State.takeRequest_kept (fun _ u _ _ => u.surveyResult_kept) h
  | baselineRead => exact State.takeRequest_kept (fun body u _ _ => u.baselineRead_kept body) h
  | baselineWrite => exact State.takeRequest_kept (fun body u _ _ => u.baselineWrite_kept body) h
  | recipeOpen => exact State.takeRequest_kept (fun _ u _ _ => u.recipeOpen_kept) h
  | recipePutRecords => exact State.takeRequest_kept (fun body u _ _ => u.recipePutRecords_kept body) h
  | recipePutClasses => exact State.takeRequest_kept (fun body u _ _ => u.recipePutClasses_kept body) h
  | recipeCommit => exact State.takeRequest_kept (fun body u _ _ => u.recipeCommit_kept body) h
  | recipeAbandon => exact State.takeRequest_kept (fun _ u _ _ => u.recipeAbandon_kept) h
  | recipeInfo => exact State.takeRequest_kept (fun _ u _ _ => .refl u) h
  | laneRead => exact State.takeRequest_kept (fun body u _ _ => u.laneRead_kept body) h
  | valveEnable => exact State.takeRequest_kept (fun body u _ _ => u.valveSet_kept body fun _ => rfl) h
  | valveDisable =>
    exact State.takeRequest_kept (fun body u hfits hmine => u.valveSet_kept body fun h0 =>
      absurd h0 (byteAt_ne_of_notOther (by simpa [bodyFits] using hfits) hmine)) h
  | valvePulse => exact State.takeRequest_kept (fun body u _ _ => u.valvePulse_kept body) h
  | valveState => exact State.takeRequest_kept (fun _ u _ _ => .refl u) h
  | captureArmNow => exact State.takeRequest_kept (fun body u _ _ => u.captureArm_kept body) h
  | captureArmClass => exact State.takeRequest_kept (fun body u _ _ => u.captureArm_kept body) h
  | captureCancel => exact State.takeRequest_kept (fun _ u _ _ => u.captureCancel_kept) h
  | captureRead => exact State.takeRequest_kept (fun body u _ _ => u.captureRead_kept body) h
  | statsRead => exact State.takeRequest_kept (fun body u _ _ => u.statsAnswer_kept body) h
  | statsReadClear => exact State.takeRequest_kept (fun body u _ _ => u.statsAnswer_kept body) h

end Sys2Proof.Machine
end

section
/-! SUPPORT. The commands of the belt by the sense of the transition (R1 to R3), and the resets as they end. -/
-- One proof at a time: elaborated side by side, the proofs take more stacks than the check's memory holds.
set_option Elab.async false
namespace Sys2Proof.Machine

/-! ### Transitions -/

theorem ticksForward_iff (p : Nat) (old new : Bool × Bool) :
    ticksForward p old new ↔ isForward p old new = true := by
  have cycle : ∀ x y : Bool × Bool, (x, y) ∈ forwardCycle ↔ nextPair x = y := by decide
  unfold ticksForward isForward
  split_ifs <;> simp [cycle]

/-- A tick changes one of the two levels, and is not also a tick of the other sense. -/
theorem ticksForward_single {p : Nat} {old new : Bool × Bool} (h : ticksForward p old new) :
    old ≠ new ∧ ¬ (old.1 ≠ new.1 ∧ old.2 ≠ new.2) ∧ ¬ ticksForward p new old := by
  have single : ∀ x y : Bool × Bool, (x, y) ∈ forwardCycle →
      x ≠ y ∧ ¬ (x.1 ≠ y.1 ∧ x.2 ≠ y.2) ∧ (y, x) ∉ forwardCycle := by decide
  unfold ticksForward at h ⊢
  split_ifs at h ⊢
  · exact single _ _ h
  · obtain ⟨hne, hone, hrev⟩ := single _ _ h
    exact ⟨hne.symm, fun hb => hone ⟨hb.1.symm, hb.2.symm⟩, hrev⟩

section Encoder
variable (s : State) (a b : Bool)

/-- The new pair of levels taken as the reference pair. -/
def State.paired : State := { s with bpu.refA := a, bpu.refB := b }

theorem exec_encoder_same : exec (.encoderTransition s.bpu.refA s.bpu.refB) s = .next s := by
  simp [exec, execEncoderTransition]

theorem exec_encoder_error :
    exec (.encoderTransition (!s.bpu.refA) (!s.bpu.refB)) s =
      .next ((s.paired (!s.bpu.refA) (!s.bpu.refB)).count .encoderErrors 1) := by
  simp [exec, execEncoderTransition, State.paired]

theorem exec_encoder_forward (h : ticksForward (s.own .encPolarity) (s.bpu.refA, s.bpu.refB) (a, b)) :
    exec (.encoderTransition a b) s = .next (s.paired a b).forwardTick := by
  obtain ⟨hne, hone, _⟩ := ticksForward_single h
  unfold exec execEncoderTransition
  dsimp only
  rw [if_neg hne, if_neg hone, if_pos ((ticksForward_iff _ _ _).mp h)]
  rfl

theorem exec_encoder_backward (h : ticksBackward (s.own .encPolarity) (s.bpu.refA, s.bpu.refB) (a, b)) :
    exec (.encoderTransition a b) s = .next (s.paired a b).backwardTick := by
  obtain ⟨hne, hone, hnot⟩ := ticksForward_single h
  unfold exec execEncoderTransition
  dsimp only
  rw [if_neg hne.symm, if_neg fun hb => hone ⟨hb.1.symm, hb.2.symm⟩, if_neg fun hf => hnot ((ticksForward_iff _ _ _).mpr hf)]
  rfl

/-- What a transition does: nothing, an error, or a tick. -/
theorem exec_encoder_cases {t : State} (h : exec (.encoderTransition a b) s = .next t) :
    t = s ∨ t = (s.paired a b).count .encoderErrors 1 ∨
      (ticksForward (s.own .encPolarity) (s.bpu.refA, s.bpu.refB) (a, b) ∧ t = (s.paired a b).forwardTick) ∨
      t = (s.paired a b).backwardTick := by
  unfold exec execEncoderTransition at h
  dsimp only at h
  split_ifs at h with _ _ hf
  · exact .inl (Host.Outcome.next.inj h).symm
  · exact .inr (.inl (Host.Outcome.next.inj h).symm)
  · exact .inr (.inr (.inl ⟨(ticksForward_iff _ _ _).mpr hf, (Host.Outcome.next.inj h).symm⟩))
  · exact .inr (.inr (.inr (Host.Outcome.next.inj h).symm))

end Encoder

/-! ### The belt through a tick -/

section Tick
variable (s : State)

theorem State.bpu_of_steady {s t : State} (h : t.steady = s.steady) : t.bpu = s.bpu := congrArg Steady.bpu h

theorem State.raiseFault_bpu (k : FaultKind) : (s.raiseFault k).bpu = s.bpu :=
  congrArg Steady.bpu (s.raiseFault_steady k)

theorem State.snapped_bpu : s.snapped.bpu = s.bpu := by unfold State.snapped; split_ifs <;> rfl

theorem State.declareMissing_bpu (t : Trigger) : (s.declareMissing t).bpu = s.bpu := by
  rw [State.declareMissing_eq]
  split_ifs
  · exact State.raiseFault_bpu _ _
  · rfl

theorem State.withRoom_bpu : s.withRoom.bpu = s.bpu := by
  unfold State.withRoom
  split
  · rfl
  · split_ifs
    · exact State.declareMissing_bpu _ _
    · rfl

theorem State.takeTrigger_bpu (seq : SeqNo) (start stop : Nat) : (s.takeTrigger seq start stop).bpu = s.bpu :=
  (State.withRoom_bpu _).trans s.snapped_bpu

theorem State.lineTimer_pos : s.lineTimer.bpu.pos = s.bpu.pos := by
  unfold State.lineTimer
  dsimp only
  split_ifs
  · rw [State.takeTrigger_bpu]; rfl
  · rfl

/-- The state at the new position, with POSITION_EXHAUSTED raised where it is the last one (R8). -/
def State.moved : State :=
  if s.bpu.pos + 1 = Config.posMax then State.raiseFault .positionExhausted { s with bpu.pos := s.bpu.pos + 1 }
  else { s with bpu.pos := s.bpu.pos + 1 }

theorem State.moved_bpu : s.moved.bpu = { s.bpu with pos := s.bpu.pos + 1 } := by
  unfold State.moved
  split_ifs
  · rw [State.raiseFault_bpu]
  · rfl

theorem State.advance_eq : s.advance = (s.moved.lineTimer.judgeAll (.ordinary s.openReach)).retireGuards := rfl

theorem State.retireGuards_judgeAll_steady (o : Opening) : (s.judgeAll o).retireGuards.steady = s.steady :=
  (State.retireGuards_steady _).trans (State.judgeAll_steady _ o)

theorem State.advance_steady : s.advance.steady = s.moved.lineTimer.steady :=
  (congrArg State.steady s.advance_eq).trans (State.retireGuards_judgeAll_steady _ _)

theorem State.advance_pos : s.advance.bpu.pos = s.bpu.pos + 1 := by
  rw [State.bpu_of_steady s.advance_steady, State.lineTimer_pos, State.moved_bpu]

theorem State.forwardTick_pos (h : s.forwardTick.bpu.pos ≠ s.bpu.pos) :
    s.bpu.debt = 0 ∧ s.bpu.pos < 281474976710655 ∧ s.forwardTick.bpu.pos = s.bpu.pos + 1 := by
  unfold State.forwardTick at h ⊢
  split_ifs at h ⊢ with hdebt hpos
  · exact absurd rfl h
  · exact ⟨Nat.eq_zero_of_not_pos hdebt, hpos, s.advance_pos⟩
  · exact absurd rfl h

theorem State.backwardTick_pos : s.backwardTick.bpu.pos = s.bpu.pos := by
  unfold State.backwardTick
  dsimp only
  split_ifs
  · rw [State.raiseFault_bpu]
  · rfl
  · rfl

end Tick

/-! ### The valves and counts of a reset -/

theorem mem_valveOrder (l : Lane) (r : Row) : (l, r) ∈ valveOrder := by
  cases r <;> simp [valveOrder]

theorem Sta.get_clearGroup (x : Sta) (code : Nat) (d : Counter) :
    (x.clearGroup code).get d =
      if (groupPlaces code).1 ≤ d.ix.val ∧ d.ix.val < (groupPlaces code).1 + (groupPlaces code).2 then 0 else x.get d := by
  simp only [Sta.get, Sta.clearGroup, look_tabulate]

/-- After a soft reset only the counts of the LINK group, whose places are 49 to 56, stand (R207). -/
theorem Sta.get_softened (x : Sta) (d : Counter) : x.softened.get d = if 49 ≤ d.ix.val then x.get d else 0 := by
  simp only [Sta.softened, Sta.get_clearGroup, groupPlaces]
  split_ifs <;> omega

theorem Counter.ix_link (d : Counter) : 49 ≤ d.ix.val ↔ d ∈ [Counter.framesGood, .checkErrors, .framingErrors,
    .gapAborts, .overruns, .noticesLost, .piecesLost, .suppressed] := by
  cases d with
  | ofClass k =>
    cases k with
    | cls c => simp only [Counter.ix, List.mem_cons, reduceCtorEq, List.not_mem_nil, or_self, iff_false]; omega
    | _ => simp [Counter.ix]
  | ofOutcome o => cases o <;> simp [Counter.ix, PieceOutcome.code]
  | ofRetire r => cases r <;> simp [Counter.ix, RetireReason.index]
  | _ => simp [Counter.ix]

theorem State.valve_softened (s : State) (a b : Bool) (air : Air) (l : Lane) (r : Row) :
    (s.softened a b air).valve l r = (s.valve l r).softened := by
  cases r <;> simp [State.valve, State.softened, ValvePair.get]

theorem State.valve_reset (l : Lane) (r : Row) : State.reset.valve l r = Valve.rest := by
  cases r <;> simp [State.valve, State.reset, ValvePair.get]

/-! ### Air at the end of a reset -/

/-- AIR_LOST raised in IDLE sets its flag and places one notice (R174, R177). -/
theorem State.raiseFault_airLost_idle (s : State) (he : s.eng.state = .idle) (hn : s.lnk.notices.length < 64) :
    s.raiseFault .airLost = { s with
      eng.flags := s.eng.flags.raise .airLost
      lnk.notices := s.lnk.notices ++
        [.fault (.raised .airLost) .idle (s.eng.flags.raise .airLost) s.bpu.pos] } := by
  have hroom : (s.flag .airLost).lnk.notices.length < Config.noticeMax := hn
  have hstate : (s.flag .airLost).eng.state = .idle := he
  have raised : s.raiseFault .airLost = (s.flag .airLost).enqueueNotice
      (.fault (.raised .airLost) .idle (s.flag .airLost).eng.flags (s.flag .airLost).bpu.pos) := by
    simp only [State.raiseFault, he, hstate, reduceCtorEq, or_self, and_false, if_false, State.offer,
      State.suppresses, Bool.false_eq_true, hroom, if_true]
  rw [raised]
  rfl

theorem State.judgeAir_idle (s : State) (he : s.eng.state = .idle) (hf : s.eng.flags = {})
    (hn : s.lnk.notices.length < 64) :
    s.judgeAir = { s with
      eng.flags := if s.vdr.air = .lost then { airLost := true } else {}
      lnk.notices := s.lnk.notices ++
        if s.vdr.air = .lost then [.fault (.raised .airLost) .idle { airLost := true } s.bpu.pos] else [] } := by
  unfold State.judgeAir
  split
  · next ha => simp [ha, ← hf]
  · next ha => simp [ha, State.raiseFault_airLost_idle s he hn, hf, FaultFlags.raise]

end Sys2Proof.Machine
end

section
/-! SUPPORT. The reset state, and the settled statements on resets, idle time, encoder errors and events that cannot
occur. -/
-- One proof at a time: elaborated side by side, the proofs take more stacks than the check's memory holds.
set_option Elab.async false
namespace Sys2Proof.Machine

/-! ### The reset state -/

theorem State.piece_reset (i : Slot) : State.reset.piece i = none := by simp [State.piece, State.reset]

theorem State.lane_reset (l : Lane) : State.reset.lane l = [] := by simp [State.lane, State.reset]

theorem State.bank_reset (b : BankId) : State.reset.bank b = Bank.blank := by simp [State.bank, State.reset]

theorem State.slotsIn_reset (ph : Phase) : State.reset.slotsIn ph = [] := by
  refine List.eq_nil_iff_forall_not_mem.mpr fun i hi => ?_
  obtain ⟨p, hp, _⟩ := State.mem_slotsIn.mp hi
  rw [State.piece_reset] at hp
  cases hp

theorem Sta.get_reset (d : Counter) : State.reset.sta.get d = 0 := by simp [Sta.get, State.reset]

/-- A bus that has carried only closed outputs, and one for the valve, shows the valve closed. -/
theorem lastWrite_closed {ws : List BusWrite} {l : Lane} {r : Row} (hm : (⟨l, r, false⟩ : BusWrite) ∈ ws)
    (hc : ∀ w ∈ ws, w.opened = false) : lastWrite ws l r = some false := by
  unfold lastWrite
  have found : (ws.reverse.find? fun w => decide (w.lane = l ∧ w.row = r)).isSome := by
    rw [List.find?_isSome]
    exact ⟨_, List.mem_reverse.mpr hm, by simp⟩
  obtain ⟨w, hw⟩ := Option.isSome_iff_exists.mp found
  rw [hw, Option.map_some, hc w (List.mem_reverse.mp (List.mem_of_find?_eq_some hw))]

theorem lastWrite_closedBus (l : Lane) (r : Row) : lastWrite closedBus l r = some false := by
  refine lastWrite_closed (List.mem_map.mpr ⟨(l, r), mem_valveOrder l r, rfl⟩) fun w hw => ?_
  obtain ⟨v, _, rfl⟩ := List.mem_map.mp hw
  rfl

theorem State.reset_settingsSound : State.reset.settingsSound := Cdu.defaults_sound

theorem State.reset_beltSound : State.reset.beltSound :=
  ⟨Nat.zero_le _, Nat.zero_le _, nofun, Nat.zero_le _, Nat.zero_le _, Nat.zero_le _⟩

theorem State.reset_linkSound : State.reset.linkSound :=
  ⟨Nat.zero_le _, Nat.zero_le _, by simp [State.reset], by simp [State.reset, Notice.isPiece], Nat.zero_le _⟩

theorem State.reset_listsSound : State.reset.listsSound := by
  refine ⟨Nat.zero_le _, Nat.zero_le _, Nat.zero_le _, ?_, Nat.zero_le _, Nat.zero_le _⟩
  rw [State.openCount, State.slotsIn_reset]
  exact Nat.zero_le _

theorem State.reset_countsSound : State.reset.countsSound :=
  ⟨fun d => by rw [Sta.get_reset]; exact Nat.zero_le _, fun l r => by rw [State.valve_reset]; exact Nat.zero_le _⟩

theorem State.reset_recipesSound : State.reset.recipesSound := by
  refine ⟨by simp only [State.bank_reset]; trivial, fun b => ⟨?_, fun _ => ?_, ?_⟩⟩
  · simp [State.bank_reset, Bank.blank, State.pinned, State.piece_reset]
  · simp [State.bank_reset, Bank.blank]
  · simp [State.bank_reset, Bank.blank]

theorem State.reset_lanesSound : State.reset.lanesSound := fun l => by
  simp [State.lane_reset, laneSound]

theorem State.reset_valvesSound : State.reset.valvesSound :=
  ⟨fun l r => by rw [State.valve_reset]; exact lastWrite_closedBus l r, fun _ l r => by rw [State.valve_reset]; rfl⟩

theorem State.reset_activitySound : State.reset.activitySound := fun l r => by
  simp [State.rowEntries, State.lane_reset, State.valve_reset, Valve.rest]

theorem State.reset_engineSound : State.reset.engineSound := ⟨⟨nofun, nofun⟩, nofun⟩

/-! ### One microsecond -/

/-- Every timer one microsecond on. -/
def State.ticked (s : State) : State := { s with vdr.valves := tabulate 48 fun l => (look s.vdr.valves l).tick }

theorem State.valve_ticked (s : State) (l : Lane) (r : Row) : s.ticked.valve l r = (s.valve l r).tick := by
  cases r <;> simp [State.ticked, State.valve, ValvePair.tick, ValvePair.get]

/-- The state after one microsecond: beside the timers only interval and queue differ. -/
theorem State.microsecond_eq (s : State) : s.microsecond =
    { s.ticked with
      sinceSpeed := if 999 ≤ s.sinceSpeed then 0 else s.sinceSpeed + 1
      pending := s.pending ++ s.ticked.dueExpiries ++ if 999 ≤ s.sinceSpeed then [.speedUpdate] else [] } := by
  unfold State.microsecond speedPeriod
  by_cases h : 999 ≤ s.sinceSpeed
  · have h1 : 1000 ≤ s.sinceSpeed + 1 := Nat.succ_le_succ h
    simp [h, h1, State.ticked]
  · have h1 : ¬ 1000 ≤ s.sinceSpeed + 1 := fun g => h (Nat.le_of_succ_le_succ g)
    simp [h, h1, State.ticked]

theorem State.valve_microsecond (s : State) (l : Lane) (r : Row) : s.microsecond.valve l r = (s.valve l r).tick := by
  rw [State.microsecond_eq]
  exact s.valve_ticked l r

/-- The commands that a microsecond puts into an empty queue. -/
theorem State.mem_microsecond_pending (s : State) (hs : s.pending = []) (c : Instr) :
    c ∈ s.microsecond.pending ↔
      (∃ l r, c ∈ ((s.valve l r).tick).dueCommands l r) ∨ (999 ≤ s.sinceSpeed ∧ c = .speedUpdate) := by
  rw [State.microsecond_eq]
  simp only [hs, List.nil_append, List.mem_append, State.dueExpiries, List.mem_flatMap, State.valve_ticked]
  refine or_congr ⟨fun ⟨v, _, hv⟩ => ⟨v.1, v.2, hv⟩, fun ⟨l, r, hv⟩ => ⟨(l, r), mem_valveOrder l r, hv⟩⟩ ?_
  split_ifs with h <;> simp [h]

/-- The expiries due from the timers of a valve name that valve. -/
theorem Valve.mem_dueCommands (v : Valve) (l : Lane) (r : Row) (c : Instr) :
    c ∈ v.tick.dueCommands l r ↔
      (c = .maxOnExpiry l r ∧ ∃ m, v.maxOn = some m ∧ m.limit ≤ m.elapsed + 1) ∨
      (c = .minOffExpiry l r ∧ ∃ n, v.minOff = some n ∧ n ≤ 1) ∨
      (c = .pulseExpiry l r ∧ ∃ n, v.pulse = some n ∧ n ≤ 1) := by
  have listed (p : Prop) [Decidable p] (x : Instr) : c ∈ (if p then [x] else []) ↔ c = x ∧ p := by
    split_ifs with hp <;> simp [hp]
  have ended (x : Option Nat) : x.map (fun n => n - 1) = some 0 ↔ ∃ n, x = some n ∧ n ≤ 1 := by
    cases x <;> simp; omega
  have due : ((v.tick.maxOn.map OnTimer.due).getD false) = true ↔ ∃ m, v.maxOn = some m ∧ m.limit ≤ m.elapsed + 1 := by
    cases h : v.maxOn <;> simp [Valve.tick, h, OnTimer.due]
  unfold Valve.dueCommands
  rw [List.mem_append, List.mem_append, listed, listed, listed, due, or_assoc]
  exact or_congr_right (or_congr (and_congr_right' (ended _)) (and_congr_right' (ended _)))

end Sys2Proof.Machine
end

section
/-! The settled statements on the reset state, idle time, encoder errors and events that cannot occur. -/
-- One proof at a time: elaborated side by side, the proofs take more stacks than the check's memory holds.
set_option Elab.async false
namespace Sys2Proof.Machine

/-- Settles O59: the defaults are values that can be taken, and every table stands empty. -/
theorem resetStateIsSound : Obligations.ResetStateIsSound :=
  ⟨State.reset_settingsSound, State.reset_beltSound, State.reset_linkSound, State.reset_listsSound,
    State.reset_countsSound, State.reset_recipesSound, State.reset_lanesSound, State.reset_valvesSound,
    State.reset_activitySound, State.reset_engineSound, nofun, rfl, fun k => by cases k <;> rfl, rfl, rfl, rfl, rfl, rfl,
    rfl, fun i k => by cases k <;> simp [State.reset, Quad.get], fun k => by cases k <;> rfl, State.piece_reset, rfl, rfl,
    fun b => by rw [State.bank_reset]; rfl, State.lane_reset, State.valve_reset, rfl, rfl, rfl,
    fun i => LineSettings.get_defaults i, fun i => OwnSettings.get_defaults i⟩

/-- Settles O5: a transition of both levels at once is an error. -/
theorem encoderErrorIsCounted : Obligations.EncoderErrorIsCounted := by
  intro s
  refine ⟨_, exec_encoder_error s, rfl, fun d => ?_⟩
  rw [State.get_count]
  by_cases hd : d = .encoderErrors
  · subst hd; rfl
  · rw [if_neg (Ne.symm hd), if_neg hd]; rfl

/-- Settles O2: the queue of the next state is made of the expiries that the timers make due and, each thousandth
microsecond, SPEED_UPDATE. -/
theorem idleMicrosecondRunsTimers : Obligations.IdleMicrosecondRunsTimers := by
  intro s hs
  have hstep : step s = .next s.microsecond := by unfold step; rw [hs]
  have queued (c : Instr) := s.mem_microsecond_pending hs c
  simp only [Valve.mem_dueCommands] at queued
  refine ⟨s.microsecond, hstep, s.valve_microsecond, fun l r => ?_, fun l r => ?_, fun l r => ?_, ?_, ?_, ?_⟩
  · rw [queued]; simp
  · rw [queued]; simp
  · rw [queued]; simp
  · rw [queued]; simp
  · rw [State.microsecond_eq]
  · rw [State.microsecond_eq]
    cases s
    cases hs
    rfl

end Sys2Proof.Machine
end

section
/-! SUPPORT. The resets as they end, events for which the part holds none, and the settled statements on resets,
ownership and bounds. -/
-- One proof at a time: elaborated side by side, the proofs take more stacks than the check's memory holds.
set_option Elab.async false
namespace Sys2Proof.Machine

/-! ### Events that cannot occur -/

theorem execUnknownKind_idle {s : State}
    (h : s.lnk.inbound = [] ∨ 4 ≤ s.lnk.replies.length ∨ s.eng.resetPending = true) : execUnknownKind s = .next s := by
  unfold execUnknownKind
  obtain h | h := h
  · rw [h]
  · split
    · rfl
    · refine if_neg fun ⟨hmay, _⟩ => ?_
      obtain ⟨hroom, hpending⟩ := s.mayTake_iff.mp hmay
      exact h.elim (Nat.not_le_of_lt hroom) fun h => by simp [h] at hpending

theorem execTransmitFrame_idle {s : State}
    (h : s.lnk.sending ≠ none ∨ s.eng.resetReplySent = true ∨ (s.lnk.replies = [] ∧ s.lnk.notices = [])) :
    execTransmitFrame s = .next s := by
  unfold execTransmitFrame
  split_ifs with hfree
  · obtain ⟨hsend, hsent⟩ := hfree
    obtain h | h | ⟨hr, hn⟩ := h
    · exact absurd (Option.isNone_iff_eq_none.mp hsend) h
    · simp [h] at hsent
    · simp [State.choose, hr, hn]
  · rfl

theorem execLinkFrameEnd_idle {s : State} {bytes : List Byte} (h : s.lnk.inFrame = false ∨ bytes.length < 4 ∨
    (field bytes 2 2 ≤ 1024 ∧ bytes.length < field bytes 2 2 + 6)) : execLinkFrameEnd bytes s = .next s := by
  unfold execLinkFrameEnd
  dsimp only
  rw [← or_assoc] at h
  obtain h | ⟨hmax, hshort⟩ := h
  · rw [if_pos h]
  · have hwhole : ¬ Config.bodyMax < statedLength bytes := Nat.not_lt_of_le hmax
    have hpart : bytes.length < wholeLength (statedLength bytes) := hshort
    rw [if_neg hwhole, if_pos hpart, ite_self]

theorem State.oldestHandoff_eq_none {s : State} {src : HandoffSource} (h : ∀ x ∈ s.lsc.handoffs, x.isFrom src = false) :
    s.oldestHandoff src = none :=
  List.find?_eq_none.mpr fun x hx => by simp [h x hx]

theorem execPlacePiece_idle {s : State} {src : HandoffSource} (h : ∀ x ∈ s.lsc.handoffs, x.isFrom src = false) :
    execPlacePiece src s = .next s := by
  unfold execPlacePiece
  rw [State.oldestHandoff_eq_none h]

theorem execPlaceUntracked_idle {s : State} (h : ∀ x ∈ s.lsc.handoffs, x.isFrom .segmenter = false) :
    execPlaceUntracked s = .next s := by
  unfold execPlaceUntracked
  rw [State.oldestHandoff_eq_none h]

theorem execLineRequestSend_idle {s : State} (h : ∀ e ∈ s.sli.outstanding, e.requested = true) :
    execLineRequestSend s = .next s := by
  have hnone : (s.sli.outstanding.find? fun t => !t.requested) = none :=
    List.find?_eq_none.mpr fun x hx => by simp [h x hx]
  unfold execLineRequestSend
  rw [hnone]

theorem execWalkStart_idle {s : State} (h : s.cls.walk ≠ none ∨ s.cls.queue = []) : execWalkStart s = .next s := by
  unfold execWalkStart
  split
  · next hw hq => simp [hw, hq] at h
  · rfl

/-- Settles O3: each meaning's arm for the state without the event. -/
theorem eventsThatCannotOccurChangeNothing : Obligations.EventsThatCannotOccurChangeNothing := by
  intro s
  refine ⟨exec_encoder_same s, execLineRequestSend_idle, ?sensor, ?blt, ?seg, ?ldm, ?cap, execWalkStart_idle, ?tested,
    ?walking, ?noWalk, fun _ => execPlacePiece_idle, execPlaceUntracked_idle, ?timers, ?airLost, ?airRestored,
    ?returned, fun _ => execLinkFrameEnd_idle, ?hunt, execTransmitFrame_idle, ?sent, execUnknownKind_idle, ?reset⟩
  case sensor => intro bytes broken h; simp [exec, execSensorFrameEnd, h]
  case blt => intro h; simp [exec, execBltTakeLine, h]
  case seg => intro h; simp [exec, execSegTakeLine, h]
  case ldm => intro h; simp [exec, execLdmTakeLine, h]
  case cap => intro h; simp [exec, execCapTakeLine, h]
  case tested => intro w k f hw hp; simp [exec, execTestEvaluate, hw, hp]
  case walking => intro w i hw hp; simp [exec, execWalkEnd, hw, hp]
  case noWalk => intro hw; simp [exec, execTestEvaluate, execWalkEnd, hw]
  case timers =>
    intro l r
    refine ⟨fun h => if_neg fun ⟨hs, hm⟩ => ?_, fun h => if_neg h, fun h => if_neg fun ⟨hs, hp⟩ => ?_⟩
    · exact h.elim (· hs) fun hn => by simp [hn] at hm
    · exact h.elim (· hs) (· hp)
  case airLost => intro h; simp [exec, execAirLost, h]
  case airRestored => intro h; simp [exec, execAirRestored, h]
  case returned => intro reports good broken h; simp [exec, execValveReturnFrame, h]
  case hunt => intro h; simp [exec, execLinkFramingError, execGapAbort, h]
  case sent => intro h; simp [exec, execLinkFrameSent, h]
  case reset =>
    intro a b air h
    exact if_neg fun ⟨hp, hs⟩ => by simp [hp, hs] at h

/-! ### The resets -/

theorem exec_softReset {s : State} (a b : Bool) (air : Air) (hp : s.eng.resetPending = true)
    (hs : s.eng.resetReplySent = true) :
    exec (.softReset a b air) s = .next { s.softened a b air with
      eng.flags := if air = .lost then { airLost := true } else {}
      lnk.notices := [.engine s.eng.state .idle .reset {} 0 .soft] ++
        if air = .lost then [.fault (.raised .airLost) .idle { airLost := true } 0] else [] } := by
  have hjudged := State.judgeAir_idle (s.softened a b air) rfl rfl (by simp [State.softened])
  calc exec (.softReset a b air) s = .next (s.softened a b air).judgeAir := if_pos ⟨hp, hs⟩
    _ = _ := by rw [hjudged]; rfl

theorem exec_hardReset (s : State) (a b : Bool) (air : Air) (straps : Fin 4) :
    exec (.hardReset a b air straps) s = .next { s.hardened a b air straps with
      eng.flags := if air = .lost then { airLost := true } else {}
      lnk.notices := [.engine .idle .idle .reset {} 0 .hard] ++
        if air = .lost then [.fault (.raised .airLost) .idle { airLost := true } 0] else [] } := by
  have hjudged := State.judgeAir_idle (s.hardened a b air straps) rfl rfl (by simp [State.hardened, State.reset])
  calc exec (.hardReset a b air straps) s = .next (s.hardened a b air straps).judgeAir := rfl
    _ = _ := by rw [hjudged]; rfl

/-- Settles O57: both resets set each block to its reset values, and a lost air is raised in IDLE. -/
theorem resetsTakeEffect : Obligations.ResetsTakeEffect := by
  refine ⟨fun s a b air hp hs => ⟨_, exec_softReset a b air hp hs, ?_⟩, exec_hardReset⟩
  refine ⟨rfl, rfl, rfl, rfl, rfl, rfl, rfl, rfl, rfl, rfl, fun i => ?bank, rfl, rfl, rfl, rfl, ?bus, fun l r => ?valve,
    rfl, rfl, fun d => ?counts, rfl, rfl, rfl, rfl, rfl, rfl, rfl⟩
  case bank => exact look_tabulate _ i
  case bus => simp [State.softened, State.reset, closedBus, valveOrder, List.map_flatMap]
  case valve => exact s.valve_softened a b air l r
  case counts =>
    simp only [← Counter.ix_link]
    exact s.sta.get_softened d

end Sys2Proof.Machine
end

section
/-! The settled statements on ownership and bounds: every command but the resets keeps what `State.Kept` names, and the
resets are read off the states they end in. -/
-- One proof at a time: elaborated side by side, the proofs take more stacks than the check's memory holds.
set_option Elab.async false
namespace Sys2Proof.Machine

/-! ### Bounds -/

/-- What a step keeps of the bounds. -/
def State.KeepsBounds (s t : State) : Prop :=
  (s.settingsSound → t.settingsSound ∧ (s.beltSound → t.beltSound)) ∧ (s.linkSound → t.linkSound) ∧
    (s.listsSound → t.listsSound) ∧ (s.countsSound → t.countsSound) ∧ (s.walksSound → t.walksSound)

theorem State.linkSound_iff (s : State) : s.linkSound ↔ s.queuesSound ∧ s.lnk.replies.length ≤ 4 := by
  unfold State.linkSound State.queuesSound
  tauto

theorem State.Kept.bounds {c : Instr} {s t : State} (h : s.Kept c 4 t) : s.KeepsBounds t := by
  refine ⟨fun hs => ⟨h.settings hs, h.belt hs⟩, fun hl => ?_, h.lists, h.counts, h.walks⟩
  obtain ⟨hq, hr⟩ := s.linkSound_iff.mp hl
  exact t.linkSound_iff.mpr ⟨h.queues hq, h.replies hr⟩

/-- The notices of a reset: the ENGINE notice, and the FAULT notice of a lost air. -/
theorem resetNotices_length (x y : Notice) (air : Air) :
    ([x] ++ if air = .lost then [y] else []).length ≤ 2 := by
  split_ifs <;> simp

theorem State.linkSound_of_notices {s : State} (hi : s.lnk.inbound = []) (hr : s.lnk.replies = [])
    (hn : s.lnk.notices.length ≤ 2) (hp : s.lnk.pendingLost = 0) : s.linkSound := by
  refine ⟨by simp [hi], by simp [hr], by omega, ?_, by simp [hp]⟩
  have := List.length_filter_le Notice.isPiece s.lnk.notices
  omega

theorem softReset_bounds {s t : State} {a b : Bool} {air : Air} (h : exec (.softReset a b air) s = .next t) :
    s.KeepsBounds t := by
  by_cases hreset : s.eng.resetPending = true ∧ s.eng.resetReplySent = true
  · rw [exec_softReset a b air hreset.1 hreset.2] at h
    obtain rfl := Host.Outcome.next.inj h
    refine ⟨fun ⟨hline, hown, _, _⟩ => ⟨⟨hline, hown, fun i v hv => ?_, fun _ i => StagedSet.get_empty i⟩, fun _ => ?_⟩,
      fun _ => ?_, fun _ => ?_, fun ⟨hsta, hact⟩ => ⟨fun d => ?_, fun l r => ?_⟩, fun _ w hw => nomatch hw⟩
    · simp [State.softened] at hv
    · exact State.reset_beltSound
    · exact State.linkSound_of_notices rfl rfl (resetNotices_length _ _ air) rfl
    · obtain ⟨_, _, _, hopen, _, _⟩ := State.reset_listsSound
      exact ⟨Nat.zero_le _, Nat.zero_le _, Nat.zero_le _, hopen, Nat.zero_le _, Nat.zero_le _⟩
    · refine le_trans (le_of_eq (s.sta.get_softened d)) ?_
      split_ifs
      · exact hsta d
      · exact Nat.zero_le _
    · exact (congrArg Valve.actuations (s.valve_softened a b air l r)).trans_le (hact l r)
  · have hsame : s = t := Host.Outcome.next.inj ((if_neg hreset).symm.trans h)
    exact hsame ▸ (State.Kept.refl (c := .speedUpdate) s).bounds

theorem hardReset_bounds {s t : State} {a b : Bool} {air : Air} {straps : Fin 4}
    (h : exec (.hardReset a b air straps) s = .next t) : s.KeepsBounds t := by
  rw [exec_hardReset] at h
  obtain rfl := Host.Outcome.next.inj h
  exact ⟨fun _ => ⟨State.reset_settingsSound, fun _ => State.reset_beltSound⟩,
    fun _ => State.linkSound_of_notices rfl rfl (resetNotices_length _ _ air) rfl,
    fun _ => State.listsSound_of_open State.reset_listsSound rfl rfl rfl fun h => h,
    fun _ => State.reset_countsSound, fun _ w hw => nomatch hw⟩

theorem exec_bounds {c : Instr} {s t : State} (h : exec c s = .next t) : s.KeepsBounds t := by
  by_cases hc : isReset c = true
  · cases c with
    | softReset a b air => exact softReset_bounds h
    | hardReset a b air straps => exact hardReset_bounds h
    | _ => cases hc
  · exact (exec_kept h (Bool.not_eq_true _ ▸ hc)).bounds

theorem microsecond_bounds (s : State) : s.KeepsBounds s.microsecond := by
  have hvalve := s.valve_microsecond
  obtain ⟨v, k, p, heq⟩ : ∃ v k p, s.microsecond = { s with vdr.valves := v, sinceSpeed := k, pending := p } :=
    ⟨_, _, _, s.microsecond_eq⟩
  rw [heq] at hvalve ⊢
  exact ⟨fun hs => ⟨hs, fun hb => hb⟩, fun hl => hl, fun hl => hl,
    fun ⟨hsta, hact⟩ => ⟨hsta, fun l r => by rw [hvalve]; exact hact l r⟩, fun hw => hw⟩

theorem State.KeepsBounds.of_next {s t u : State} (k : s.KeepsBounds u)
    (h : (Host.Outcome.next u : Host.Outcome State Fault Refusal) = .next t) : s.KeepsBounds t :=
  Host.Outcome.next.inj h ▸ k

theorem step_bounds {s t : State} (h : step s = .next t) : s.KeepsBounds t := by
  unfold step at h
  split at h
  · next c rest _ =>
    have taken : ({ s with pending := rest } : State).KeepsBounds t := exec_bounds h
    exact taken
  · exact (microsecond_bounds s).of_next h

/-- Settles O58: each part of each command keeps the bounds, and so does a microsecond. -/
theorem stateStaysInItsBounds : Obligations.StateStaysInItsBounds :=
  ⟨fun _ _ h => (step_bounds h).1, fun _ _ h => (step_bounds h).2⟩

/-! ### Owners -/

/-- Only a forward tick that pays no debt moves the position, and by one (R7). -/
theorem encoder_moves_pos {s t : State} {a b : Bool} (h : exec (.encoderTransition a b) s = .next t)
    (hpos : t.bpu.pos ≠ s.bpu.pos) :
    ticksForward (s.own .encPolarity) (s.bpu.refA, s.bpu.refB) (a, b) ∧ s.bpu.debt = 0 ∧
      s.bpu.pos < 281474976710655 ∧ t.bpu.pos = s.bpu.pos + 1 := by
  obtain rfl | rfl | ⟨hf, rfl⟩ | rfl := exec_encoder_cases s a b h
  · exact absurd rfl hpos
  · exact absurd rfl hpos
  · exact ⟨hf, (s.paired a b).forwardTick_pos hpos⟩
  · exact absurd (s.paired a b).backwardTick_pos hpos

/-- What a soft reset leaves in others' state (R57, R120, R167, R182). -/
theorem softReset_owners {s t : State} {a b : Bool} {air : Air} (h : exec (.softReset a b air) s = .next t) :
    t.pending = s.pending ∧ (t.bpu.pos ≠ s.bpu.pos → t.bpu.pos = 0) ∧ t.blt.baseline = s.blt.baseline ∧
      t.blt.refLevel = s.blt.refLevel ∧ t.blt.valid = s.blt.valid ∧ t.rcs.generation = s.rcs.generation ∧
      (∀ l r, (s.valve l r).state = .disabled → (t.valve l r).state = .disabled) ∧ t.lnk.rate = s.lnk.rate := by
  by_cases hreset : s.eng.resetPending = true ∧ s.eng.resetReplySent = true
  · rw [exec_softReset a b air hreset.1 hreset.2] at h
    obtain rfl := Host.Outcome.next.inj h
    refine ⟨rfl, fun _ => rfl, rfl, rfl, rfl, rfl, fun l r hd => ?_, rfl⟩
    exact (congrArg Valve.state (s.valve_softened a b air l r)).trans (if_pos hd)
  · obtain rfl : s = t := Host.Outcome.next.inj ((if_neg hreset).symm.trans h)
    exact ⟨rfl, fun hne => absurd rfl hne, rfl, rfl, rfl, rfl, fun _ _ hd => hd, rfl⟩

/-- Settles O49: a command that is no reset keeps what is another's (`exec_kept`); the resets are read off the states
they end in. -/
theorem stateHasItsOwners : Obligations.StateHasItsOwners := by
  intro c s t h
  by_cases hc : isReset c = true
  · cases c with
    | softReset a b air =>
      obtain ⟨hpending, hpos, hbase, href, hvalid, hgen, hdis, hrate⟩ := softReset_owners h
      exact ⟨hpending, fun hne => .inl ⟨rfl, hpos hne⟩, fun _ => .inr rfl, fun _ => .inr (.inr (.inr rfl)),
        fun hne => absurd hbase hne, fun hne => absurd href hne, fun hv hf => absurd (hvalid.trans hv) (by simp [hf]),
        fun _ => .inr rfl, fun hne => absurd hgen hne, fun _ _ _ => .inr rfl,
        fun l r hd hne => absurd (hdis l r hd) hne, fun hne => absurd hrate hne⟩
    | hardReset a b air straps =>
      rw [exec_hardReset] at h
      obtain rfl := Host.Outcome.next.inj h
      exact ⟨rfl, fun _ => .inl ⟨rfl, rfl⟩, fun _ => .inr rfl, fun _ => .inr (.inr (.inr rfl)),
        fun _ => .inr (.inr rfl), fun _ => .inr rfl, fun _ _ => rfl, fun _ => .inr rfl, fun _ => .inr rfl,
        fun _ _ _ => .inr rfl, fun _ _ _ _ => .inr rfl, fun _ => rfl⟩
    | _ => cases hc
  · have kept := exec_kept h (Bool.not_eq_true _ ▸ hc)
    refine ⟨kept.pending, fun hne => ?pos, fun hne => .inl (kept.speed.resolve_right hne), fun hne => ?cdu,
      fun hne => ?base, fun hne => .inl (kept.refLevel.resolve_right hne), fun hv hf => ?valid,
      fun hne => .inl (kept.number.resolve_right hne), fun hne => .inl (kept.generation.resolve_right hne),
      fun k hk hn => ?flags, fun l r hd hne => ?disabled, fun hne => absurd kept.rate hne⟩
    case pos =>
      obtain ⟨a, b, rfl⟩ := kept.pos.resolve_right hne
      exact .inr ⟨a, b, rfl, encoder_moves_pos h hne⟩
    case cdu => exact (kept.cdu.resolve_right hne).imp_right (·.imp_right .inl)
    case base => exact (kept.baseline.resolve_right hne).imp_right .inl
    case valid => exact absurd hf (by simp [kept.valid hv])
    case flags => exact .inl (kept.flags.resolve_right fun hf => by simp [hf k hk] at hn)
    case disabled => exact .inl (kept.disabled.resolve_right fun hf => hne (hf l r hd))

end Sys2Proof.Machine
end

section
/-! SUPPORT. The judgment of valves (R150): it reaches one lane and row only, it ends where no step applies, and after
the judgment of every valve each is settled. -/
-- One proof at a time: elaborated side by side, the proofs take more stacks than the check's memory holds.
set_option Elab.async false
namespace Sys2Proof.Machine

/-! ### Parts of a lane -/

theorem filter_erase_of_neg {α : Type} [DecidableEq α] {p : α → Bool} {a : α} (h : p a = false) (as : List α) :
    (as.erase a).filter p = as.filter p := by
  induction as with
  | nil => rfl
  | cons b bs ih =>
    by_cases hb : b = a
    · subst hb; simp [h]
    · simp [List.erase_cons_tail (show ¬ (b == a) = true by simpa using hb), List.filter_cons, ih]

theorem filter_exchange_of_neg {p : Entry → Bool} {old new : Entry} (ho : p old = false) (hn : p new = false)
    (es : List Entry) : (exchange old new es).filter p = es.filter p := by
  unfold exchange
  induction es with
  | nil => rfl
  | cons e es ih =>
    by_cases he : e = old
    · subst he; simp [ho, hn, ih]
    · simp [he, List.filter_cons, ih]

theorem length_exchange (old new : Entry) (es : List Entry) : (exchange old new es).length = es.length :=
  List.length_map _

/-- The entries of one row of a lane, GUARD entries among the rows. -/
def State.rowOf (s : State) (l : Lane) (x : EntryRow) : List Entry := (s.lane l).filter (·.row == x)

theorem State.rowEntries_eq (s : State) (l : Lane) (r : Row) : s.rowEntries l r = s.rowOf l (.ofRow r) := rfl

theorem EntryRow.ofRow_injective {r q : Row} (h : EntryRow.ofRow r = EntryRow.ofRow q) : r = q := by
  cases r with
  | up => cases q with
    | up => rfl
    | down => cases h
  | down => cases q with
    | up => cases h
    | down => rfl

/-- Nothing but a valve and its row of the lane differs. -/
structure State.SameBut (l : Lane) (r : Row) (s t : State) : Prop where
  rows : ∀ m x, ¬ (m = l ∧ x = .ofRow r) → t.rowOf m x = s.rowOf m x
  valves : ∀ m q, ¬ (m = l ∧ q = r) → t.valve m q = s.valve m q

section Judgment
variable {l : Lane} {r : Row} {s t u : State}

theorem State.SameBut.refl (s : State) : State.SameBut l r s s := ⟨fun _ _ _ => rfl, fun _ _ _ => rfl⟩

theorem State.SameBut.trans (h : State.SameBut l r s t) (g : State.SameBut l r t u) : State.SameBut l r s u :=
  ⟨fun m x hx => (g.rows m x hx).trans (h.rows m x hx), fun m q hq => (g.valves m q hq).trans (h.valves m q hq)⟩

theorem State.rowOf_retire (s : State) {l m : Lane} {e : Entry} (reason : RetireReason) {x : EntryRow}
    (h : ¬ (m = l ∧ x = e.row)) : (s.retire l e reason).rowOf m x = s.rowOf m x := by
  unfold State.rowOf
  rw [State.retire_lane]
  split_ifs with hl
  · subst hl
    exact filter_erase_of_neg (by simpa using fun hx => h ⟨rfl, hx.symm⟩) _
  · rfl

theorem State.rowOf_exchange (s : State) {l m : Lane} {old new : Entry} {x : EntryRow} (hn : new.row = old.row)
    (h : ¬ (m = l ∧ x = old.row)) : (s.setLane l (exchange old new (s.lane l))).rowOf m x = s.rowOf m x := by
  unfold State.rowOf
  rw [State.lane_setLane]
  split_ifs with hl
  · subst hl
    have hrow : (old.row == x) = false := by simpa using fun hx => h ⟨rfl, hx.symm⟩
    exact filter_exchange_of_neg hrow (by rw [hn]; exact hrow) _
  · rfl

theorem State.setValve_lane (l m : Lane) (r : Row) (v : Valve) : (s.setValve l r v).lane m = s.lane m := by
  simp only [State.lane, State.setValve_lsc]

theorem State.SameBut.retire {e : Entry} (he : e.row = .ofRow r) (reason : RetireReason) :
    State.SameBut l r s (s.retire l e reason) :=
  ⟨fun _ _ h => s.rowOf_retire reason (he ▸ h), fun _ _ _ => s.retire_valve _ _ _ _ _⟩

theorem State.SameBut.setValve (v : Valve) : State.SameBut l r s (s.setValve l r v) :=
  ⟨fun _ _ _ => by simp only [State.rowOf, State.setValve_lane],
    fun _ _ h => (State.valve_setValve l _ r _ v).trans (if_neg fun e => h ⟨e.1.symm, e.2.symm⟩)⟩

theorem State.SameBut.exchange {old new : Entry} (ho : old.row = .ofRow r) (hn : new.row = old.row) :
    State.SameBut l r s (s.setLane l (Sys2Proof.Machine.exchange old new (s.lane l))) :=
  ⟨fun _ _ h => s.rowOf_exchange hn (ho ▸ h), fun _ _ _ => rfl⟩

theorem State.mem_rowEntries {e : Entry} : e ∈ s.rowEntries l r ↔ e ∈ s.lane l ∧ e.row = .ofRow r := by
  simp [State.rowEntries, Entry.inRow]

theorem State.SameBut.openFor {e : Entry} (he : e.row = .ofRow r) (late : Bool) :
    State.SameBut l r s (s.openFor l r e late) :=
  (State.SameBut.setValve _).trans (State.SameBut.exchange he rfl)

theorem State.bridges_row {e n : Entry} (h : s.bridges r e n = true) : n.row = .ofRow r := by
  simp only [State.bridges, Entry.inRow, Bool.and_eq_true, beq_iff_eq] at h
  exact h.1.1

/-- The served entry retires; then the valve serves the next entry, or enters RECOVER. -/
theorem State.closeEntry_cases (s : State) (l : Lane) (r : Row) (e : Entry) :
    ∃ reason, (∃ n, n.row = .ofRow r ∧
        s.closeEntry l r e = (s.retire l e reason).setLane l
          (exchange n { n with active := true } ((s.retire l e reason).lane l))) ∨
      s.closeEntry l r e = (s.retire l e reason).enterRecover l r := by
  refine ⟨if e.lateStart then .firedLate else .fired, ?_⟩
  unfold State.closeEntry
  dsimp only
  generalize (if e.lateStart then RetireReason.firedLate else .fired) = reason
  split
  · split_ifs with hb
    · exact .inl ⟨_, State.bridges_row hb, rfl⟩
    · exact .inr rfl
  · exact .inr rfl

theorem State.SameBut.closeEntry {e : Entry} (he : e.row = .ofRow r) : State.SameBut l r s (s.closeEntry l r e) := by
  obtain ⟨reason, ⟨n, hn, hc⟩ | hc⟩ := s.closeEntry_cases l r e
  · exact hc ▸ (State.SameBut.retire he reason).trans (State.SameBut.exchange hn rfl)
  · exact hc ▸ (State.SameBut.retire he reason).trans (State.SameBut.setValve _)

theorem State.mem_of_find {p : Entry → Bool} {e : Entry} (h : (s.rowEntries l r).find? p = some e) :
    e ∈ s.lane l ∧ e.row = .ofRow r :=
  State.mem_rowEntries.mp (List.mem_of_find?_eq_some h)

theorem State.SameBut.judgeStep {o : Opening} {p : Bool} {x : State × Bool} (h : s.judgeStep l r o p = some x) :
    State.SameBut l r s x.1 := by
  obtain ⟨e, reason, he, hx, _⟩ | ⟨e, he, hx, _⟩ | ⟨e, late, he, hx, _⟩ := s.judgeStep_cases h
  · exact hx ▸ State.SameBut.retire (State.mem_of_find he).2 reason
  · exact hx ▸ State.SameBut.closeEntry (State.mem_of_find he).2
  · exact hx ▸ State.SameBut.openFor (State.mem_of_find he).2 late

theorem State.SameBut.judgeLoop (o : Opening) (n : Nat) (p : Bool) (s : State) :
    State.SameBut l r s (s.judgeLoop l r o n p) := by
  induction n generalizing s p with
  | zero => exact .refl s
  | succ n ih =>
    unfold State.judgeLoop
    split
    · next t q h => exact (State.SameBut.judgeStep h).trans (ih q t)
    · exact .refl s

/-! ### The steps of a judgment end -/

/-- What each step of a judgment lowers: entries left twice, and one more while the valve can still open. -/
def State.rank (s : State) (l : Lane) (r : Row) : Nat :=
  2 * (s.lane l).length + if (s.valve l r).state = .closed then 1 else 0

theorem State.rank_le : s.rank l r ≤ 2 * (s.lane l).length + 1 := by
  unfold State.rank
  split_ifs <;> omega

theorem State.length_retire {e : Entry} (he : e ∈ s.lane l) (reason : RetireReason) :
    ((s.retire l e reason).lane l).length + 1 = (s.lane l).length := by
  rw [State.retire_lane, if_pos rfl, List.length_erase_of_mem he]
  have := List.length_pos_of_mem he
  omega

theorem State.rank_retire {e : Entry} (he : e ∈ s.lane l) (reason : RetireReason) :
    (s.retire l e reason).rank l r + 2 = s.rank l r := by
  have := s.length_retire he reason
  simp only [State.rank, State.retire_valve]
  omega

theorem State.rank_exchange (old new : Entry) :
    (s.setLane l (exchange old new (s.lane l))).rank l r = s.rank l r := by
  unfold State.rank
  rw [State.lane_setLane, if_pos rfl, length_exchange]
  rfl

theorem State.rank_closeEntry {e : Entry} (he : e ∈ s.lane l) : (s.closeEntry l r e).rank l r < s.rank l r := by
  obtain ⟨reason, ⟨n, _, hc⟩ | hc⟩ := s.closeEntry_cases l r e
  · have := State.rank_retire (r := r) he reason
    rw [hc, State.rank_exchange]
    omega
  · have hlen := State.length_retire he reason
    have hle := State.rank_le (s := (s.retire l e reason).enterRecover l r) (l := l) (r := r)
    have hlane : ((s.retire l e reason).enterRecover l r).lane l = (s.retire l e reason).lane l :=
      State.setValve_lane _ _ _ _
    rw [hlane] at hle
    rw [hc]
    unfold State.rank at *
    omega

theorem State.rank_openFor {e : Entry} (hv : (s.valve l r).state = .closed) (late : Bool) :
    (s.openFor l r e late).rank l r < s.rank l r := by
  unfold State.openFor
  dsimp only
  rw [State.rank_exchange]
  simp [State.rank, State.setValve_lane, State.valve_setValve, hv]

theorem State.rank_judgeStep {o : Opening} {p : Bool} {x : State × Bool} (h : s.judgeStep l r o p = some x) :
    x.1.rank l r < s.rank l r := by
  obtain ⟨e, reason, he, hx, _⟩ | ⟨e, he, hx, _⟩ | ⟨e, late, he, hx, hv⟩ := s.judgeStep_cases h
  · have := State.rank_retire (r := r) (State.mem_of_find he).1 reason
    rw [hx]
    omega
  · exact hx ▸ State.rank_closeEntry (State.mem_of_find he).1
  · exact hx ▸ State.rank_openFor hv late

/-- With more fuel than the rank, a judgment stops where no step applies. -/
theorem State.judgeLoop_ends (o : Opening) (n : Nat) (p : Bool) (s : State) (h : s.rank l r < n) :
    ∃ q, (s.judgeLoop l r o n p).judgeStep l r o q = none := by
  induction n generalizing s p with
  | zero => omega
  | succ n ih =>
    unfold State.judgeLoop
    split
    · next t q ht => exact ih q t ((State.rank_judgeStep ht).trans_le (Nat.le_of_lt_succ h))
    · next hn => exact ⟨p, hn⟩

/-! ### Settled valves -/

/-- No PENDING entry has its close trigger reached. -/
theorem State.missedPending_none (h : s.missedPending l r = none) :
    ∀ e ∈ s.lane l, e.row = .ofRow r → e.active = false → s.bpu.pos + s.vdr.leadClose < e.stop := by
  intro e he hrow hact
  have := List.find?_eq_none.mp h e (State.mem_rowEntries.mpr ⟨he, hrow⟩)
  simpa [hact, State.closeReached] using this

theorem State.settled_of_judgeStep_none {o : Opening} {p : Bool} (h : s.judgeStep l r o p = none) :
    s.settled l r := by
  have missed : ∀ reason, (s.missedPending l r).map (fun e => (s.retire l e reason, p)) = none →
      s.missedPending l r = none := fun _ hm => Option.map_eq_none_iff.mp hm
  unfold State.judgeStep at h
  dsimp only at h
  unfold State.settled
  dsimp only
  cases hv : (s.valve l r).state with
  | opened =>
    refine ⟨fun _ hserved e he => ?_, fun hcan => ?_, nofun⟩
    · simp only [hv, hserved, he] at h
      simpa [State.closeReached] using h
    · have hserved : (s.valve l r).served = .pulse := by simpa using hcan
      simp only [hv, hserved] at h
      exact State.missedPending_none (missed _ h)
  | recover =>
    simp only [hv] at h
    exact ⟨nofun, fun _ => State.missedPending_none (missed _ h), nofun⟩
  | closed =>
    refine ⟨nofun, fun hcan => ?_, fun _ hair e he => ?_⟩
    · have hair : s.vdr.air = .lost := by simpa using hcan
      simp only [hv, hair] at h
      exact State.missedPending_none (missed _ h)
    · simp only [hv, hair, he] at h
      simpa [State.openReached] using h
  | disabled => exact ⟨nofun, fun hcan => by simp at hcan, nofun⟩
  | faulted => exact ⟨nofun, fun hcan => by simp at hcan, nofun⟩

/-- What `settled` says depends on the valve, its row of the lane, the position, the leads and the air. -/
theorem State.settled_congr (hv : t.valve l r = s.valve l r) (hr : t.rowOf l (.ofRow r) = s.rowOf l (.ofRow r))
    (hs : t.steady = s.steady) (h : s.settled l r) : t.settled l r := by
  have hpos : t.bpu.pos = s.bpu.pos := congrArg (fun x => x.bpu.pos) hs
  have hopen : t.vdr.leadOpen = s.vdr.leadOpen := congrArg Steady.leadOpen hs
  have hclose : t.vdr.leadClose = s.vdr.leadClose := congrArg Steady.leadClose hs
  have hair : t.vdr.air = s.vdr.air := congrArg Steady.air hs
  have hrow : t.rowEntries l r = s.rowEntries l r := hr
  obtain ⟨hserved, hpending, hfirst⟩ := h
  unfold State.settled State.activeEntry State.firstPending
  rw [hv, hpos, hopen, hclose, hair, hrow]
  exact ⟨hserved, fun hcan e he hx =>
    hpending hcan e (State.mem_rowEntries.mp (hrow ▸ State.mem_rowEntries.mpr ⟨he, hx⟩)).1 hx, hfirst⟩

theorem State.SameBut.settled {m : Lane} {q : Row} (h : State.SameBut l r s t) (hs : t.steady = s.steady)
    (hne : ¬ (m = l ∧ q = r)) (hm : s.settled m q) : t.settled m q :=
  State.settled_congr (h.valves m q hne) (h.rows m _ fun e => hne ⟨e.1, EntryRow.ofRow_injective e.2⟩) hs hm

theorem State.settled_judge (s : State) (l : Lane) (r : Row) (o : Opening) : (s.judge l r o).settled l r := by
  obtain ⟨q, hq⟩ := State.judgeLoop_ends o (2 * (s.lane l).length + 2) false s
    (Nat.lt_succ_of_le (State.rank_le (l := l) (r := r)))
  exact State.settled_of_judgeStep_none hq

/-- A judgment leaves the other valves settled. -/
theorem State.settled_judge_of {m : Lane} {q : Row} (o : Opening) (h : s.settled m q ∨ (m = l ∧ q = r)) :
    (s.judge l r o).settled m q := by
  by_cases hne : m = l ∧ q = r
  · obtain ⟨rfl, rfl⟩ := hne
    exact s.settled_judge m q o
  · exact (State.SameBut.judgeLoop o _ _ s).settled (s.judge_steady l r o) hne (h.resolve_right hne)

theorem State.settled_foldl_judge (o : Opening) {m : Lane} {q : Row} (vs : List (Lane × Row)) (s : State)
    (h : s.settled m q ∨ (m, q) ∈ vs) : (vs.foldl (fun t v => t.judge v.1 v.2 o) s).settled m q := by
  induction vs generalizing s with
  | nil => exact h.resolve_right List.not_mem_nil
  | cons v vs ih =>
    rw [List.foldl_cons]
    refine ih _ ?_
    rcases h with h | h
    · exact .inl (State.settled_judge_of o (.inl h))
    · rcases List.mem_cons.mp h with rfl | h
      · exact .inl (s.settled_judge m q o)
      · exact .inr h

theorem State.judgeAll_judged (s : State) (o : Opening) : (s.judgeAll o).judged :=
  fun l r => State.settled_foldl_judge o valveOrder s (.inr (mem_valveOrder l r))

/-- The judgments of all valves reach no GUARD entry. -/
theorem State.judgeAll_guards (s : State) (o : Opening) (m : Lane) :
    (s.judgeAll o).rowOf m .guard = s.rowOf m .guard := by
  have guards : ∀ (vs : List (Lane × Row)) (s : State),
      (vs.foldl (fun t v => t.judge v.1 v.2 o) s).rowOf m .guard = s.rowOf m .guard := by
    intro vs
    induction vs with
    | nil => exact fun _ => rfl
    | cons v vs ih =>
      intro s
      have hrow : ¬ (m = v.1 ∧ EntryRow.guard = .ofRow v.2) := fun e => by
        cases hv : v.2 <;> simp [hv, EntryRow.ofRow] at e
      exact (ih _).trans ((State.SameBut.judgeLoop o _ _ s).rows m _ hrow)
  exact guards valveOrder s

end Judgment
end Sys2Proof.Machine
end

section
/-! PROOF. SPEED_UPDATE (R10, R149, R150). -/
-- One proof at a time: elaborated side by side, the proofs take more stacks than the check's memory holds.
set_option Elab.async false
namespace Sys2Proof.Machine

/-! ### The speed update -/

section Speed
variable (s : State)

/-- The state of a SPEED_UPDATE with a new estimate, history and leads, before the valves are judged. -/
def State.respeeded (speed : Nat) (history : Vector Nat 8) (opens closes : Nat) : State :=
  { s with
    bpu := { s.bpu with speed := speed, history := history }
    vdr := { s.vdr with leadOpen := opens, leadClose := closes }, sinceSpeed := 0 }

theorem exec_speedUpdate :
    exec .speedUpdate s = .next (State.judgeAll (.ordinary s.openReach)
      (s.respeeded (speedOf (s.bpu.pos - look s.bpu.history 0)) (shiftHistory s.bpu.history s.bpu.pos)
        (leadOpenAt (s.own .openDelay) (speedOf (s.bpu.pos - look s.bpu.history 0)))
        (leadCloseAt (s.own .closeDelay) (speedOf (s.bpu.pos - look s.bpu.history 0))))) := rfl

/-- The judgment that ends a SPEED_UPDATE leaves the new estimate, history and leads. -/
theorem State.respeeded_of_judged {t : State} {speed : Nat} {history : Vector Nat 8} {opens closes : Nat}
    (h : t.steady = (s.respeeded speed history opens closes).steady) :
    t.bpu.speed = speed ∧ t.bpu.history = history ∧ t.vdr.leadOpen = opens ∧ t.vdr.leadClose = closes :=
  ⟨congrArg (fun x => x.bpu.speed) h, congrArg (fun x => x.bpu.history) h, congrArg Steady.leadOpen h,
    congrArg Steady.leadClose h⟩

theorem look_shiftHistory_castSucc (h : Vector Nat 8) (pos : Nat) (i : Fin 7) :
    look (shiftHistory h pos) i.castSucc = look h i.succ := by
  unfold shiftHistory
  rw [look_tabulate, dif_pos (by simp; omega)]
  rfl

theorem look_shiftHistory_last (h : Vector Nat 8) (pos : Nat) : look (shiftHistory h pos) 7 = pos := by
  unfold shiftHistory
  rw [look_tabulate, dif_neg (by decide)]

end Speed

/-- Settles O8: the leads are those of R149's roundings, and a judgment of all valves settles each and touches neither
the belt nor the leads. -/
theorem speedUpdateSetsSpeedAndLeads : Obligations.SpeedUpdateSetsSpeedAndLeads := by
  intro s
  have hexec := exec_speedUpdate s
  have hopen := leadOpenAt_spec (s.own .openDelay) (speedOf (s.bpu.pos - look s.bpu.history 0))
  have hclose := leadCloseAt_spec (s.own .closeDelay) (speedOf (s.bpu.pos - look s.bpu.history 0))
  have hold := look_shiftHistory_castSucc s.bpu.history s.bpu.pos
  have hlast := look_shiftHistory_last s.bpu.history s.bpu.pos
  have hestimate : speedOf (s.bpu.pos - look s.bpu.history 0) = min 65535 ((s.bpu.pos - look s.bpu.history 0) * 125) := rfl
  generalize speedOf (s.bpu.pos - look s.bpu.history 0) = speed at *
  generalize leadOpenAt (s.own .openDelay) speed = opens at *
  generalize leadCloseAt (s.own .closeDelay) speed = closes at *
  generalize shiftHistory s.bpu.history s.bpu.pos = history at *
  have hsteady := State.judgeAll_steady (s.respeeded speed history opens closes) (.ordinary s.openReach)
  have hjudged := State.judgeAll_judged (s.respeeded speed history opens closes) (.ordinary s.openReach)
  generalize hu : State.judgeAll (.ordinary s.openReach) (s.respeeded speed history opens closes) = t at *
  obtain ⟨hspeed, hhistory, hleadOpen, hleadClose⟩ := s.respeeded_of_judged hsteady
  refine ⟨t, hexec, ?_⟩
  rw [hspeed, hhistory, hleadOpen, hleadClose]
  exact ⟨hestimate, hold, hlast, hopen.2, hopen.1, hclose.2, hclose.1, hsteady, hu.symm, hjudged⟩

end Sys2Proof.Machine
end

section
/-! SUPPORT. GUARD entries as the belt reaches their ends (R160): what leaves the lanes, and what is counted. -/
-- One proof at a time: elaborated side by side, the proofs take more stacks than the check's memory holds.
set_option Elab.async false
namespace Sys2Proof.Machine

/-- The entries that a predicate picks leave the list in which it picks them. -/
theorem diff_filter {α : Type} [DecidableEq α] (p : α → Bool) (as : List α) :
    as.diff (as.filter p) = as.filter fun a => !p a := by
  induction as with
  | nil => rfl
  | cons a as ih =>
    cases hp : p a with
    | true => simp [hp, ih]
    | false =>
      have hnot : a ∉ as.filter p := fun h => by simp [hp] at h
      simp [hp, List.cons_diff_of_not_mem hnot, ih]

/-- Is it a GUARD entry whose end a position has reached? -/
def heldAt (pos : Nat) (e : Entry) : Bool := decide (e.row = .guard ∧ e.stop ≤ pos)

/-- Each of some entries of a lane retires GUARD_HELD. -/
def State.retireHeld (l : Lane) (es : List Entry) (s : State) : State :=
  es.foldl (fun u e => u.retire l e .guardHeld) s

/-- The GUARD entries whose end a position has reached retire on some lanes. -/
def State.release (pos : Nat) (ls : List Lane) (s : State) : State :=
  ls.foldl (fun t l => t.retireHeld l ((t.lane l).filter (heldAt pos))) s

section Guards
variable {A : Part → Prop} (s : State) (pos : Nat)

theorem State.heldGuards_eq (l : Lane) : s.heldGuards l = (s.lane l).filter (heldAt s.bpu.pos) := by
  unfold State.heldGuards heldAt
  congr 1
  funext e
  simp [Bool.decide_and, beq_eq_decide]

/-! ### What they can do -/

theorem State.retireHeld_life (hA : Endings A) (hl : A .lanes) (hg : A (.count (.ofRetire .guardHeld))) (l : Lane)
    (es : List Entry) : s.Life A (s.retireHeld l es) :=
  .foldl (fun u e => u.retire_life hA hl l e _ hg) es s

theorem State.retireHeld_steady (l : Lane) (es : List Entry) : (s.retireHeld l es).steady = s.steady :=
  (s.retireHeld_life (A := fun _ => True) (fun _ _ => trivial) trivial trivial l es).steady_eq

theorem State.release_life (hA : Endings A) (hl : A .lanes) (hg : A (.count (.ofRetire .guardHeld)))
    (ls : List Lane) : s.Life A (s.release pos ls) :=
  .foldl (fun t l => t.retireHeld_life hA hl hg l _) ls s

theorem State.release_steady (ls : List Lane) : (s.release pos ls).steady = s.steady :=
  (s.release_life (A := fun _ => True) pos (fun _ _ => trivial) trivial trivial ls).steady_eq

theorem State.release_vdr (ls : List Lane) : (s.release pos ls).vdr = s.vdr :=
  (s.release_life (A := fun x => x ≠ .valves) pos (fun _ _ => nofun) nofun nofun ls).vdr_eq fun h => h rfl

/-- The retirement of the GUARD entries at a tick is that of all lanes at the position. -/
theorem State.retireGuards_eq : s.retireGuards = s.release s.bpu.pos (List.finRange 48) := by
  have held : ∀ (pos : Nat) (ls : List Lane) (t : State), t.bpu.pos = pos →
      ls.foldl (fun t l => (t.heldGuards l).foldl (fun u e => u.retire l e .guardHeld) t) t = t.release pos ls := by
    intro pos ls
    induction ls with
    | nil => exact fun _ _ => rfl
    | cons l ls ih =>
      intro t ht
      have hkept : (t.retireHeld l (t.heldGuards l)).bpu.pos = pos :=
        (congrArg Bpu.pos (State.bpu_of_steady (t.retireHeld_steady l _))).trans ht
      calc _ = (t.retireHeld l (t.heldGuards l)).release pos ls := ih _ hkept
        _ = t.release pos (l :: ls) := by rw [State.heldGuards_eq, ht]; rfl
  exact held s.bpu.pos _ s rfl

/-! ### The lanes -/

theorem State.retireHeld_lane (l m : Lane) (es : List Entry) :
    (s.retireHeld l es).lane m = if l = m then (s.lane l).diff es else s.lane m := by
  induction es generalizing s with
  | nil =>
    split_ifs with h
    · rw [h, List.diff_nil]; rfl
    · rfl
  | cons e es ih =>
    have hrest := ih (s.retire l e .guardHeld)
    rw [State.retire_lane, State.retire_lane, if_pos rfl] at hrest
    split_ifs at hrest ⊢
    · exact hrest.trans (List.diff_cons _ _ _).symm
    · exact hrest

theorem State.release_lane (ls : List Lane) (m : Lane) :
    (s.release pos ls).lane m = if m ∈ ls then (s.lane m).filter fun e => !heldAt pos e else s.lane m := by
  induction ls generalizing s with
  | nil => rfl
  | cons l ls ih =>
    have hrest := ih (s.retireHeld l ((s.lane l).filter (heldAt pos)))
    rw [State.retireHeld_lane, diff_filter] at hrest
    refine hrest.trans ?_
    by_cases hl : l = m
    · subst hl; simp
    · simp [hl, Ne.symm hl]

/-- The entries of the rows of valves stay. -/
theorem State.release_rowOf (ls : List Lane) (m : Lane) (r : Row) :
    (s.release pos ls).rowOf m (.ofRow r) = s.rowOf m (.ofRow r) := by
  unfold State.rowOf
  rw [State.release_lane]
  split_ifs
  · rw [List.filter_filter]
    congr 1
    funext e
    cases r <;> cases he : e.row <;> simp [heldAt, he, EntryRow.ofRow]
  · rfl

/-- Of the GUARD entries those stay whose end is ahead. -/
theorem State.release_guards (m : Lane) :
    (s.release pos (List.finRange 48)).rowOf m .guard = (s.rowOf m .guard).filter fun e => pos < e.stop := by
  unfold State.rowOf
  rw [State.release_lane, if_pos (List.mem_finRange m), List.filter_filter, List.filter_filter]
  congr 1
  funext e
  rw [Bool.eq_iff_iff]
  by_cases he : e.row = .guard
  · simp [heldAt, he]
  · simp [heldAt, he]

/-- The retirement of GUARD entries leaves the valves settled. -/
theorem State.retireGuards_judged (h : s.judged) : s.retireGuards.judged := by
  intro l r
  rw [State.retireGuards_eq]
  refine State.settled_congr ?_ (s.release_rowOf _ _ l r) (s.release_steady _ _) (h l r)
  unfold State.valve
  rw [State.release_vdr]

/-! ### The count -/

/-- A retirement counts its reason once. -/
theorem State.retire_count (l : Lane) (e : Entry) (r : RetireReason) :
    (s.retire l e r).sta.get (.ofRetire r) = min 4294967295 (s.sta.get (.ofRetire r) + 1) := by
  have hends : Endings fun x => x ≠ .count (.ofRetire r) := fun c hc he => by
    cases he
    cases hc
  rw [(s.retire_tail_life hends l e r).count_eq fun h => h rfl, State.get_count, if_pos rfl]
  rfl

theorem State.retireHeld_count (l : Lane) (es : List Entry) (h : s.sta.get (.ofRetire .guardHeld) ≤ 4294967295) :
    (s.retireHeld l es).sta.get (.ofRetire .guardHeld) =
      min 4294967295 (s.sta.get (.ofRetire .guardHeld) + es.length) := by
  induction es generalizing s with
  | nil => exact (Nat.min_eq_right h).symm
  | cons e es ih =>
    have hone := s.retire_count l e .guardHeld
    have hrest : ((s.retire l e .guardHeld).retireHeld l es).sta.get (.ofRetire .guardHeld) = _ :=
      ih _ (hone ▸ Nat.min_le_left _ _)
    calc _ = ((s.retire l e .guardHeld).retireHeld l es).sta.get (.ofRetire .guardHeld) := rfl
      _ = _ := by rw [hrest, hone, List.length_cons]; omega

theorem State.release_count {ls : List Lane} (hls : ls.Nodup) (h : s.sta.get (.ofRetire .guardHeld) ≤ 4294967295) :
    (s.release pos ls).sta.get (.ofRetire .guardHeld) =
      min 4294967295 (s.sta.get (.ofRetire .guardHeld) +
        (ls.map fun l => ((s.lane l).filter (heldAt pos)).length).sum) := by
  induction ls generalizing s with
  | nil => exact (Nat.min_eq_right h).symm
  | cons l ls ih =>
    obtain ⟨hl, hls⟩ := List.nodup_cons.mp hls
    have hone := s.retireHeld_count l ((s.lane l).filter (heldAt pos)) h
    have hrest := ih (s.retireHeld l ((s.lane l).filter (heldAt pos))) hls (hone ▸ Nat.min_le_left _ _)
    have hothers : (ls.map fun m => (((s.retireHeld l ((s.lane l).filter (heldAt pos))).lane m).filter
        (heldAt pos)).length) = ls.map fun m => ((s.lane m).filter (heldAt pos)).length :=
      List.map_congr_left fun m hm => by
        rw [State.retireHeld_lane, if_neg fun e => hl (by rwa [e])]
    rw [hothers, hone] at hrest
    refine hrest.trans ?_
    rw [List.map_cons, List.sum_cons]
    omega

end Guards
end Sys2Proof.Machine
end

section
/-! SUPPORT. The line trigger inside a forward tick (R12, R18, R21 to R25, R38): what a trigger reaches beside the lines,
when it comes, and what it leaves in the outstanding-trigger list. -/
-- One proof at a time: elaborated side by side, the proofs take more stacks than the check's memory holds.
set_option Elab.async false
namespace Sys2Proof.Machine

/-! ### The flag of a fault -/

section Flags
variable {A : Part → Prop} (s : State)

/-- What the raise of a fault does beside its flag. -/
theorem State.raiseFault_tail_life (hA : Endings A) (k : FaultKind) : (s.flag k).Life A (s.raiseFault k) := by
  unfold State.raiseFault
  split_ifs
  · exact (((State.offer_life _ hA _ rfl).trans (State.setEngine_life _ hA _ _)).trans
      (State.abandonOpen_life _ hA)).trans (State.abandonClassifier_life _ hA)
  · exact (State.offer_life _ hA _ rfl).trans (State.abortSurvey_life _ hA _)
  · exact State.offer_life _ hA _ rfl

theorem State.raiseFault_has (k j : FaultKind) :
    (s.raiseFault k).eng.flags.has j = (decide (k = j) || s.eng.flags.has j) := by
  rw [(s.raiseFault_tail_life (A := fun x => x ≠ .flag j) (fun _ _ => nofun) k).flag_eq fun h => h rfl]
  exact FaultFlags.has_raise _ _ _

end Flags

/-! ### What a trigger reaches beside the lines -/

/-- What a missing line may reach. -/
def Part.ofMissing : Part → Prop
  | .count c => Counter.ofEnding c = true ∨ c = .missing
  | .flag k => k = .sensorLost
  | _ => False

theorem Part.ofMissing_endings : Endings Part.ofMissing := fun _ h => .inl h

/-- A part of the state that neither missing lines nor the SLI and the lines handed over reach. -/
structure ApartFromLines {α : Type} (f : State → α) : Prop where
  life : ∀ s t, State.Life Part.ofMissing s t → f t = f s
  sli : ∀ (s : State) (x : Sli), f { s with sli := x } = f s
  handed : ∀ (s : State) (ln : Line), f (s.handOver ln) = f s

theorem apartFromLines_lsc : ApartFromLines State.lsc where
  life := fun _ _ h => h.lsc_eq id
  sli := fun _ _ => rfl
  handed := fun _ _ => rfl

theorem apartFromLines_has {k : FaultKind} (hk : k ≠ .sensorLost) : ApartFromLines fun s => s.eng.flags.has k where
  life := fun _ _ h => h.flag_eq hk
  sli := fun _ _ => rfl
  handed := fun _ _ => rfl

theorem apartFromLines_count {d : Counter} (hd : Counter.ofEnding d = false) (hm : d ≠ .missing) :
    ApartFromLines fun s => s.sta.get d where
  life := fun _ _ h => h.count_eq fun hp => hp.elim (by simp [hd]) hm
  sli := fun _ _ => rfl
  handed := fun _ _ => rfl

section Apart
variable {α : Type} {f : State → α} (s : State)

theorem ApartFromLines.missed (hf : ApartFromLines f) (t : Trigger) : f (s.missed t) = f s := by
  have hcount : ∀ u : State, f (u.count .missing 1) = f u := fun u =>
    hf.life _ _ (State.Touches.count .missing 1 (.inr rfl)).life
  exact ((hf.sli _ _).trans (hcount _)).trans (hf.handed _ _)

theorem ApartFromLines.declareMissing (hf : ApartFromLines f) (t : Trigger) : f (s.declareMissing t) = f s := by
  rw [State.declareMissing_eq]
  split_ifs
  · exact (hf.life _ _ (State.raiseFault_life _ Part.ofMissing_endings .sensorLost rfl)).trans (hf.missed s t)
  · exact hf.missed s t

theorem ApartFromLines.withRoom (hf : ApartFromLines f) : f s.withRoom = f s := by
  unfold State.withRoom
  split
  · rfl
  · split_ifs
    · exact (hf.declareMissing _ _).trans (hf.sli _ _)
    · rfl

theorem ApartFromLines.snapped (hf : ApartFromLines f) (hd : ∀ s : State, f (s.count .disturbed 1) = f s) :
    f s.snapped = f s := by
  unfold State.snapped
  split_ifs
  · exact (hd _).trans (hf.sli _ _)
  · exact hf.sli _ _

theorem ApartFromLines.takeTrigger (hf : ApartFromLines f) (hd : ∀ s : State, f (s.count .disturbed 1) = f s)
    (seq : SeqNo) (start stop : Nat) : f (s.takeTrigger seq start stop) = f s := by
  rw [State.takeTrigger_eq]
  exact ((hf.sli _ _).trans (hf.withRoom _)).trans (hf.snapped s hd)

end Apart

/-! ### The steady part through a trigger -/

/-- The steady part with the SLI and the lines handed over taken from another. -/
def Steady.withLines (x y : Steady) : Steady :=
  { x with sli := y.sli, bltLines := y.bltLines, segLines := y.segLines, ldmLines := y.ldmLines, capLines := y.capLines }

/-- Of the steady part, only the SLI and the lines handed over differ. -/
def State.OnlyLines (s t : State) : Prop := t.steady = s.steady.withLines t.steady

section Only
variable {s t u : State}

theorem State.OnlyLines.of_steady (h : t.steady = s.steady) : s.OnlyLines t := by
  unfold State.OnlyLines
  rw [h]
  rfl

theorem State.OnlyLines.trans (h : s.OnlyLines t) (g : t.OnlyLines u) : s.OnlyLines u := by
  unfold State.OnlyLines at *
  calc u.steady = t.steady.withLines u.steady := g
    _ = (s.steady.withLines t.steady).withLines u.steady := congrArg (fun x => x.withLines u.steady) h

theorem State.OnlyLines.missed (s : State) (t : Trigger) : s.OnlyLines (s.missed t) := rfl

theorem State.OnlyLines.declareMissing (s : State) (t : Trigger) : s.OnlyLines (s.declareMissing t) := by
  rw [State.declareMissing_eq]
  split_ifs
  · exact (State.OnlyLines.missed s t).trans (.of_steady (State.raiseFault_steady _ _))
  · exact State.OnlyLines.missed s t

theorem State.OnlyLines.setSli (s : State) (x : Sli) : s.OnlyLines { s with sli := x } := rfl

theorem State.OnlyLines.withRoom (s : State) : s.OnlyLines s.withRoom := by
  unfold State.withRoom
  split
  · exact .of_steady rfl
  · split_ifs
    · exact (State.OnlyLines.setSli s _).trans (State.OnlyLines.declareMissing _ _)
    · exact .of_steady rfl

theorem State.OnlyLines.snapped (s : State) : s.OnlyLines s.snapped := by
  unfold State.snapped
  split_ifs
  · rfl
  · rfl

theorem State.OnlyLines.takeTrigger (s : State) (seq : SeqNo) (start stop : Nat) :
    s.OnlyLines (s.takeTrigger seq start stop) :=
  ((State.OnlyLines.snapped s).trans (State.OnlyLines.withRoom _)).trans (State.OnlyLines.setSli _ _)

end Only

/-! ### The tick that brings a trigger -/

section Tick
variable (s : State)

/-- The end of the line that starts at the next position. -/
def State.lineEnd : Nat := s.bpu.pos + 1 + s.cdu.line.get .lineTicks

/-- The next position triggers a line (R12, R14). -/
def State.lineDue : Prop := s.bpu.nextLine = s.bpu.pos + 1 ∧ s.lineEnd ≤ 281474976710655

/-- The state at the new position with the line counted and the next line set, before the trigger is taken. -/
def State.triggering : State :=
  State.count .triggered 1 { s.moved with bpu.nextLine := s.lineEnd, bpu.seq := s.bpu.seq + 1 }

theorem State.moved_steady : s.moved.steady = { s.steady with bpu := { s.bpu with pos := s.bpu.pos + 1 } } := by
  unfold State.moved
  split_ifs
  · rw [State.raiseFault_steady]; rfl
  · rfl

theorem State.moved_life {A : Part → Prop} (hA : Endings A) (hk : A (.flag .positionExhausted)) :
    State.Life A { s with bpu.pos := s.bpu.pos + 1 } s.moved := by
  unfold State.moved
  split_ifs
  · exact State.raiseFault_life _ hA _ hk
  · exact .refl _

theorem State.triggering_steady :
    s.triggering.steady = { s.steady with
      bpu := { s.bpu with pos := s.bpu.pos + 1, nextLine := s.lineEnd, seq := s.bpu.seq + 1 } } := by
  have hmoved : s.triggering.steady = { s.moved.steady with
      bpu := { s.moved.bpu with nextLine := s.lineEnd, seq := s.bpu.seq + 1 } } := rfl
  rw [hmoved, State.moved_steady, State.moved_bpu]

theorem State.lineTimer_moved_due (h : s.lineDue) :
    s.moved.lineTimer = s.triggering.takeTrigger s.bpu.seq (s.bpu.pos + 1) s.lineEnd := by
  have hcdu : s.moved.cdu = s.cdu := congrArg Steady.cdu s.moved_steady
  obtain ⟨hnext, hend⟩ := h
  have hcond : s.moved.bpu.pos = s.moved.bpu.nextLine ∧
      s.moved.bpu.pos + s.moved.cdu.line.get .lineTicks ≤ Config.posMax := by
    rw [hcdu, State.moved_bpu]
    exact ⟨hnext.symm, hend⟩
  unfold State.lineTimer State.triggering
  dsimp only
  rw [if_pos hcond, hcdu, State.moved_bpu]
  rfl

theorem State.lineTimer_moved_not_due (h : ¬ s.lineDue) : s.moved.lineTimer = s.moved := by
  have hcdu : s.moved.cdu = s.cdu := congrArg Steady.cdu s.moved_steady
  have hcond : ¬ (s.moved.bpu.pos = s.moved.bpu.nextLine ∧
      s.moved.bpu.pos + s.moved.cdu.line.get .lineTicks ≤ Config.posMax) := by
    rw [hcdu, State.moved_bpu]
    exact fun hc => h ⟨hc.1.symm, hc.2⟩
  exact if_neg hcond

/-- A part that lines, the position and the line counts do not reach is the same after the line timer. -/
theorem ApartFromLines.lineTimer_moved {α : Type} {f : State → α} (hf : ApartFromLines f)
    (hd : ∀ s : State, f (s.count .disturbed 1) = f s) (ht : ∀ s : State, f (s.count .triggered 1) = f s)
    (hb : ∀ (s : State) (x : Bpu), f { s with bpu := x } = f s) : f s.moved.lineTimer = f s.moved := by
  by_cases h : s.lineDue
  · rw [s.lineTimer_moved_due h, hf.takeTrigger _ hd]
    exact (ht _).trans (hb _ _)
  · rw [s.lineTimer_moved_not_due h]

end Tick
end Sys2Proof.Machine
end

section
/-! PROOF. The line trigger of a forward tick (R12, R18, R21, R24, R25, R38). -/
-- One proof at a time: elaborated side by side, the proofs take more stacks than the check's memory holds.
set_option Elab.async false
namespace Sys2Proof.Machine

/-! ### The outstanding-trigger list -/

/-- The line that a trigger of the list becomes when it is declared missing. -/
def Sli.missingLine (x : Sli) (t : Trigger) : Line := t.line none (carriedMarks t.snap x.prevMarks) x.prevMarks

/-- The steady part with a trigger declared missing. -/
def Steady.missing (x : Steady) (t : Trigger) : Steady :=
  { x with
    sli := { x.sli with
      prevMarks := carriedMarks t.snap x.sli.prevMarks, missingRun := min 8 (x.sli.missingRun + 1) }
    bltLines := x.bltLines ++ [x.sli.missingLine t], segLines := x.segLines ++ [x.sli.missingLine t]
    ldmLines := x.ldmLines ++ [x.sli.missingLine t], capLines := x.capLines ++ [x.sli.missingLine t] }

section Trigger
variable (s : State) (seq : SeqNo) (start stop : Nat)

theorem State.snapped_steady :
    s.snapped.steady = { s.steady with sli := { s.sli with kept := s.cdu.line.disturbingValues } } := by
  unfold State.snapped
  split_ifs
  · rfl
  · rfl

theorem State.snapped_has (k : FaultKind) : s.snapped.eng.flags.has k = s.eng.flags.has k := by
  unfold State.snapped
  split_ifs
  · rfl
  · rfl

theorem State.snapped_count (d : Counter) :
    s.snapped.sta.get d = if d = .disturbed ∧ s.cdu.line.disturbingValues ≠ s.sli.kept
      then min 4294967295 (s.sta.get d + 1) else s.sta.get d := by
  unfold State.snapped
  by_cases hk : s.cdu.line.disturbingValues = s.sli.kept
  · simp [hk]
  · by_cases hd : d = .disturbed
    · subst hd; simp [hk, State.get_count]
    · simp [hk, hd, State.get_count, Ne.symm hd]

theorem State.declareMissing_steady (t : Trigger) : (s.declareMissing t).steady = s.steady.missing t := by
  rw [State.declareMissing_eq]
  split_ifs
  · rw [State.raiseFault_steady]; rfl
  · rfl

theorem State.declareMissing_count (t : Trigger) :
    (s.declareMissing t).sta.get .missing = min 4294967295 (s.sta.get .missing + 1) := by
  have hmissed : (s.missed t).sta.get .missing = min 4294967295 (s.sta.get .missing + 1) :=
    State.get_count (s.handOver (s.sli.missingLine t)) .missing .missing 1
  have hends : Endings fun x => x ≠ .count .missing := fun c hc he => by
    cases he
    cases hc
  rw [State.declareMissing_eq]
  split_ifs
  · rw [(State.raiseFault_life _ hends .sensorLost nofun).count_eq fun h => h rfl, hmissed]
  · exact hmissed

theorem State.declareMissing_has (t : Trigger) :
    (s.declareMissing t).eng.flags.has .sensorLost =
      (s.eng.flags.has .sensorLost || decide (s.sli.missingRun = 7)) := by
  rw [State.declareMissing_eq]
  split_ifs with h
  · simp [State.raiseFault_has, h]
  · simp only [h, decide_false, Bool.or_false]; rfl

theorem State.takeTrigger_of_lt (h : s.sli.outstanding.length < 4) :
    s.takeTrigger seq start stop = s.snapped.enlist (s.newTrigger seq start stop) := by
  rw [State.takeTrigger_eq, State.withRoom_of_lt]
  rwa [State.snapped_sli]

theorem State.takeTrigger_of_full {o : Trigger} {rest : List Trigger} (ho : s.sli.outstanding = o :: rest)
    (h : 4 ≤ s.sli.outstanding.length) :
    s.takeTrigger seq start stop =
      (State.declareMissing o { s.snapped with sli.outstanding := rest }).enlist (s.newTrigger seq start stop) := by
  rw [State.takeTrigger_eq, State.withRoom_of_full _ (o := o) (rest := rest)]
  · rwa [State.snapped_sli]
  · rwa [State.snapped_sli]

/-- A trigger with room in the list. -/
theorem State.takeTrigger_roomy (h : s.sli.outstanding.length < 4) :
    (s.takeTrigger seq start stop).sta.get .missing = s.sta.get .missing ∧
    (s.takeTrigger seq start stop).eng.flags.has .sensorLost = s.eng.flags.has .sensorLost ∧
    (s.takeTrigger seq start stop).steady = { s.steady with
      sli := { s.sli with
        outstanding := s.sli.outstanding ++ [s.newTrigger seq start stop]
        kept := s.cdu.line.disturbingValues } } := by
  rw [s.takeTrigger_of_lt seq start stop h]
  refine ⟨(s.snapped_count .missing).trans (if_neg nofun), s.snapped_has _, ?_⟩
  calc (s.snapped.enlist (s.newTrigger seq start stop)).steady
      = { s.snapped.steady with sli := { s.snapped.sli with
          outstanding := s.snapped.sli.outstanding ++ [s.newTrigger seq start stop] } } := rfl
    _ = _ := by rw [State.snapped_steady, State.snapped_sli]

/-- A trigger with the list full. -/
theorem State.takeTrigger_full {o : Trigger} {rest : List Trigger} (ho : s.sli.outstanding = o :: rest)
    (h : 4 ≤ s.sli.outstanding.length) :
    (s.takeTrigger seq start stop).sta.get .missing = min 4294967295 (s.sta.get .missing + 1) ∧
    (s.takeTrigger seq start stop).eng.flags.has .sensorLost =
      (s.eng.flags.has .sensorLost || decide (s.sli.missingRun = 7)) ∧
    (s.takeTrigger seq start stop).steady = { s.steady with
      sli := { s.sli with
        outstanding := rest ++ [s.newTrigger seq start stop], kept := s.cdu.line.disturbingValues
        prevMarks := carriedMarks o.snap s.sli.prevMarks, missingRun := min 8 (s.sli.missingRun + 1) }
      bltLines := s.bltLines ++ [s.sli.missingLine o], segLines := s.segLines ++ [s.sli.missingLine o]
      ldmLines := s.ldmLines ++ [s.sli.missingLine o], capLines := s.capLines ++ [s.sli.missingLine o] } := by
  have hsteady := s.snapped_steady
  have hcount : s.snapped.sta.get .missing = s.sta.get .missing := (s.snapped_count .missing).trans (if_neg nofun)
  have hhas := s.snapped_has .sensorLost
  rw [s.takeTrigger_of_full seq start stop ho h]
  generalize s.snapped = x at *
  have hsli : x.sli = { s.sli with kept := s.cdu.line.disturbingValues } := congrArg Steady.sli hsteady
  have hdeclared := State.declareMissing_steady { x with sli.outstanding := rest } o
  have hmissing := State.declareMissing_count { x with sli.outstanding := rest } o
  have hlost := State.declareMissing_has { x with sli.outstanding := rest } o
  generalize State.declareMissing o { x with sli.outstanding := rest } = y at *
  refine ⟨hmissing.trans (by rw [← hcount]), hlost.trans (by rw [← hhas, hsli]), ?_⟩
  calc (y.enlist (s.newTrigger seq start stop)).steady
      = { y.steady with sli.outstanding := y.steady.sli.outstanding ++ [s.newTrigger seq start stop] } := rfl
    _ = { ({ x.steady with sli.outstanding := rest } : Steady).missing o with
          sli.outstanding := rest ++ [s.newTrigger seq start stop] } := by rw [hdeclared]; rfl
    _ = _ := by rw [hsteady]; rfl

/-- A DISTURBED trigger is counted (R38). -/
theorem State.takeTrigger_disturbed :
    (s.takeTrigger seq start stop).sta.get .disturbed = if s.cdu.line.disturbingValues ≠ s.sli.kept
      then min 4294967295 (s.sta.get .disturbed + 1) else s.sta.get .disturbed := by
  have happart : ApartFromLines fun s => s.sta.get .disturbed := apartFromLines_count rfl nofun
  calc _ = s.snapped.withRoom.sta.get .disturbed := by rw [State.takeTrigger_eq]; exact happart.sli _ _
    _ = s.snapped.sta.get .disturbed := happart.withRoom _
    _ = _ := by rw [State.snapped_count]; simp only [true_and]

end Trigger

/-! ### What the rest of the tick leaves of a trigger -/

section Tick
variable {A : Part → Prop} (s : State)

/-- What the judgments at the new position do. -/
theorem State.advance_tail_life (hA : Judging A) (hg : A (.count (.ofRetire .guardHeld))) :
    s.moved.lineTimer.Life A s.advance := by
  rw [State.advance_eq]
  exact (State.judgeAll_life _ hA _).trans (State.retireGuards_life _ hA.endings hA.lanes hg)

theorem State.advance_count {d : Counter} (hd : Counter.ofEnding d = false) (hr : ∀ r, d ≠ .ofRetire r) :
    s.advance.sta.get d = s.moved.lineTimer.sta.get d := by
  refine (s.advance_tail_life (A := fun x => x ≠ .count d) ⟨fun c hc he => ?_, nofun, nofun, fun r _ he => ?_⟩
    fun he => ?_).count_eq fun h => h rfl
  · cases he; rw [hc] at hd; cases hd
  · exact hr r (Part.count.inj he).symm
  · exact hr _ (Part.count.inj he).symm

theorem State.advance_has (k : FaultKind) : s.advance.eng.flags.has k = s.moved.lineTimer.eng.flags.has k :=
  (s.advance_tail_life (A := fun x => x ≠ .flag k) ⟨fun _ _ => nofun, nofun, nofun, fun _ _ => nofun⟩
    nofun).flag_eq fun h => h rfl

theorem State.triggering_count {d : Counter} (hd : Counter.ofEnding d = false) :
    s.triggering.sta.get d = if .triggered = d then min 4294967295 (s.sta.get d + 1) else s.sta.get d := by
  have hmoved : s.moved.sta.get d = s.sta.get d := by
    refine (s.moved_life (A := fun x => x ≠ .count d) (fun c hc he => ?_) nofun).count_eq fun h => h rfl
    cases he; rw [hc] at hd; cases hd
  unfold State.triggering
  rw [State.get_count, ← hmoved]
  split_ifs with h
  · subst h; rfl
  · rfl

theorem State.triggering_has {k : FaultKind} (hk : k ≠ .positionExhausted) :
    s.triggering.eng.flags.has k = s.eng.flags.has k :=
  (s.moved_life (A := fun x => x ≠ .flag k) (fun _ _ => nofun) fun he => hk (Part.flag.inj he).symm).flag_eq
    fun h => h rfl

theorem State.forwardTick_advance (hd : s.bpu.debt = 0) (hp : s.bpu.pos < 281474976710655) :
    s.forwardTick = s.advance := by
  unfold State.forwardTick
  rw [if_neg (by omega)]
  exact if_pos hp

end Tick

/-! ### The tick that brings a trigger -/

section Due
variable (s : State)

/-- The entry of the line that the next position triggers. -/
def State.dueTrigger : Trigger :=
  { seq := s.bpu.seq, start := s.bpu.pos + 1, stop := s.lineEnd, snap := s.cdu.line,
    disturbed := decide (s.cdu.line.disturbingValues ≠ s.sli.kept), requested := false }

/-- The belt with the position raised and the next line set. -/
def State.dueBelt : Bpu :=
  { s.bpu with pos := s.bpu.pos + 1, nextLine := s.lineEnd, seq := s.bpu.seq + 1 }

theorem State.triggering_cdu : s.triggering.cdu = s.cdu := congrArg Steady.cdu s.triggering_steady

theorem State.triggering_sli : s.triggering.sli = s.sli := congrArg Steady.sli s.triggering_steady

theorem State.triggering_newTrigger :
    s.triggering.newTrigger s.bpu.seq (s.bpu.pos + 1) s.lineEnd = s.dueTrigger := by
  unfold State.newTrigger State.dueTrigger
  rw [State.triggering_cdu, State.triggering_sli]
  simp [bne, beq_eq_decide]

variable {s}

theorem State.advance_triggered (h : s.lineDue) :
    s.advance.sta.get .triggered = min 4294967295 (s.sta.get .triggered + 1) := by
  have hapart : ApartFromLines fun s => s.sta.get .triggered := apartFromLines_count rfl nofun
  have hdisturbed : ∀ s : State, (s.count .disturbed 1).sta.get .triggered = s.sta.get .triggered := fun s => by
    rw [State.get_count]; exact if_neg nofun
  calc s.advance.sta.get .triggered = s.moved.lineTimer.sta.get .triggered := s.advance_count rfl fun _ => nofun
    _ = s.triggering.sta.get .triggered := by
        rw [s.lineTimer_moved_due h]; exact hapart.takeTrigger _ hdisturbed _ _ _
    _ = _ := s.triggering_count rfl

theorem State.advance_disturbed (h : s.lineDue) :
    s.advance.sta.get .disturbed = if s.cdu.line.disturbingValues ≠ s.sli.kept
      then min 4294967295 (s.sta.get .disturbed + 1) else s.sta.get .disturbed := by
  have hcdu := s.triggering_cdu
  have hsli := s.triggering_sli
  have hcount : s.triggering.sta.get .disturbed = s.sta.get .disturbed :=
    (s.triggering_count rfl).trans (if_neg nofun)
  rw [s.advance_count (d := .disturbed) rfl fun _ => nofun, s.lineTimer_moved_due h,
    State.takeTrigger_disturbed, hcdu, hsli, hcount]

theorem State.triggering_missing : s.triggering.sta.get .missing = s.sta.get .missing :=
  (s.triggering_count rfl).trans (if_neg nofun)

/-- The trigger of a tick with room in the list. -/
theorem State.advance_roomy (h : s.lineDue) (hroom : s.sli.outstanding.length < 4) :
    s.advance.sta.get .missing = s.sta.get .missing ∧
    s.advance.eng.flags.has .sensorLost = s.eng.flags.has .sensorLost ∧
    s.advance.steady = { s.steady with
      bpu := s.dueBelt
      sli := { s.sli with
        outstanding := s.sli.outstanding ++ [s.dueTrigger], kept := s.cdu.line.disturbingValues } } := by
  have hcdu := s.triggering_cdu
  have hsli := s.triggering_sli
  obtain ⟨hmissing, hlost, hsteady⟩ :=
    s.triggering.takeTrigger_roomy s.bpu.seq (s.bpu.pos + 1) s.lineEnd (by rwa [hsli])
  rw [s.advance_count (d := .missing) rfl fun _ => nofun, s.advance_has, s.advance_steady, s.lineTimer_moved_due h]
  refine ⟨hmissing.trans State.triggering_missing, hlost.trans (s.triggering_has nofun), hsteady.trans ?_⟩
  rw [s.triggering_newTrigger, hcdu, hsli, s.triggering_steady]
  rfl

/-- The trigger of a tick with the list full. -/
theorem State.advance_full (h : s.lineDue) {o : Trigger} {rest : List Trigger} (ho : s.sli.outstanding = o :: rest)
    (hfull : 4 ≤ s.sli.outstanding.length) :
    s.advance.sta.get .missing = min 4294967295 (s.sta.get .missing + 1) ∧
    s.advance.eng.flags.has .sensorLost = (s.eng.flags.has .sensorLost || decide (s.sli.missingRun = 7)) ∧
    s.advance.steady = { s.steady with
      bpu := s.dueBelt
      sli := { s.sli with
        outstanding := rest ++ [s.dueTrigger], kept := s.cdu.line.disturbingValues
        prevMarks := carriedMarks o.snap s.sli.prevMarks, missingRun := min 8 (s.sli.missingRun + 1) }
      bltLines := s.bltLines ++ [s.sli.missingLine o], segLines := s.segLines ++ [s.sli.missingLine o]
      ldmLines := s.ldmLines ++ [s.sli.missingLine o], capLines := s.capLines ++ [s.sli.missingLine o] } := by
  have hcdu := s.triggering_cdu
  have hsli := s.triggering_sli
  have hx := s.triggering_steady
  have hlines : s.triggering.bltLines = s.bltLines ∧ s.triggering.segLines = s.segLines ∧
      s.triggering.ldmLines = s.ldmLines ∧ s.triggering.capLines = s.capLines :=
    ⟨congrArg Steady.bltLines hx, congrArg Steady.segLines hx, congrArg Steady.ldmLines hx, congrArg Steady.capLines hx⟩
  obtain ⟨hblt, hseg, hldm, hcap⟩ := hlines
  obtain ⟨hmissing, hlost, hsteady⟩ := s.triggering.takeTrigger_full s.bpu.seq (s.bpu.pos + 1) s.lineEnd
    (o := o) (rest := rest) (by rw [hsli, ho]) (by rwa [hsli])
  rw [s.advance_count (d := .missing) rfl fun _ => nofun, s.advance_has, s.advance_steady, s.lineTimer_moved_due h]
  rw [State.triggering_missing] at hmissing
  rw [s.triggering_has (k := .sensorLost) nofun, hsli] at hlost
  refine ⟨hmissing, hlost, hsteady.trans ?_⟩
  rw [s.triggering_newTrigger, hcdu, hsli, hblt, hseg, hldm, hcap, hx]
  rfl

end Due

/-- A forward tick with no debt below the last position raises the position. -/
theorem exec_encoder_advance {s : State} {a b : Bool}
    (h : ticksForward (s.own .encPolarity) (s.bpu.refA, s.bpu.refB) (a, b))
    (hd : s.bpu.debt = 0) (hp : s.bpu.pos < 281474976710655) :
    exec (.encoderTransition a b) s = .next (s.paired a b).advance :=
  (exec_encoder_forward s a b h).trans (congrArg _ (State.forwardTick_advance (s.paired a b) hd hp))

/-- Settles O7: the judgments after the trigger reach neither its counts nor the SLI nor the lines. -/
theorem lineTriggerIsTaken : Obligations.LineTriggerIsTaken := by
  intro s t a b hticks hdebt hnext hend hexec
  have hdue : (s.paired a b).lineDue := ⟨hnext, hend⟩
  have hmove := exec_encoder_advance hticks hdebt (by omega)
  have ht : t = (s.paired a b).advance := Host.Outcome.next.inj (hexec.symm.trans hmove)
  refine ⟨?_, ?_, fun hroom => ?_, fun o rest ho hfull => ?_⟩
  · exact ht ▸ State.advance_triggered hdue
  · exact ht ▸ State.advance_disturbed hdue
  · obtain ⟨hmissing, hlost, hsteady⟩ := State.advance_roomy hdue hroom
    rw [← ht] at hmissing hlost hsteady
    exact ⟨hmissing, hlost, congrArg Steady.sli hsteady, congrArg Steady.bltLines hsteady,
      congrArg Steady.segLines hsteady, congrArg Steady.ldmLines hsteady, congrArg Steady.capLines hsteady⟩
  · obtain ⟨hmissing, hlost, hsteady⟩ := State.advance_full hdue ho hfull
    rw [← ht] at hmissing hlost hsteady
    exact ⟨hmissing, hlost, congrArg Steady.sli hsteady, congrArg Steady.bltLines hsteady,
      congrArg Steady.segLines hsteady, congrArg Steady.ldmLines hsteady, congrArg Steady.capLines hsteady⟩

end Sys2Proof.Machine
end

section
/-! PROOF. The ticks of the belt (R1, R3 to R5, R7, R8, R12, R14, R150, R160). -/
-- One proof at a time: elaborated side by side, the proofs take more stacks than the check's memory holds.
set_option Elab.async false
namespace Sys2Proof.Machine

/-! ### Debt -/

section Debt
variable (s : State)

theorem State.backwardTick_eq :
    s.backwardTick =
      if 65535 ≤ s.bpu.debt then State.count .reverseLost 1 s
      else if s.own .reverseLimit < s.bpu.debt + 1 ∧ s.bpu.excursion = false then
        State.raiseFault .beltReversed { s with bpu.debt := s.bpu.debt + 1, bpu.excursion := true }
      else { s with bpu.debt := s.bpu.debt + 1 } := by
  unfold State.backwardTick
  by_cases h : s.bpu.debt < 65535
  · rw [if_pos h, if_neg (Nat.not_le_of_lt h)]
  · rw [if_neg h, if_pos (Nat.le_of_not_lt h)]

theorem State.forwardTick_debt (h : 0 < s.bpu.debt) :
    s.forwardTick = { s with
      bpu.debt := s.bpu.debt - 1, bpu.excursion := if s.bpu.debt = 1 then false else s.bpu.excursion } := by
  have hex : (s.bpu.excursion && s.bpu.debt != 1) = if s.bpu.debt = 1 then false else s.bpu.excursion := by
    split_ifs with h1
    · simp [h1]
    · simp [h1]
  unfold State.forwardTick
  rw [if_pos h, hex]

theorem State.forwardTick_exhausted (hd : s.bpu.debt = 0) (hp : 281474976710655 ≤ s.bpu.pos) :
    s.forwardTick = s := by
  unfold State.forwardTick
  rw [if_neg (by omega)]
  exact if_neg (Nat.not_lt_of_le hp)

end Debt

/-! ### The raised position -/

section Advance
variable (s : State)

/-- The state at the new position with the line trigger taken and every valve judged. -/
def State.rejudged : State := s.moved.lineTimer.judgeAll (.ordinary s.openReach)

theorem State.rejudged_steady : s.rejudged.steady = s.moved.lineTimer.steady := State.judgeAll_steady _ _

theorem State.advance_release : s.advance = s.rejudged.release (s.bpu.pos + 1) (List.finRange 48) := by
  have hpos : s.rejudged.bpu.pos = s.bpu.pos + 1 := by
    rw [State.bpu_of_steady s.rejudged_steady, State.lineTimer_pos, State.moved_bpu]
  calc s.advance = s.rejudged.retireGuards := s.advance_eq
    _ = _ := by rw [State.retireGuards_eq, hpos]

theorem State.advance_judged : s.advance.judged :=
  s.advance_eq ▸ State.retireGuards_judged _ (State.judgeAll_judged _ _)

/-- The position reached last raises POSITION_EXHAUSTED (R8). -/
theorem State.advance_exhausted (h : s.bpu.pos + 1 = 281474976710655) :
    s.advance.eng.flags.has .positionExhausted = true := by
  have hapart : ApartFromLines fun s => s.eng.flags.has .positionExhausted := apartFromLines_has nofun
  have hraised : s.moved = State.raiseFault .positionExhausted { s with bpu.pos := s.bpu.pos + 1 } := if_pos h
  calc s.advance.eng.flags.has .positionExhausted
      = s.moved.lineTimer.eng.flags.has .positionExhausted := s.advance_has _
    _ = s.moved.eng.flags.has .positionExhausted :=
        hapart.lineTimer_moved s (fun _ => rfl) (fun _ => rfl) fun _ _ => rfl
    _ = true := by rw [hraised, State.raiseFault_has]; rfl

theorem State.rejudged_guards (m : Lane) : s.rejudged.rowOf m .guard = s.rowOf m .guard := by
  have hline : s.moved.lineTimer.lsc = s.moved.lsc :=
    apartFromLines_lsc.lineTimer_moved s (fun _ => rfl) (fun _ => rfl) fun _ _ => rfl
  have hmoved : s.moved.lsc = s.lsc :=
    (s.moved_life (A := fun x => x ≠ .lanes) (fun _ _ => nofun) nofun).lsc_eq fun h => h rfl
  calc s.rejudged.rowOf m .guard = s.moved.lineTimer.rowOf m .guard := State.judgeAll_guards _ _ m
    _ = s.rowOf m .guard := by simp only [State.rowOf, State.lane, hline, hmoved]

theorem State.rejudged_guardHeld :
    s.rejudged.sta.get (.ofRetire .guardHeld) = s.sta.get (.ofRetire .guardHeld) := by
  have hapart : ApartFromLines fun s => s.sta.get (.ofRetire .guardHeld) := apartFromLines_count rfl nofun
  have hcount : ∀ c, c ≠ .ofRetire .guardHeld → ∀ s : State,
      (s.count c 1).sta.get (.ofRetire .guardHeld) = s.sta.get (.ofRetire .guardHeld) := fun c hc s => by
    rw [State.get_count, if_neg hc]
  have hends : Endings fun x => x ≠ .count (.ofRetire .guardHeld) := fun c hc he => by
    cases he
    cases hc
  have hjudging : Judging fun x => x ≠ .count (.ofRetire .guardHeld) :=
    ⟨hends, nofun, nofun, fun r hr he => hr (by cases he; rfl)⟩
  calc s.rejudged.sta.get (.ofRetire .guardHeld)
      = s.moved.lineTimer.sta.get (.ofRetire .guardHeld) :=
        (State.judgeAll_life _ hjudging _).count_eq fun h => h rfl
    _ = s.moved.sta.get (.ofRetire .guardHeld) :=
        hapart.lineTimer_moved s (hcount _ nofun) (hcount _ nofun) fun _ _ => rfl
    _ = s.sta.get (.ofRetire .guardHeld) := (s.moved_life hends nofun).count_eq fun h => h rfl

theorem State.filter_guard (p : Entry → Prop) [DecidablePred p] (m : Lane) :
    (s.lane m).filter (fun e => e.row = .guard ∧ p e) = (s.rowOf m .guard).filter fun e => p e := by
  unfold State.rowOf
  rw [List.filter_filter]
  congr 1
  funext e
  rw [Bool.eq_iff_iff]
  simp [and_comm]

/-- Of the GUARD entries those stay whose end is ahead (R160). -/
theorem State.advance_guards (m : Lane) :
    (s.advance.lane m).filter (fun e => e.row = .guard) =
      (s.lane m).filter fun e => e.row = .guard ∧ s.bpu.pos + 1 < e.stop := by
  calc (s.advance.lane m).filter (fun e => e.row = .guard) = s.advance.rowOf m .guard := by
        simp only [State.rowOf, beq_eq_decide]
    _ = (s.rejudged.rowOf m .guard).filter fun e => s.bpu.pos + 1 < e.stop := by
        rw [State.advance_release, State.release_guards]
    _ = _ := by rw [State.rejudged_guards, State.filter_guard]

/-- The GUARD entries that the position reaches are counted. -/
theorem State.advance_guardHeld (h : s.sta.get (.ofRetire .guardHeld) ≤ 4294967295) :
    s.advance.sta.get (.ofRetire .guardHeld) = min 4294967295 (s.sta.get (.ofRetire .guardHeld) +
      ((List.finRange 48).map fun l => ((s.lane l).filter (heldAt (s.bpu.pos + 1))).length).sum) := by
  have hsame : ∀ l, (s.rejudged.lane l).filter (heldAt (s.bpu.pos + 1)) =
      (s.lane l).filter (heldAt (s.bpu.pos + 1)) := fun l => by
    unfold heldAt
    rw [State.filter_guard, State.filter_guard, State.rejudged_guards]
  have hcount := s.rejudged_guardHeld
  rw [State.advance_release, State.release_count _ _ (List.nodup_finRange 48) (hcount.le.trans h), hcount]
  simp only [hsame]

/-- A tick that brings a line moves position, next line and sequence number, and the lines. -/
theorem State.advance_steady_due (h : s.lineDue) :
    s.advance.steady = ({ s.steady with bpu := s.dueBelt } : Steady).withLines s.advance.steady := by
  have hlines := State.OnlyLines.takeTrigger s.triggering s.bpu.seq (s.bpu.pos + 1) s.lineEnd
  unfold State.OnlyLines at hlines
  rw [← s.lineTimer_moved_due h, ← s.advance_steady, s.triggering_steady] at hlines
  exact hlines

theorem State.advance_steady_not_due (h : ¬ s.lineDue) :
    s.advance.steady = { s.steady with bpu := { s.bpu with pos := s.bpu.pos + 1 } } := by
  rw [s.advance_steady, s.lineTimer_moved_not_due h, s.moved_steady]

/-- The line timer at the new position. -/
theorem State.lineTimer_moved :
    s.moved.lineTimer =
      if s.bpu.nextLine = s.bpu.pos + 1 ∧ s.lineEnd ≤ 281474976710655 then
        s.triggering.takeTrigger s.bpu.seq (s.bpu.pos + 1) s.lineEnd
      else s.moved := by
  split_ifs with h
  · exact s.lineTimer_moved_due h
  · exact s.lineTimer_moved_not_due h

end Advance

/-- Settles O6: a tick pays debt or moves the position, and what follows in the tick is the line timer, the judgment of
all valves, and the retirement of the GUARD entries reached. -/
theorem ticksMoveTheBelt : Obligations.TicksMoveTheBelt := by
  refine ⟨fun s a b h => ?_, fun s a b h => ?_⟩
  · exact (exec_encoder_backward s a b h).trans (congrArg _ (State.backwardTick_eq (s.paired a b)))
  have htick := exec_encoder_forward s a b h
  have hmove := exec_encoder_advance h
  refine ⟨fun hd => ?_, fun hd hp => ?_, fun hd hp hnext hend => ?_, fun hd hp hno => ?_, fun hd hp => ?_⟩
  · exact htick.trans (congrArg _ (State.forwardTick_debt (s.paired a b) hd))
  · exact htick.trans (congrArg _ (State.forwardTick_exhausted (s.paired a b) hd hp))
  · have hsteady := State.advance_steady_due (s.paired a b) ⟨hnext, hend⟩
    have hstep := hmove hd hp
    generalize (s.paired a b).advance = t at *
    exact ⟨t, hstep, hsteady⟩
  · exact ⟨_, hmove hd hp, State.advance_steady_not_due (s.paired a b) fun hdue =>
      hno.elim (fun hne => hne hdue.1) fun hlt => Nat.not_le_of_lt hlt hdue.2⟩
  · refine ⟨_, hmove hd hp, ?_, State.advance_judged _, State.advance_exhausted (s.paired a b),
      State.advance_guards (s.paired a b), State.advance_guardHeld (s.paired a b)⟩
    rw [State.advance_release, State.rejudged, State.lineTimer_moved]
    rfl

end Sys2Proof.Machine
end

section
/-! SUPPORT. Bytes: what the number that a few bytes spell is (`field`), after they were written (`toBytes`), where byte
strings stand one after another (spec/10 section 10.8). -/
-- One proof at a time: elaborated side by side, the proofs take more stacks than the check's memory holds.
set_option Elab.async false
namespace Sys2Proof.Machine

/-! ### Numbers and bytes -/

@[simp] theorem length_toBytes (n v : Nat) : (toBytes n v).length = n := by
  induction n with
  | zero => rfl
  | succ n ih => rw [toBytes, List.length_cons, ih]

@[simp] theorem length_intBytes (n : Nat) (v : Int) : (intBytes n v).length = n := length_toBytes _ _

theorem foldl_bytes (bs : List Byte) (a : Nat) :
    bs.foldl (fun acc b => acc * 256 + b.toNat) a = a * 256 ^ bs.length + ofBytes bs := by
  unfold ofBytes
  induction bs generalizing a with
  | nil => simp
  | cons b bs ih =>
    simp only [List.foldl_cons, List.length_cons]
    rw [ih, ih (0 * 256 + b.toNat), pow_succ]
    ring

theorem ofBytes_cons (b : Byte) (bs : List Byte) : ofBytes (b :: bs) = b.toNat * 256 ^ bs.length + ofBytes bs := by
  calc ofBytes (b :: bs) = bs.foldl (fun acc b => acc * 256 + b.toNat) (0 * 256 + b.toNat) := rfl
    _ = b.toNat * 256 ^ bs.length + ofBytes bs := by rw [foldl_bytes, Nat.zero_mul, Nat.zero_add]

/-- The bytes written of a number spell it, up to their own range. -/
theorem ofBytes_toBytes (n v : Nat) : ofBytes (toBytes n v) = v % 256 ^ n := by
  induction n with
  | zero => rw [Nat.pow_zero, Nat.mod_one]; rfl
  | succ n ih =>
    calc ofBytes (toBytes (n + 1) v)
        = (v / 256 ^ n % 256) * 256 ^ n + v % 256 ^ n := by
          rw [toBytes, ofBytes_cons, ih, length_toBytes, BitVec.toNat_ofNat]
      _ = v % 256 ^ (n + 1) := by rw [pow_succ, Nat.mod_mul]; ring

theorem ofBytes_lt (bs : List Byte) : ofBytes bs < 256 ^ bs.length := by
  induction bs with
  | nil => exact Nat.one_pos
  | cons b bs ih =>
    have hb : b.toNat + 1 ≤ 256 := b.isLt
    calc ofBytes (b :: bs) < b.toNat * 256 ^ bs.length + 256 ^ bs.length := by rw [ofBytes_cons]; omega
      _ = (b.toNat + 1) * 256 ^ bs.length := by ring
      _ ≤ 256 * 256 ^ bs.length := Nat.mul_le_mul_right _ hb
      _ = 256 ^ (b :: bs).length := by rw [List.length_cons, pow_succ, Nat.mul_comm]

/-! ### Fields -/

theorem field_lt (bs : List Byte) (i n : Nat) : field bs i n < 256 ^ n :=
  (ofBytes_lt _).trans_le (Nat.pow_le_pow_right (by omega) (List.length_take_le _ _))

/-- A field that lies in the first of two byte strings. -/
theorem field_append_left {a : List Byte} (b : List Byte) {i n : Nat} (h : i + n ≤ a.length) :
    field (a ++ b) i n = field a i n := by
  unfold field
  rw [List.drop_append_of_le_length (by omega), List.take_append_of_le_length (by rw [List.length_drop]; omega)]

/-- A field that lies in the second of two byte strings. -/
theorem field_append_right {a : List Byte} (b : List Byte) {i : Nat} (n : Nat) (h : a.length ≤ i) :
    field (a ++ b) i n = field b (i - a.length) n := by
  unfold field
  rw [List.drop_append, List.drop_eq_nil_of_le h, List.nil_append]

theorem field_toBytes (n v : Nat) : field (toBytes n v) 0 n = v % 256 ^ n := by
  unfold field
  rw [List.drop_zero, List.take_of_length_le (length_toBytes n v).le, ofBytes_toBytes]

/-- A word of sixteen bits written in two bytes. -/
theorem field_toBytes_word (x : BitVec 16) : field (toBytes 2 x.toNat) 0 2 = x.toNat :=
  (field_toBytes _ _).trans (Nat.mod_eq_of_lt x.isLt)

/-- The number first written. -/
theorem field_first (n v : Nat) (b : List Byte) : field (toBytes n v ++ b) 0 n = v % 256 ^ n := by
  rw [field_append_left b (by simp), field_toBytes]

/-- A field after a number written. -/
theorem field_later (m v : Nat) (b : List Byte) (i n : Nat) (h : m ≤ i) :
    field (toBytes m v ++ b) i n = field b (i - m) n := by
  rw [field_append_right b n (by simpa using h), length_toBytes]

/-- A field of the bytes from one place on. -/
theorem field_drop (bs : List Byte) (i j n : Nat) : field (bs.drop i) j n = field bs (i + j) n := by
  unfold field
  rw [List.drop_drop]

theorem byteAt_drop (bs : List Byte) (i j : Nat) : byteAt (bs.drop i) j = byteAt bs (i + j) := field_drop _ _ _ _

theorem field_take {bs : List Byte} {i n m : Nat} (h : i + n ≤ m) : field (bs.take m) i n = field bs i n := by
  unfold field
  rw [List.drop_take, List.take_take, Nat.min_eq_left (by omega)]

theorem byteAt_eq_getD (bs : List Byte) (i : Nat) : byteAt bs i = (bs.getD i 0).toNat := by
  unfold byteAt field
  by_cases h : i < bs.length
  · rw [List.drop_eq_getElem_cons h, List.getD_eq_getElem _ _ h, List.take_succ_cons, List.take_zero]
    exact Nat.zero_add _
  · rw [List.drop_eq_nil_of_le (by omega), List.getD_eq_default _ _ (by omega)]
    rfl

/-- The byte that a zero field of any length shows. -/
theorem byteAt_toBytes_zero (n i : Nat) : byteAt (toBytes n 0) i = 0 := by
  induction n generalizing i with
  | zero => simp [toBytes, byteAt, field, ofBytes]
  | succ n ih =>
    have h : toBytes (n + 1) 0 = toBytes 1 0 ++ toBytes n 0 := by simp [toBytes]
    cases i with
    | zero => rw [h, byteAt, field_first]; rfl
    | succ i => rw [h, byteAt, field_later 1 0 _ _ _ (by omega)]; exact ih i

theorem byteAt_first (v : Nat) (b : List Byte) : byteAt (toBytes 1 v ++ b) 0 = v % 256 := field_first 1 v b

/-! ### Blocks of one length -/

theorem length_flatMap_blocks {α : Type} {f : α → List Byte} {m : Nat} {as : List α} (hf : ∀ a ∈ as, (f a).length = m) :
    (as.flatMap f).length = m * as.length := by
  rw [List.length_flatMap, List.map_congr_left hf, List.map_const', List.sum_replicate, smul_eq_mul, Nat.mul_comm]

/-- A field of one of several blocks of one length. -/
theorem field_flatMap_blocks {α : Type} {f : α → List Byte} {m : Nat} {as : List α} (hf : ∀ a ∈ as, (f a).length = m)
    {j : Nat} {a : α} (hj : as[j]? = some a) {i n : Nat} (hi : i + n ≤ m) :
    field (as.flatMap f) (m * j + i) n = field (f a) i n := by
  induction as generalizing j with
  | nil => cases hj
  | cons x as ih =>
    obtain ⟨hx, hrest⟩ := List.forall_mem_cons.mp hf
    rw [List.flatMap_cons]
    cases j with
    | zero =>
      cases hj
      rw [Nat.mul_zero, Nat.zero_add, field_append_left _ (hx ▸ hi)]
    | succ j =>
      rw [field_append_right _ _ (by rw [hx, Nat.mul_succ]; omega), hx, ← ih hrest hj]
      congr 1
      rw [Nat.mul_succ]
      omega

/-- The blocks that a byte string is cut into. -/
theorem chunks_eq_map {n k : Nat} {bs : List Byte} (h : bs.length = n * k) {limit : Nat} (hk : k ≤ limit) (hn : 0 < n) :
    chunks n limit bs = (List.range k).map fun j => (bs.drop (n * j)).take n := by
  induction limit generalizing k bs with
  | zero => rw [Nat.le_zero.mp hk]; rfl
  | succ limit ih =>
    cases k with
    | zero => rw [chunks, if_pos (by omega)]; rfl
    | succ k =>
      rw [Nat.mul_succ] at h
      rw [chunks, if_neg (by omega), ih (k := k) (by rw [List.length_drop]; omega) (by omega), List.range_succ_eq_map,
        List.map_cons, List.map_map]
      congr 1
      refine List.map_congr_left fun j _ => ?_
      rw [Function.comp_apply, List.drop_drop, Nat.mul_succ, Nat.add_comm]

end Sys2Proof.Machine
end

section
/-! SUPPORT. The frames of the line controller link as bytes: a message with its CRC, the frames of replies and
notices, and the lengths of the notice bodies (spec/10 sections 10.2, 10.7 and 10.8). -/
-- One proof at a time: elaborated side by side, the proofs take more stacks than the check's memory holds.
set_option Elab.async false
namespace Sys2Proof.Machine

/-! ### A message as a frame -/

section Frame
variable {kind tag : Nat} {body : List Byte}

theorem length_frameContent : (frameContent kind tag body).length = body.length + 4 := by
  simp [frameContent]
  omega

theorem length_frameBytes : (frameBytes kind tag body).length = body.length + 6 := by
  unfold frameBytes
  rw [List.length_append, length_frameContent, length_toBytes]

theorem frameBytes_eq : frameBytes kind tag body =
    toBytes 1 kind ++ (toBytes 1 tag ++ (toBytes 2 body.length ++ (body ++
      toBytes 2 (crc16 (frameContent kind tag body)).toNat))) := by
  simp only [frameBytes, frameContent, List.append_assoc]

theorem byteAt_frameBytes_kind (h : kind < 256) : byteAt (frameBytes kind tag body) 0 = kind := by
  rw [frameBytes_eq, byteAt_first, Nat.mod_eq_of_lt h]

theorem byteAt_frameBytes_tag (h : tag < 256) : byteAt (frameBytes kind tag body) 1 = tag := by
  rw [frameBytes_eq, byteAt, field_later 1 _ _ _ _ (by omega)]
  exact (byteAt_first _ _).trans (Nat.mod_eq_of_lt h)

theorem field_frameBytes_length (h : body.length < 65536) : field (frameBytes kind tag body) 2 2 = body.length := by
  rw [frameBytes_eq, field_later 1 _ _ _ _ (by omega), field_later 1 _ _ _ _ (by omega)]
  exact (field_first _ _ _).trans (Nat.mod_eq_of_lt h)

theorem drop_frameBytes : (frameBytes kind tag body).drop 4 =
    body ++ toBytes 2 (crc16 (frameContent kind tag body)).toNat := by
  rw [frameBytes_eq, ← List.append_assoc, ← List.append_assoc, List.drop_left' (by simp)]

theorem body_frameBytes : ((frameBytes kind tag body).drop 4).take body.length = body := by
  rw [drop_frameBytes, List.take_left' rfl]

/-- The CRC of a frame stands after its body (R184). -/
theorem field_frameBytes_crc : field (frameBytes kind tag body) (body.length + 4) 2 =
    (crc16 ((frameBytes kind tag body).take (body.length + 4))).toNat := by
  unfold frameBytes
  rw [List.take_left' length_frameContent, field_append_right _ _ length_frameContent.le, length_frameContent,
    Nat.sub_self, field_toBytes_word]

end Frame

/-! ### Replies -/

theorem Status.code_lt (st : Status) : st.code < 256 := by cases st <;> decide

theorem Reply.length_body (r : Reply) : (r.kind :: toBytes 1 r.status.code ++ r.data).length = r.data.length + 2 := by
  simp
  omega

theorem Reply.drop_frame (r : Reply) : r.frame.drop 4 =
    r.kind :: toBytes 1 r.status.code ++ r.data ++ toBytes 2 (crc16 (frameContent 0x80 r.tag.toNat
      (r.kind :: toBytes 1 r.status.code ++ r.data))).toNat := drop_frameBytes

theorem Reply.byteAt_frame_kind (r : Reply) : byteAt r.frame 4 = r.kind.toNat := by
  calc byteAt r.frame 4 = byteAt (r.frame.drop 4) 0 := (byteAt_drop r.frame 4 0).symm
    _ = r.kind.toNat := by rw [Reply.drop_frame, byteAt_eq_getD]; rfl

theorem Reply.byteAt_frame_status (r : Reply) : byteAt r.frame 5 = r.status.code := by
  calc byteAt r.frame 5 = byteAt (r.frame.drop 4) 1 := (byteAt_drop r.frame 4 1).symm
    _ = r.status.code % 256 := by rw [Reply.drop_frame, byteAt_eq_getD]; simp [toBytes]
    _ = r.status.code := Nat.mod_eq_of_lt r.status.code_lt

theorem Reply.data_frame (r : Reply) : (r.frame.drop 6).take r.data.length = r.data := by
  have hdrop : r.frame.drop 6 = (r.frame.drop 4).drop 2 := by rw [List.drop_drop]
  rw [hdrop, Reply.drop_frame, List.append_assoc, List.cons_append]
  simp [toBytes]

theorem Reply.ofReset_eq (r : Reply) : r.ofReset = decide (r.kind.toNat = 0x0B ∧ r.status = .ok) := by
  rw [Bool.eq_iff_iff]
  simp [Reply.ofReset, ← BitVec.toNat_inj]

/-! ### Notices -/

theorem length_flatMap_sat16 (ns : List Nat) : (ns.flatMap sat16).length = 2 * ns.length :=
  length_flatMap_blocks fun _ _ => length_toBytes _ _

/-- The full form of a PIECE notice is 88 bytes, the short form 13 (spec/10 section 10.8.2). -/
theorem Piece.length_noticeBody (full : Bool) (p : Piece) (o : PieceOutcome) (lost : Nat) :
    (p.noticeBody full o lost).length = if full then 88 else 13 := by
  have htallies (t : Tallies) : (t.list.flatMap sat16).length = 24 := length_flatMap_sat16 _
  unfold Piece.noticeBody
  cases p.classed with
  | none => cases p.extents? <;> cases full <;> rfl
  | some c => cases p.extents? <;> cases full <;> simp [htallies]

theorem length_lineBytes (x : Option (SeqNo × Nat)) : (lineBytes x).length = 8 := by
  cases x <;> simp [lineBytes]

theorem Notice.kind_lt (n : Notice) : n.kind < 256 := by cases n <;> simp only [Notice.kind] <;> decide

theorem Notice.length_body_le (n : Notice) : n.body.length ≤ 88 := by
  cases n with
  | piece full p o lost =>
    rw [Notice.body, Piece.length_noticeBody]
    split_ifs <;> decide
  | fines p => simp [Notice.body, Piece.finesBody, length_lineBytes]
  | _ => simp [Notice.body]

end Sys2Proof.Machine
end

section
/-! PROOF. The receivers and the transmitter of the links (R17, R159, R180, R183 to R187, R193). -/
set_option Elab.async false
namespace Sys2Proof.Machine

section Link
variable {s : State} {bytes : List Byte}

/-! ### Reception -/

theorem exec_linkFrameStart (s : State) : exec .linkFrameStart s = .next (
    if s.lnk.inFrame then State.count .gapAborts 1 s else { s with lnk.inFrame := true }) := by
  show execLinkFrameStart s = _
  unfold execLinkFrameStart State.dropFrame State.count
  cases h : s.lnk.inFrame with
  | false => rfl
  | true => simp only [if_true]; rw [← h]

theorem exec_linkFramingError (h : s.lnk.inFrame = true) :
    exec .linkFramingError s = .next (State.count .framingErrors 1 { s with lnk.inFrame := false }) := if_pos h

theorem exec_gapAbort (h : s.lnk.inFrame = true) :
    exec .gapAbort s = .next (State.count .gapAborts 1 { s with lnk.inFrame := false }) := if_pos h

theorem exec_linkFrameEnd_oversize (h : s.lnk.inFrame = true) (hlen : 4 ≤ bytes.length) (hn : 1024 < field bytes 2 2) :
    exec (.linkFrameEnd bytes) s = .next (State.count .framingErrors 1 { s with lnk.inFrame := false }) := by
  show execLinkFrameEnd bytes s = _
  unfold execLinkFrameEnd
  have hgo : ¬ (s.lnk.inFrame = false ∨ bytes.length < 4) := by simp [h]; omega
  rw [if_neg hgo, if_pos (show Config.bodyMax < statedLength bytes from hn)]
  rfl

/-- A frame that holds its stated length is judged by its CRC. -/
theorem exec_linkFrameEnd_whole (h : s.lnk.inFrame = true) (hlen : 4 ≤ bytes.length) (hn : field bytes 2 2 ≤ 1024)
    (hwhole : field bytes 2 2 + 6 ≤ bytes.length) :
    exec (.linkFrameEnd bytes) s = .next (s.judgeFrame bytes (field bytes 2 2)) := by
  show execLinkFrameEnd bytes s = _
  unfold execLinkFrameEnd
  have hgo : ¬ (s.lnk.inFrame = false ∨ bytes.length < 4) := by simp [h]; omega
  rw [if_neg hgo, if_neg (show ¬ Config.bodyMax < statedLength bytes from Nat.not_lt_of_le hn),
    if_neg (show ¬ bytes.length < wholeLength (statedLength bytes) from Nat.not_lt_of_le hwhole)]
  rfl

theorem checkHolds_iff (n : Nat) :
    checkHolds bytes n = true ↔ field bytes (n + 4) 2 = (crc16 (bytes.take (n + 4))).toNat := by
  rw [checkHolds, beq_iff_eq, Nat.add_comm 4 n, eq_comm]

theorem State.judgeFrame_good {n : Nat} (hc : field bytes (n + 4) 2 = (crc16 (bytes.take (n + 4))).toNat) :
    s.judgeFrame bytes n =
      (State.count .framesGood 1 { s with lnk.inFrame := false }).receive (frameOf bytes n) :=
  if_pos ((checkHolds_iff n).mpr hc)

theorem State.judgeFrame_bad {n : Nat} (hc : field bytes (n + 4) 2 ≠ (crc16 (bytes.take (n + 4))).toNat) :
    s.judgeFrame bytes n = State.count .checkErrors 1 { s with lnk.inFrame := false } :=
  if_neg fun h => hc ((checkHolds_iff n).mp h)

/-- The frame received is what the characters spell (R183). -/
theorem frameOf_spells {n : Nat} (h : n + 6 ≤ bytes.length) :
    (frameOf bytes n).kind.toNat = byteAt bytes 0 ∧ (frameOf bytes n).tag.toNat = byteAt bytes 1 ∧
      (frameOf bytes n).body.length = n ∧ ∀ j < n, byteAt (frameOf bytes n).body j = byteAt bytes (4 + j) := by
  refine ⟨(byteAt_eq_getD _ _).symm, (byteAt_eq_getD _ _).symm, ?_, fun j hj => ?_⟩
  · simp only [frameOf, List.length_take, List.length_drop]
    omega
  · exact (field_take (bs := bytes.drop 4) hj).trans (field_drop _ _ _ _)

/-! ### Transmission -/

theorem exec_transmitFrame (hfree : s.lnk.sending = none) (hreset : s.eng.resetReplySent = false) :
    exec .transmitFrame s = .next s.choose := if_pos ⟨by rw [hfree]; rfl, hreset⟩

theorem State.choose_reply {r : Reply} {rest : List Reply} (h : s.lnk.replies = r :: rest) :
    s.choose = { s with
      lnk.replies := rest, lnk.sending := some { bytes := r.frame, resetReply := r.ofReset } } := by
  unfold State.choose
  rw [h]

theorem State.choose_notice {n : Notice} {rest : List Notice} (hr : s.lnk.replies = []) (h : s.lnk.notices = n :: rest) :
    s.choose = { s with
      lnk.notices := rest, lnk.sending := some { bytes := n.frame, resetReply := false } } := by
  unfold State.choose
  rw [hr, h]

theorem exec_linkFrameSent {g : Sending} (h : s.lnk.sending = some g) : exec .linkFrameSent s = .next { s with
    lnk.sending := none, eng.resetReplySent := s.eng.resetReplySent || (g.resetReply && s.eng.resetPending) } := by
  show execLinkFrameSent s = _
  unfold execLinkFrameSent
  rw [h]

end Link

/-- Settles O50: each event's arm, and the bytes of a frame as they were written. -/
theorem framesPassTheLink : Obligations.FramesPassTheLink := by
  intro s
  refine ⟨rfl, rfl, exec_linkFrameStart s, fun hin => ⟨exec_linkFramingError hin, exec_gapAbort hin, ?received⟩,
    fun hfree hreset => ⟨fun r rest hr => ?reply, fun n rest hr hn => ?notice⟩, fun g => exec_linkFrameSent⟩
  case received =>
    rintro bytes n hlen rfl
    refine ⟨exec_linkFrameEnd_oversize hin hlen, fun hn hwhole => ?_⟩
    rw [exec_linkFrameEnd_whole hin hlen hn hwhole]
    refine ⟨fun hc => congrArg _ (State.judgeFrame_bad hc), fun hc hroom => ?_, fun hc hfull => ?_⟩
    · refine ⟨frameOf bytes (field bytes 2 2), ?_, frameOf_spells hwhole⟩
      rw [State.judgeFrame_good hc]
      exact congrArg _ (if_pos hroom)
    · rw [State.judgeFrame_good hc]
      exact congrArg _ (if_neg (Nat.not_lt_of_le hfull))
  case reply =>
    refine ⟨r.frame, ?_, fun hdata => ?_⟩
    · rw [exec_transmitFrame hfree hreset, State.choose_reply hr, Reply.ofReset_eq]
    · have hbody := r.length_body
      refine ⟨?_, byteAt_frameBytes_kind (by decide), byteAt_frameBytes_tag r.tag.isLt, ?_, r.byteAt_frame_kind,
        r.byteAt_frame_status, r.data_frame, ?_⟩
      · exact length_frameBytes.trans (by rw [hbody])
      · exact (field_frameBytes_length (by omega)).trans hbody
      · have hcrc := field_frameBytes_crc (kind := 0x80) (tag := r.tag.toNat)
          (body := r.kind :: toBytes 1 r.status.code ++ r.data)
        rwa [hbody] at hcrc
  case notice =>
    refine ⟨n.frame, ?_, length_frameBytes, ?_, byteAt_frameBytes_tag (by decide), field_frameBytes_length ?_,
      body_frameBytes, field_frameBytes_crc⟩
    · rw [exec_transmitFrame hfree hreset, State.choose_notice hr hn]
    · refine (byteAt_frameBytes_kind n.kind_lt).trans ?_
      cases n <;> rfl
    · have := n.length_body_le
      omega

end Sys2Proof.Machine
end

section
/-! SUPPORT. A fault raised beside the sensor lines: what the raise leaves of pieces, engine, link and survey does not
depend on the SLI, on the lines that wait for their takers, or on the counts (R174 to R177). -/
-- One proof at a time: elaborated side by side, the proofs take more stacks than the check's memory holds.
set_option Elab.async false
namespace Sys2Proof.Machine

/-- The state with the SLI, the lines handed over and the counts blanked. -/
def State.withoutLines (s : State) : State :=
  { s with
    sli := State.reset.sli, sta := State.reset.sta, bltLines := [], segLines := [], ldmLines := [], capLines := [] }

/-- Two states are alike but for the SLI, the lines handed over and the counts. -/
def State.Alike (s t : State) : Prop := s.withoutLines = t.withoutLines

theorem State.alike_withoutLines (s : State) : s.Alike s.withoutLines := rfl

theorem State.Alike.trans {s t u : State} (h : s.Alike t) (g : t.Alike u) : s.Alike u := Eq.trans h g

theorem State.Alike.symm {s t : State} (h : s.Alike t) : t.Alike s := Eq.symm h

/-- What reads nothing of the blanked parts is the same in both. -/
theorem State.Alike.reads {α : Type} {s t : State} (h : s.Alike t) (f : State → α) :
    f s.withoutLines = f t.withoutLines := congrArg f h

theorem State.Alike.eng {s t : State} (h : s.Alike t) : s.eng = t.eng := h.reads State.eng
theorem State.Alike.lnk {s t : State} (h : s.Alike t) : s.lnk = t.lnk := h.reads State.lnk
theorem State.Alike.seg {s t : State} (h : s.Alike t) : s.seg = t.seg := h.reads State.seg
theorem State.Alike.cls {s t : State} (h : s.Alike t) : s.cls = t.cls := h.reads State.cls
theorem State.Alike.blt {s t : State} (h : s.Alike t) : s.blt = t.blt := h.reads State.blt

theorem State.Alike.ite {c d : Prop} [Decidable c] [Decidable d] {a b a' b' : State} (hcd : c ↔ d)
    (ha : a.Alike a') (hb : b.Alike b') : (if c then a else b).Alike (if d then a' else b') := by
  by_cases h : c
  · rwa [if_pos h, if_pos (hcd.mp h)]
  · rwa [if_neg h, if_neg fun hd => h (hcd.mpr hd)]

/-- An operation that reads nothing of what `State.withoutLines` blanks. -/
def Unlined (f : State → State) : Prop := ∀ s, (f s).Alike (f s.withoutLines)

section Operations
variable {s t : State} {f g : State → State}

theorem Unlined.alike (hf : Unlined f) (h : s.Alike t) : (f s).Alike (f t) := by
  have hst : s.withoutLines = t.withoutLines := h
  exact (hst ▸ hf s : (f s).Alike (f t.withoutLines)).trans (hf t).symm

theorem Unlined.comp (hg : Unlined g) (hf : Unlined f) : Unlined fun s => g (f s) := fun s => hg.alike (hf s)

theorem Unlined.ite {c : State → Prop} [DecidablePred c] (hc : ∀ s, c s ↔ c s.withoutLines) (hf : Unlined f)
    (hg : Unlined g) : Unlined fun s => if c s then f s else g s := fun s => .ite (hc s) (hf s) (hg s)

theorem Unlined.foldl {α : Type} {f : State → α → State} (hf : ∀ a, Unlined fun s => f s a) (as : List α) :
    Unlined fun s => as.foldl f s := by
  induction as with
  | nil => exact State.alike_withoutLines
  | cons a as ih => exact ih.comp (hf a)

theorem unlined_id : Unlined id := State.alike_withoutLines

theorem unlined_count (c : Counter) (n : Nat) : Unlined (State.count c n) := fun _ => rfl

theorem unlined_offer (n : Notice) : Unlined (State.offer n) :=
  .ite (fun _ => Iff.rfl) (unlined_count _ _) (.ite (fun _ => Iff.rfl) (fun _ => rfl) (unlined_count _ _))

theorem unlined_offerPiece (p : Piece) (o : PieceOutcome) : Unlined (State.offerPiece p o) :=
  .ite (fun _ => Iff.rfl) (unlined_count _ _) (.ite (fun _ => Iff.rfl) (fun _ => rfl) fun _ => rfl)

theorem unlined_setEngine (new : EngState) (cause : EngCause) : Unlined (State.setEngine new cause) :=
  .ite (fun _ => Iff.rfl) unlined_id fun s =>
    (unlined_offer (.engine s.eng.state new cause s.eng.flags s.bpu.pos .none)).alike rfl

theorem unlined_judgeDrained : Unlined State.judgeDrained :=
  .ite (fun _ => Iff.rfl) (unlined_setEngine _ _) unlined_id

theorem unlined_releaseSlot (i : Slot) : Unlined (State.releaseSlot i) := fun s => by
  unfold State.releaseSlot
  cases h : s.piece i with
  | none => rw [show s.withoutLines.piece i = none from h]; rfl
  | some p => rw [show s.withoutLines.piece i = some p from h]; rfl

theorem unlined_endPiece (o : PieceOutcome) (i : Slot) : Unlined (State.endPiece o i) := fun s => by
  unfold State.endPiece
  cases h : s.piece i with
  | none => rw [show s.withoutLines.piece i = none from h]; rfl
  | some p =>
    rw [show s.withoutLines.piece i = some p from h]
    exact (((unlined_releaseSlot i).comp (unlined_offerPiece p o)).comp (unlined_count (.ofOutcome o) 1)) s

theorem unlined_abandonAll (is : List Slot) : Unlined (State.abandonAll is) :=
  .foldl (fun i => unlined_judgeDrained.comp (unlined_endPiece .abandoned i)) is

theorem unlined_abandonOpen : Unlined State.abandonOpen := fun s => unlined_abandonAll (s.slotsIn .openPiece) s

theorem unlined_abandonClassifier : Unlined State.abandonClassifier := fun s =>
  (unlined_abandonAll s.cls.held).alike rfl

theorem unlined_abortSurvey (cause : EngCause) : Unlined (State.abortSurvey cause) := fun s =>
  ((unlined_setEngine .idle cause).comp (unlined_offer (.surveyEnd .aborted s.blt.acc.good))).alike rfl

theorem unlined_haltBy (k : FaultKind) : Unlined (State.haltBy k) := fun s =>
  (((unlined_abandonClassifier.comp unlined_abandonOpen).comp (unlined_setEngine .halted k.cause)).comp
    (unlined_offer (.fault (.raised k) .halted (s.flag k).eng.flags s.bpu.pos))).alike rfl

/-- The raise of a fault reads no line and no count. -/
theorem unlined_raiseFault (k : FaultKind) : Unlined (State.raiseFault k) :=
  .ite (fun _ => Iff.rfl) (unlined_haltBy k)
    (.ite (fun _ => Iff.rfl)
      (fun s => ((unlined_abortSurvey .sensorLost).comp
        (unlined_offer (.fault (.raised k) .idle (s.flag k).eng.flags s.bpu.pos))).alike rfl)
      fun s => (unlined_offer (.fault (.raised k) s.eng.state (s.flag k).eng.flags s.bpu.pos)).alike rfl)

end Operations
end Sys2Proof.Machine
end

section
/-! SUPPORT. Missing lines (R21 to R24): the marks they carry, and a row of entries declared missing one after another. -/
-- One proof at a time: elaborated side by side, the proofs take more stacks than the check's memory holds.
set_option Elab.async false
namespace Sys2Proof.Machine

/-! ### Windows and carried marks -/

theorem LineSettings.inWindow_iff (snap : LineSettings) (i : Fin 96) :
    snap.inWindow i.val = true ↔ cellInWindow snap i := by
  simp only [LineSettings.inWindow, Bool.and_eq_true, decide_eq_true_eq]
  rfl

/-- The carried marks, place by place (R23). -/
theorem carriedMarks_spec (snap : LineSettings) (prev : Marks) (i : Fin 96) :
    (look (carriedMarks snap prev) i = .outside ↔ ¬ cellInWindow snap i) ∧
      (look (carriedMarks snap prev) i = .occupied ↔ cellInWindow snap i ∧ look prev i = .occupied) ∧
      look (carriedMarks snap prev) i ≠ .cleared := by
  rw [carriedMarks, look_tabulate, ← snap.inWindow_iff]
  by_cases hin : snap.inWindow i.val = true
  · by_cases hocc : look prev i = .occupied
    · simp [hin, hocc]
    · simp [hin, hocc]
  · simp [hin]

/-! ### A row of missing lines -/

/-- The lines of a row of entries declared missing, after a line with these marks. -/
def missingLines : Marks → List Trigger → List Line
  | _, [] => []
  | prev, o :: os =>
    o.line none (carriedMarks o.snap prev) prev :: missingLines (carriedMarks o.snap prev) os

/-- The marks of the last of a row of missing lines. -/
def marksAfter (prev : Marks) (os : List Trigger) : Marks := os.foldl (fun m o => carriedMarks o.snap m) prev

theorem missingLines_entries (prev : Marks) (os : List Trigger) :
    (missingLines prev os).map (fun m => (m.seq, m.start, m.stop, m.snap, m.disturbed, m.samples)) =
      os.map fun o => (o.seq, o.start, o.stop, o.snap, o.disturbed, none) := by
  induction os generalizing prev with
  | nil => rfl
  | cons o os ih => exact congrArg _ (ih _)

/-- Each line of the row carries the marks of the one before it. -/
theorem missingLines_prevMarks (prev : Marks) (os : List Trigger) :
    (missingLines prev os).map (·.prevMarks) ++ [marksAfter prev os] =
      prev :: (missingLines prev os).map (·.marks) := by
  induction os generalizing prev with
  | nil => rfl
  | cons o os ih => exact congrArg _ (ih _)

theorem missingLines_marks {prev : Marks} {os : List Trigger} {m : Line} (h : m ∈ missingLines prev os) :
    m.marks = carriedMarks m.snap m.prevMarks := by
  induction os generalizing prev with
  | nil => cases h
  | cons o os ih =>
    cases h with
    | head => rfl
    | tail _ h => exact ih h

/-! ### Declaring a row of entries missing -/

/-- A row of entries declared missing, the oldest first (R20). -/
def State.declareAll (os : List Trigger) (s : State) : State := os.foldl (fun (u : State) o => u.declareMissing o) s

section Declare
variable (s : State)

theorem State.declareAll_cons (o : Trigger) (os : List Trigger) :
    s.declareAll (o :: os) = (s.declareMissing o).declareAll os := rfl

theorem State.declareAll_steady (os : List Trigger) :
    (s.declareAll os).steady = { s.steady with
      sli := { s.sli with
        prevMarks := marksAfter s.sli.prevMarks os, missingRun := (s.declareAll os).sli.missingRun }
      bltLines := s.bltLines ++ missingLines s.sli.prevMarks os
      segLines := s.segLines ++ missingLines s.sli.prevMarks os
      ldmLines := s.ldmLines ++ missingLines s.sli.prevMarks os
      capLines := s.capLines ++ missingLines s.sli.prevMarks os } := by
  induction os generalizing s with
  | nil => simp only [missingLines, List.append_nil]; rfl
  | cons o os ih =>
    have hone := s.declareMissing_steady o
    have hsli : (s.declareMissing o).sli = (s.steady.missing o).sli := congrArg Steady.sli hone
    have hblt : (s.declareMissing o).bltLines = (s.steady.missing o).bltLines := congrArg Steady.bltLines hone
    have hseg : (s.declareMissing o).segLines = (s.steady.missing o).segLines := congrArg Steady.segLines hone
    have hldm : (s.declareMissing o).ldmLines = (s.steady.missing o).ldmLines := congrArg Steady.ldmLines hone
    have hcap : (s.declareMissing o).capLines = (s.steady.missing o).capLines := congrArg Steady.capLines hone
    rw [State.declareAll_cons, ih, hone, hsli, hblt, hseg, hldm, hcap]
    simp only [Steady.missing, List.append_assoc]
    rfl

theorem State.declareAll_missing (os : List Trigger) (h : s.sta.get .missing ≤ 4294967295) :
    (s.declareAll os).sta.get .missing = min 4294967295 (s.sta.get .missing + os.length) := by
  induction os generalizing s with
  | nil => exact (Nat.min_eq_right h).symm
  | cons o os ih =>
    have hone := s.declareMissing_count o
    rw [State.declareAll_cons, ih _ (hone ▸ Nat.min_le_left _ _), hone, List.length_cons]
    omega

theorem ApartFromLines.declareAll {α : Type} {f : State → α} (hf : ApartFromLines f) (os : List Trigger) :
    f (s.declareAll os) = f s := by
  induction os generalizing s with
  | nil => rfl
  | cons o os ih => exact (ih _).trans (hf.declareMissing s o)

/-- The state after a row of `n` missing lines, but for the lines: the eighth of a run raises SENSOR_LOST (R24). -/
def State.afterMissing (n : Nat) (s : State) : State :=
  if s.sli.missingRun < 8 ∧ 8 ≤ s.sli.missingRun + n then s.raiseFault .sensorLost else s

theorem State.Alike.afterMissing {s t : State} (h : s.Alike t) (hrun : s.sli.missingRun = t.sli.missingRun) (n : Nat) :
    (s.afterMissing n).Alike (t.afterMissing n) :=
  .ite (by rw [hrun]) ((unlined_raiseFault .sensorLost).alike h) h

theorem State.missed_alike (o : Trigger) : (s.missed o).Alike s := rfl

theorem State.declareAll_alike (os : List Trigger) : (s.declareAll os).Alike (s.afterMissing os.length) := by
  induction os generalizing s with
  | nil => exact congrArg State.withoutLines (if_neg (by rw [List.length_nil]; omega)).symm
  | cons o os ih =>
    rw [State.declareAll_cons]
    refine (ih _).trans ?_
    have hrun : (s.declareMissing o).sli.missingRun = min 8 (s.sli.missingRun + 1) :=
      congrArg Sli.missingRun (s.declareMissing_sli o)
    have hraised := (unlined_raiseFault .sensorLost).alike (s.missed_alike o)
    unfold State.afterMissing
    rw [hrun, List.length_cons, State.declareMissing_eq]
    by_cases hseven : s.sli.missingRun = 7
    · rw [if_pos hseven, if_neg (by omega), if_pos (by omega)]
      exact hraised
    · rw [if_neg hseven]
      exact .ite (by omega) hraised (s.missed_alike o)

end Declare
end Sys2Proof.Machine
end

section
/-! PROOF. Line requests and sensor frames (R17, R19 to R25, R33). -/
set_option Elab.async false
namespace Sys2Proof.Machine

/-! ### Line requests -/

theorem markRequested_append {sent : List Trigger} (hsent : ∀ o ∈ sent, o.requested = true) (ts : List Trigger) :
    markRequested (sent ++ ts) = sent ++ markRequested ts := by
  induction sent with
  | nil => rfl
  | cons o sent ih =>
    obtain ⟨ho, hrest⟩ := List.forall_mem_cons.mp hsent
    rw [List.cons_append, markRequested, if_pos ho, ih hrest, List.cons_append]

theorem find_waiting {sent waiting : List Trigger} {e : Trigger} (hsent : ∀ o ∈ sent, o.requested = true)
    (he : e.requested = false) : ((sent ++ e :: waiting).find? fun t => !t.requested) = some e := by
  have hnone : (sent.find? fun t => !t.requested) = none := List.find?_eq_none.mpr fun o ho => by simp [hsent o ho]
  rw [List.find?_append, hnone, Option.none_or]
  exact List.find?_cons_of_pos (by rw [he]; rfl)

theorem lineRequest_number (seq : SeqNo) : field (lineRequest seq) 0 2 = seq.toNat :=
  (field_first _ _ _).trans (Nat.mod_eq_of_lt seq.isLt)

theorem lineRequest_crc (seq : SeqNo) : field (lineRequest seq) 2 2 = (crc16 ((lineRequest seq).take 2)).toNat := by
  unfold lineRequest
  rw [List.take_left' (length_toBytes 2 _), field_later 2 _ _ _ _ (by omega)]
  exact field_toBytes_word _

/-- Settles O10: the first entry whose request waits is the one found and the one marked. -/
theorem lineRequestsGoOutInOrder : Obligations.LineRequestsGoOutInOrder := by
  intro s sent waiting e hout hsent he
  refine ⟨lineRequest e.seq, rfl, lineRequest_number _, lineRequest_crc _, ?_⟩
  show execLineRequestSend s = _
  unfold execLineRequestSend
  rw [hout, find_waiting hsent he, markRequested_append hsent]
  simp only [markRequested, he, Bool.false_eq_true, if_false]

/-! ### A missing line -/

/-- Settles O14: the line is the one handed over, and the run before it decides on the fault. -/
theorem missingLineIsDeclared : Obligations.MissingLineIsDeclared := fun s e =>
  ⟨s.sli.missingLine e, rfl, rfl, rfl, carriedMarks_spec e.snap s.sli.prevMarks, s.declareMissing_eq e⟩

/-! ### Sensor frames -/

theorem sensorFrameGood_iff {bytes : List Byte} {broken : Bool} :
    sensorFrameGood bytes broken = true ↔ broken = false ∧ sensorFrameSound bytes := by
  unfold sensorFrameGood sensorFrameSound samplesInRange sensorFrameLength
  simp only [Bool.and_eq_true, Bool.not_eq_true', beq_iff_eq, List.all_eq_true, List.mem_range, decide_eq_true_eq,
    and_assoc, eq_comm (a := (crc16 (bytes.take 898)).toNat)]

section Ended
variable {s : State} {bytes : List Byte}

theorem exec_sensorFrameEnd_good (hin : s.sli.inFrame = true) (hgood : sensorFrameSound bytes) :
    exec (.sensorFrameEnd bytes false) s = .next (State.matchFrame bytes { s with sli.inFrame := false }) :=
  (if_pos hin).trans (if_pos (sensorFrameGood_iff.mpr ⟨rfl, hgood⟩))

theorem exec_sensorFrameEnd_bad {broken : Bool} (hin : s.sli.inFrame = true)
    (hbad : ¬ (broken = false ∧ sensorFrameSound bytes)) :
    exec (.sensorFrameEnd bytes broken) s = .next (State.count .frameErrors 1 { s with sli.inFrame := false }) :=
  (if_pos hin).trans (if_neg fun h => hbad (sensorFrameGood_iff.mp h))

end Ended

/-- Settles O11: each of the four defects keeps the frame from being good. -/
theorem badSensorFrameIsDiscarded : Obligations.BadSensorFrameIsDiscarded := by
  intro s bytes broken hin hbad
  refine exec_sensorFrameEnd_bad hin ?_
  rintro ⟨hunbroken, hlength, hcrc, hsamples⟩
  obtain hbroken | hshort | hcheck | ⟨j, hj, hhigh⟩ := hbad
  · rw [hunbroken] at hbroken; cases hbroken
  · exact hshort hlength
  · exact hcheck hcrc
  · exact Nat.not_le_of_lt hhigh (hsamples j hj)

/-! ### Matching a frame -/

section Match
variable {s : State} {bytes : List Byte}

theorem State.matchFrame_stray (h : ∀ e ∈ s.sli.outstanding, e.seq.toNat ≠ field bytes 0 2) :
    s.matchFrame bytes = s.count .stray 1 := by
  have hnone : (s.sli.outstanding.dropWhile fun t => t.seq.toNat != field bytes 0 2) = [] :=
    List.dropWhile_eq_nil_iff.mpr fun e he => bne_iff_ne.mpr (h e he)
  unfold State.matchFrame
  dsimp only
  rw [hnone]

theorem State.matchFrame_matched {older rest : List Trigger} {e : Trigger} (hout : s.sli.outstanding = older ++ e :: rest)
    (holder : ∀ o ∈ older, o.seq.toNat ≠ field bytes 0 2) (he : e.seq.toNat = field bytes 0 2) :
    s.matchFrame bytes =
      (State.declareAll older { s with sli.outstanding := rest }).processFrame e bytes := by
  have hskip : ∀ o ∈ older, (o.seq.toNat != field bytes 0 2) = true := fun o ho => bne_iff_ne.mpr (holder o ho)
  have hstop : ¬ (e.seq.toNat != field bytes 0 2) = true := by simp [he]
  have htake : (s.sli.outstanding.takeWhile fun t => t.seq.toNat != field bytes 0 2) = older := by
    rw [hout, List.takeWhile_append_of_pos hskip, List.takeWhile_cons_of_neg (a := e) hstop, List.append_nil]
  have hdrop : (s.sli.outstanding.dropWhile fun t => t.seq.toNat != field bytes 0 2) = e :: rest := by
    rw [hout, List.dropWhile_append_of_pos hskip, List.dropWhile_cons_of_neg (a := e) hstop]
  unfold State.matchFrame
  dsimp only
  rw [hdrop, htake]
  rfl

/-- The samples of a frame, at their places (R19, R29). -/
theorem conditionLine_spec (snap : LineSettings) (b : Blt) (bytes : List Byte) :
    (∀ i k, (look (conditionLine snap b bytes).refs i).get k =
      field bytes (2 + 2 * (4 * (if i.val < 8 then i.val else 96 + i.val) + k.index)) 2) ∧
    (∀ i k, (look (conditionLine snap b bytes).cells i).raw.get k =
      field bytes (2 + 2 * (4 * (8 + i.val) + k.index)) 2) ∧
    ∀ i, look (conditionLine snap b bytes).cells i = conditionCell snap (conditionLine snap b bytes).refs b.refLevel
      (look b.baseline i) (look (conditionLine snap b bytes).cells i).raw := by
  refine ⟨fun i k => ?_, fun i k => ?_, fun i => ?_⟩
  · simp only [conditionLine, frameRefs, look_tabulate, frameCell, Quad.get_make, frameSample]
  · simp only [conditionLine, look_tabulate, conditionCell, frameCell, Quad.get_make, frameSample]
  · simp only [conditionLine, look_tabulate, conditionCell]

/-- The line of an entry from its frame, after other lines. -/
def State.frameLine (s : State) (e : Trigger) (bytes : List Byte) : Line :=
  e.line (some (conditionLine e.snap s.blt bytes))
    (occupancyMarks e.snap (conditionLine e.snap s.blt bytes).cells) s.sli.prevMarks

theorem State.processFrame_steady (s : State) (e : Trigger) (bytes : List Byte) :
    (s.processFrame e bytes).steady = { s.steady with
      sli := { s.sli with prevMarks := (s.frameLine e bytes).marks, missingRun := 0 }
      bltLines := s.bltLines ++ [s.frameLine e bytes], segLines := s.segLines ++ [s.frameLine e bytes]
      ldmLines := s.ldmLines ++ [s.frameLine e bytes], capLines := s.capLines ++ [s.frameLine e bytes] } := rfl

/-- The lines of a matched frame: the row of older entries declared missing, then the entry's own. -/
theorem State.matched_steady (s : State) (older : List Trigger) (e : Trigger) (bytes : List Byte) :
    ((s.declareAll older).processFrame e bytes).steady = { s.steady with
      sli := { s.sli with missingRun := 0, prevMarks := ((s.declareAll older).frameLine e bytes).marks }
      bltLines := s.bltLines ++ missingLines s.sli.prevMarks older ++ [(s.declareAll older).frameLine e bytes]
      segLines := s.segLines ++ missingLines s.sli.prevMarks older ++ [(s.declareAll older).frameLine e bytes]
      ldmLines := s.ldmLines ++ missingLines s.sli.prevMarks older ++ [(s.declareAll older).frameLine e bytes]
      capLines := s.capLines ++ missingLines s.sli.prevMarks older ++ [(s.declareAll older).frameLine e bytes] } := by
  have hsteady := s.declareAll_steady older
  generalize s.declareAll older = x at *
  have hsli : x.sli = _ := congrArg Steady.sli hsteady
  have hblt : x.bltLines = _ := congrArg Steady.bltLines hsteady
  have hseg : x.segLines = _ := congrArg Steady.segLines hsteady
  have hldm : x.ldmLines = _ := congrArg Steady.ldmLines hsteady
  have hcap : x.capLines = _ := congrArg Steady.capLines hsteady
  rw [State.processFrame_steady, hblt, hseg, hldm, hcap, hsteady, hsli]

theorem State.declareAll_prevMarks (s : State) (os : List Trigger) :
    (s.declareAll os).sli.prevMarks = marksAfter s.sli.prevMarks os :=
  congrArg (fun y => y.sli.prevMarks) (s.declareAll_steady os)

theorem counters_besideMissing : ∀ d ∈ [Counter.triggered, .disturbed, .stray, .frameErrors, .encoderErrors, .reverseLost],
    Counter.ofEnding d = false ∧ d ≠ .missing := by decide

end Match

/-- Settles O12: the row of older entries declared missing, then the entry's line; a fault is raised as it would be
without the lines. -/
theorem goodSensorFrameIsMatched : Obligations.GoodSensorFrameIsMatched := by
  intro s bytes hin hgood
  refine ⟨fun h => (exec_sensorFrameEnd_good hin hgood).trans (congrArg _ (State.matchFrame_stray h)),
    fun older rest e hout holder he => ?_⟩
  have hexec := (exec_sensorFrameEnd_good hin hgood).trans (congrArg _ (State.matchFrame_matched hout holder he))
  have hfree : State.Alike { s with sli.inFrame := false, sli.outstanding := rest } s := rfl
  have halike := (State.declareAll_alike { s with sli.inFrame := false, sli.outstanding := rest } older).trans
    (hfree.afterMissing rfl older.length)
  have hsteady := State.matched_steady { s with sli.inFrame := false, sli.outstanding := rest } older e bytes
  have hmissing := State.declareAll_missing { s with sli.inFrame := false, sli.outstanding := rest } older
  have hprev := State.declareAll_prevMarks { s with sli.inFrame := false, sli.outstanding := rest } older
  have hrest := State.declareAll_steady { s with sli.inFrame := false, sli.outstanding := rest } older
  have hcount {d : Counter} (hd : Counter.ofEnding d = false) (hm : d ≠ .missing) :=
    (apartFromLines_count hd hm).declareAll { s with sli.inFrame := false, sli.outstanding := rest } older
  generalize State.declareAll older { s with sli.inFrame := false, sli.outstanding := rest } = x at *
  have hbaseline : x.blt.baseline = s.blt.baseline := congrArg Steady.baseline hrest
  have hlevel : x.blt.refLevel = s.blt.refLevel := congrArg Steady.refLevel hrest
  obtain ⟨hrefs, hraw, hcells⟩ := conditionLine_spec e.snap x.blt bytes
  rw [hbaseline, hlevel] at hcells
  refine ⟨x.processFrame e bytes, missingLines s.sli.prevMarks older, x.frameLine e bytes,
    conditionLine e.snap x.blt bytes, hexec, hsteady, missingLines_entries _ _, ?_, fun m hm i => ?_, hmissing,
    fun d hd => ?_, halike.eng, halike.lnk, halike.seg, halike.cls, halike.blt, rfl, rfl, rfl, hrefs, hraw, hcells⟩
  · rw [List.map_append, ← missingLines_prevMarks]
    exact congrArg (_ ++ [·]) hprev
  · rw [missingLines_marks hm]
    exact carriedMarks_spec _ _ _
  · obtain ⟨hending, hother⟩ := counters_besideMissing d hd
    exact hcount hending hother

end Sys2Proof.Machine
end

section
/-! SUPPORT. Quotients rounded to nearest (spec/00_scope.md section 3.5), tables as lists, and the maximal runs of a list
of marks (R31). -/
-- One proof at a time: elaborated side by side, the proofs take more stacks than the check's memory holds.
set_option Elab.async false
namespace Sys2Proof.Machine

/-! ### Quotients and clamps -/

/-- A quotient rounded to nearest is within half a divisor, and a half is rounded away from zero. -/
theorem roundNear_spec (n : Int) {d : Nat} (hd : 0 < d) :
    2 * |(d : Int) * roundNear n d - n| ≤ d ∧
      (2 * |(d : Int) * roundNear n d - n| = d → |n| < |(d : Int) * roundNear n d|) := by
  obtain ⟨q, hq⟩ : ∃ q, q = (2 * n.natAbs + d) / (2 * d) := ⟨_, rfl⟩
  have hlow : 2 * d * q ≤ 2 * n.natAbs + d := hq ▸ Nat.mul_div_le _ _
  have hhigh : 2 * n.natAbs + d < 2 * d * q + 2 * d := hq ▸ Nat.lt_mul_div_succ _ (by omega)
  rw [Nat.mul_assoc] at hlow hhigh
  have hcast : (d : Int) * q = ((d * q : Nat) : Int) := (Nat.cast_mul d q).symm
  generalize d * q = m at *
  unfold roundNear
  rw [← hq]
  split_ifs with hn
  · rw [hcast, Int.abs_eq_natAbs, Int.abs_eq_natAbs, Int.abs_eq_natAbs]
    omega
  · rw [mul_neg, hcast, Int.abs_eq_natAbs, Int.abs_eq_natAbs, Int.abs_eq_natAbs]
    omega

theorem clamp_eq {lo hi : Int} (h : lo ≤ hi) (v : Int) : clamp lo hi v = max lo (min hi v) := by
  unfold clamp
  split_ifs
  · omega
  · omega
  · omega

/-! ### Tables as lists -/

theorem toList_eq_map_look {α : Type} {n : Nat} (v : Vector α n) : v.toList = (List.finRange n).map (look v) := by
  refine List.ext_getElem (by simp) fun i h₁ h₂ => ?_
  simp [look]

theorem getElem?_tabulate_eq_some {α : Type} {n : Nat} (f : Fin n → α) (i : Nat) (a : α) :
    (tabulate n f).toList[i]? = some a ↔ ∃ h : i < n, f ⟨i, h⟩ = a := by
  rw [toList_eq_map_look, List.getElem?_map, Option.map_eq_some_iff]
  simp only [look_tabulate, List.getElem?_eq_some_iff, List.length_finRange, List.getElem_finRange]
  constructor
  · rintro ⟨_, ⟨h, rfl⟩, rfl⟩
    exact ⟨h, rfl⟩
  · rintro ⟨h, rfl⟩
    exact ⟨_, ⟨h, rfl⟩, rfl⟩

theorem Chan.any_all (f : Chan → Bool) : Chan.all.any f = true ↔ ∃ k, f k = true := by
  simp only [List.any_eq_true]
  exact ⟨fun ⟨k, _, h⟩ => ⟨k, h⟩, fun ⟨k, h⟩ => ⟨k, by cases k <;> decide, h⟩⟩

/-! ### Maximal runs -/

/-- The place lies in the run still growing before place `i`, or is true in the list that begins there. -/
def Reached (i : Nat) (cur : Option Nat) (bs : List Bool) (p : Nat) : Prop :=
  (∃ a, cur = some a ∧ a ≤ p ∧ p < i) ∨ (i ≤ p ∧ bs[p - i]? = some true)

theorem reached_none {bs : List Bool} {p : Nat} : Reached 0 none bs p ↔ bs[p]? = some true := by
  simp [Reached]

theorem reached_cons {i : Nat} {cur : Option Nat} {b : Bool} {bs : List Bool} {p : Nat} :
    Reached i cur (b :: bs) p ↔
      (∃ a, cur = some a ∧ a ≤ p ∧ p < i) ∨ (p = i ∧ b = true) ∨ Reached (i + 1) none bs p := by
  unfold Reached
  refine or_congr_right ?_
  obtain hlt | rfl | hgt := Nat.lt_trichotomy p i
  · simp only [reduceCtorEq, false_and, exists_false, false_or]
    omega
  · simp
  · obtain ⟨m, rfl⟩ : ∃ m, p = i + 1 + m := ⟨p - (i + 1), by omega⟩
    rw [show i + 1 + m - i = m + 1 by omega, Nat.add_sub_cancel_left, List.getElem?_cons_succ]
    simp [show i ≤ i + 1 + m by omega, show i + 1 + m ≠ i by omega]

/-- A true place begins a run, or lengthens the one that grows. -/
theorem reached_cons_true {i a : Nat} {cur : Option Nat} {bs : List Bool} {p : Nat} (ha : a ≤ i)
    (hcur : cur = some a ∨ cur = none ∧ a = i) : Reached i cur (true :: bs) p ↔ Reached (i + 1) (some a) bs p := by
  rw [reached_cons]
  unfold Reached
  obtain rfl | ⟨rfl, rfl⟩ := hcur
  · simp only [Option.some.injEq, exists_eq_left', reduceCtorEq, false_and, exists_false, false_or, and_true]
    grind
  · simp only [Option.some.injEq, exists_eq_left', reduceCtorEq, false_and, exists_false, false_or, and_true]
    grind

/-- A false place ends the run that grows. -/
theorem reached_cons_false {i : Nat} {cur : Option Nat} {bs : List Bool} {p : Nat} :
    Reached i cur (false :: bs) p ↔ (∃ a, cur = some a ∧ a ≤ p ∧ p < i) ∨ Reached (i + 1) none bs p := by
  rw [reached_cons]
  simp only [Bool.false_eq_true, and_false, false_or]

theorem reached_from {i : Nat} {bs : List Bool} {p : Nat} (h : Reached i none bs p) : i ≤ p := by
  obtain ⟨a, ha, _⟩ | ⟨hp, _⟩ := h
  · cases ha
  · exact hp

/-- Every run is one of reached places. -/
theorem runsFrom_reached (i : Nat) (cur : Option Nat) (bs : List Bool) (hcur : ∀ a, cur = some a → a < i) :
    ∀ r ∈ runsFrom i cur bs, r.left ≤ r.right ∧ ∀ p, r.left ≤ p → p ≤ r.right → Reached i cur bs p := by
  have grown {i a : Nat} (bs : List Bool) (h : a < i) :
      a ≤ i - 1 ∧ ∀ p, a ≤ p → p ≤ i - 1 → Reached i (some a) bs p :=
    ⟨by omega, fun p hp hi => .inl ⟨a, rfl, hp, by omega⟩⟩
  induction i, cur, bs using runsFrom.induct with
  | case1 => exact fun r hr => nomatch hr
  | case2 i a =>
    intro r hr
    obtain rfl := List.mem_singleton.mp hr
    exact grown [] (hcur a rfl)
  | case3 i t ih =>
    intro r hr
    obtain ⟨hle, hall⟩ := ih (fun a ha => by cases ha; omega) r hr
    exact ⟨hle, fun p hp hi => (reached_cons_true le_rfl (.inr ⟨rfl, rfl⟩)).mpr (hall p hp hi)⟩
  | case4 i b t hb ih =>
    obtain rfl := Bool.eq_false_of_not_eq_true hb
    intro r hr
    obtain ⟨hle, hall⟩ := ih nofun r hr
    exact ⟨hle, fun p hp hi => reached_cons_false.mpr (.inr (hall p hp hi))⟩
  | case5 i a t ih =>
    intro r hr
    have ha := hcur a rfl
    obtain ⟨hle, hall⟩ := ih (fun x hx => by cases hx; omega) r hr
    exact ⟨hle, fun p hp hi => (reached_cons_true ha.le (.inl rfl)).mpr (hall p hp hi)⟩
  | case6 i a b t hb ih =>
    obtain rfl := Bool.eq_false_of_not_eq_true hb
    intro r hr
    obtain rfl | hr := List.mem_cons.mp hr
    · exact grown _ (hcur a rfl)
    · obtain ⟨hle, hall⟩ := ih nofun r hr
      exact ⟨hle, fun p hp hi => reached_cons_false.mpr (.inr (hall p hp hi))⟩

/-- Reached places one beside the other lie in one run. -/
theorem exists_runsFrom (i : Nat) (cur : Option Nat) (bs : List Bool) (hcur : ∀ a, cur = some a → a < i) {a b : Nat}
    (hab : a ≤ b) (h : ∀ p, a ≤ p → p ≤ b → Reached i cur bs p) : ∃ r ∈ runsFrom i cur bs, r.left ≤ a ∧ b ≤ r.right := by
  induction i, cur, bs using runsFrom.induct with
  | case1 i => obtain ⟨_, hx, _⟩ | ⟨_, hx⟩ := h a le_rfl hab <;> cases hx
  | case2 i c =>
    have lies {p : Nat} (hp : Reached i (some c) [] p) : c ≤ p ∧ p < i := by
      obtain ⟨x, hx, hcp⟩ | ⟨_, hx⟩ := hp
      · cases hx; exact hcp
      · cases hx
    have hlast := lies (h b hab le_rfl)
    refine ⟨⟨c, i - 1⟩, List.mem_singleton_self _, (lies (h a le_rfl hab)).1, ?_⟩
    show b ≤ i - 1
    omega
  | case3 i t ih =>
    exact ih (fun x hx => by cases hx; omega)
      fun p hp hpb => (reached_cons_true le_rfl (.inr ⟨rfl, rfl⟩)).mp (h p hp hpb)
  | case4 i x t hx ih =>
    obtain rfl := Bool.eq_false_of_not_eq_true hx
    refine ih nofun fun p hp hpb => (reached_cons_false.mp (h p hp hpb)).resolve_left ?_
    rintro ⟨_, hnone, _⟩
    cases hnone
  | case5 i c t ih =>
    have hc := hcur c rfl
    exact ih (fun x hx => by cases hx; omega)
      fun p hp hpb => (reached_cons_true hc.le (.inl rfl)).mp (h p hp hpb)
  | case6 i c x t hx ih =>
    obtain rfl := Bool.eq_false_of_not_eq_true hx
    have reach {p : Nat} (hp : a ≤ p) (hpb : p ≤ b) : (c ≤ p ∧ p < i) ∨ Reached (i + 1) none t p := by
      obtain ⟨y, hy, hin⟩ | hlater := reached_cons_false.mp (h p hp hpb)
      · cases hy; exact .inl hin
      · exact .inr hlater
    have hgap : ¬ (a ≤ i ∧ i ≤ b) := fun ⟨hai, hib⟩ =>
      (reach hai hib).elim (fun hin => absurd hin.2 (lt_irrefl i)) fun hlater => absurd (reached_from hlater) (by omega)
    by_cases hbefore : b < i
    · have hfirst : c ≤ a := (reach le_rfl hab).elim (·.1) fun hlater => by
        have := reached_from hlater
        omega
      refine ⟨⟨c, i - 1⟩, List.mem_cons_self, hfirst, ?_⟩
      show b ≤ i - 1
      omega
    · obtain ⟨r, hr, hcover⟩ := ih nofun fun p hp hpb => (reach hp hpb).resolve_left (by omega)
      exact ⟨r, List.mem_cons_of_mem _ hr, hcover⟩

/-- A place lies in a run of at least `m` places exactly when it lies between two places with all true from one to the
other, `m` at least in number. -/
theorem exists_runsOf (bs : List Bool) (m p : Nat) :
    (∃ r ∈ runsOf bs, m ≤ r.width ∧ r.left ≤ p ∧ p ≤ r.right) ↔
      ∃ a b, a ≤ p ∧ p ≤ b ∧ (∀ q, a ≤ q → q ≤ b → bs[q]? = some true) ∧ m ≤ b - a + 1 := by
  unfold runsOf Run.width
  constructor
  · rintro ⟨r, hr, hm, hleft, hright⟩
    obtain ⟨hle, hall⟩ := runsFrom_reached 0 none bs nofun r hr
    exact ⟨r.left, r.right, hleft, hright, fun q hq hqr => reached_none.mp (hall q hq hqr), by omega⟩
  · rintro ⟨a, b, ha, hb, hall, hm⟩
    obtain ⟨r, hr, hleft, hright⟩ := exists_runsFrom 0 none bs nofun (ha.trans hb)
      fun q hq hqb => reached_none.mpr (hall q hq hqb)
    exact ⟨r, hr, by omega, by omega, by omega⟩

end Sys2Proof.Machine
end

section
/-! PROOF. Conditioning and occupancy of the cells of a line (R27 to R29, R31, R32). -/
-- One proof at a time: elaborated side by side, the proofs take more stacks than the check's memory holds.
set_option Elab.async false
namespace Sys2Proof.Machine

/-! ### Conditioning -/

section Cell
variable (snap : LineSettings) (refs : Vector (Quad Nat) 16) (level baseline raw : Quad Nat)

theorem conditionCell_corrected (k : Chan) : (conditionCell snap refs level baseline raw).corrected.get k =
    correctSample snap refs level k (raw.get k) := Quad.get_make _ _

theorem conditionCell_cond (k : Chan) : (conditionCell snap refs level baseline raw).cond.get k =
    max (-2048) (min 2047 (scaledSample snap k ((conditionCell snap refs level baseline raw).corrected.get k)
      (baseline.get k))) :=
  (Quad.get_make _ _).trans (clamp_eq (by decide) _)

/-- A cell is clipped when the clamp changed a channel (R29). -/
theorem conditionCell_clipped : (conditionCell snap refs level baseline raw).clipped = true ↔
    ∃ k, (conditionCell snap refs level baseline raw).cond.get k ≠
      scaledSample snap k ((conditionCell snap refs level baseline raw).corrected.get k) (baseline.get k) := by
  simp only [conditionCell, Chan.any_all, bne_iff_ne, Quad.get_make]

theorem scaledSample_spec (k : Chan) (corrected base : Nat) :
    let p := (16 * (corrected : Int) - base) * snap.get (.gain k) * (1 + snap.get (.range k))
    2 * |512 * scaledSample snap k corrected base - p| ≤ 512 ∧
      (2 * |512 * scaledSample snap k corrected base - p| = 512 → |p| < |512 * scaledSample snap k corrected base|) :=
  roundNear_spec _ (by decide : 0 < 512)

/-- The corrected sample where REFCORR is ON: the mean of the reference samples, rounded to nearest, against the
reference level (R28). -/
theorem correctSample_spec (k : Chan) (r : Nat) (hon : snap.get (.refcorr k) = 1) : ∃ mean : Int,
    let sum := ((List.finRange 16).map fun i => ((look refs i).get k : Int)).sum
    2 * |16 * mean - sum| ≤ 16 ∧ (2 * |16 * mean - sum| = 16 → sum < 16 * mean) ∧
      (correctSample snap refs level k r : Int) = max 0 (min 16383 (r - (mean - level.get k))) := by
  have hsum : (((refs.toList.map (·.get k)).sum : Nat) : Int) =
      ((List.finRange 16).map fun i => ((look refs i).get k : Int)).sum := by
    rw [toList_eq_map_look, List.map_map, Nat.cast_list_sum, List.map_map]
    rfl
  obtain ⟨hnear, hhalf⟩ := roundNear_spec (((refs.toList.map (·.get k)).sum : Nat) : Int) (by decide : 0 < 16)
  have hpos : (0 : Int) ≤ ((refs.toList.map (·.get k)).sum : Nat) := Int.natCast_nonneg _
  refine ⟨roundNear (((refs.toList.map (·.get k)).sum : Nat) : Int) 16, ?_⟩
  unfold correctSample driftOf
  rw [if_pos hon, clamp_eq (by decide), Int.toNat_of_nonneg (le_max_left _ _), ← hsum]
  generalize (((refs.toList.map (·.get k)).sum : Nat) : Int) = sum at *
  refine ⟨hnear, fun h => ?_, rfl⟩
  have hfar := hhalf h
  rw [Int.abs_eq_natAbs, Int.abs_eq_natAbs] at hfar
  rw [Int.abs_eq_natAbs] at h
  omega

end Cell

/-! ### Occupancy -/

section Marks
variable (snap : LineSettings) (cells : Vector CellSample 96)

/-- A cell of the window that meets a threshold (R31). -/
def meets (j : Fin 96) : Prop := cellInWindow snap j ∧ thresholdsMet snap (look cells j).cond

/-- A cell in a run of MIN_RUN or more cells of the window that meet a threshold (R31). -/
def inLongRun (i : Fin 96) : Prop :=
  ∃ a b : Fin 96, a ≤ i ∧ i ≤ b ∧ (∀ j, a ≤ j → j ≤ b → meets snap cells j) ∧ snap.get .minRun ≤ b.val - a.val + 1

theorem thresholdMet_iff (c : Quad Int) : thresholdMet snap c = true ↔ thresholdsMet snap c := by
  refine (Chan.any_all _).trans (exists_congr fun k => ?_)
  simp only [Bool.or_eq_true, Bool.and_eq_true, decide_eq_true_eq]

/-- The cells that meet a threshold, as the segmenting of the window sees them. -/
def metCells : Vector Bool 96 := tabulate 96 fun i => snap.inWindow i.val && thresholdMet snap (look cells i).cond

theorem look_metCells (i : Fin 96) : look (metCells snap cells) i = true ↔ meets snap cells i := by
  rw [metCells, look_tabulate, Bool.and_eq_true, LineSettings.inWindow_iff, thresholdMet_iff]
  rfl

theorem metCells_toList (q : Nat) :
    (metCells snap cells).toList[q]? = some true ↔ ∃ h : q < 96, meets snap cells ⟨q, h⟩ := by
  rw [metCells, getElem?_tabulate_eq_some]
  refine exists_congr fun h => ?_
  rw [← look_metCells, metCells, look_tabulate]

/-- The runs kept are those that make a cell OCCUPIED (R31). -/
theorem kept_iff (i : Fin 96) :
    (((runsOf (metCells snap cells).toList).filter fun r => snap.get .minRun ≤ r.width).any
      fun r => decide (r.left ≤ i.val) && decide (i.val ≤ r.right)) = true ↔ inLongRun snap cells i := by
  have hruns := exists_runsOf (metCells snap cells).toList (snap.get .minRun) i.val
  simp only [metCells_toList] at hruns
  simp only [List.any_eq_true, List.mem_filter, Bool.and_eq_true, decide_eq_true_eq, and_assoc]
  refine hruns.trans ⟨?_, ?_⟩
  · rintro ⟨a, b, ha, hb, hall, hm⟩
    obtain ⟨hb96, -⟩ := hall b (ha.trans hb) le_rfl
    exact ⟨⟨a, ha.trans_lt i.isLt⟩, ⟨b, hb96⟩, ha, hb, fun j hj hjb => (hall j.val hj hjb).2, hm⟩
  · rintro ⟨a, b, ha, hb, hall, hm⟩
    exact ⟨a.val, b.val, ha, hb, fun q hq hqb => ⟨hqb.trans_lt b.isLt, hall ⟨q, hqb.trans_lt b.isLt⟩ hq hqb⟩, hm⟩

theorem meets_of_inLongRun {i : Fin 96} (h : inLongRun snap cells i) : meets snap cells i := by
  obtain ⟨a, b, ha, hb, hall, -⟩ := h
  exact hall i ha hb

/-- The mark of a cell by the window, the thresholds and the runs (R32). -/
theorem look_occupancyMarks (i : Fin 96) [Decidable (cellInWindow snap i)] [Decidable (meets snap cells i)]
    [Decidable (inLongRun snap cells i)] : look (occupancyMarks snap cells) i =
      if cellInWindow snap i then
        if meets snap cells i then if inLongRun snap cells i then .occupied else .cleared else .vacant
      else .outside := by
  have hmarks : look (occupancyMarks snap cells) i =
      if !snap.inWindow i.val then .outside
      else if look (metCells snap cells) i then
        (if ((runsOf (metCells snap cells).toList).filter fun r => snap.get .minRun ≤ r.width).any
          fun r => decide (r.left ≤ i.val) && decide (i.val ≤ r.right) then .occupied else .cleared)
      else .vacant := look_tabulate _ _
  rw [hmarks]
  simp only [kept_iff, look_metCells, Bool.not_eq_true', ← Bool.not_eq_true, LineSettings.inWindow_iff, ite_not]

theorem occupancyMarks_spec (i : Fin 96) :
    (look (occupancyMarks snap cells) i = .outside ↔ ¬ cellInWindow snap i) ∧
      (look (occupancyMarks snap cells) i = .occupied ↔ inLongRun snap cells i) ∧
      (look (occupancyMarks snap cells) i = .cleared ↔ meets snap cells i ∧ ¬ inLongRun snap cells i) ∧
      (look (occupancyMarks snap cells) i = .vacant ↔ cellInWindow snap i ∧ ¬ meets snap cells i) := by
  classical
  have hmet := @meets_of_inLongRun snap cells i
  have hwindow : meets snap cells i → cellInWindow snap i := And.left
  rw [look_occupancyMarks]
  split_ifs with hw hm hl
  · simp [hw, hm, hl]
  · simp [hw, hm, hl]
  · simp [hw, hm, mt hmet hm]
  · simp [hw, mt hwindow hw, mt hmet (mt hwindow hw)]

end Marks

/-- Settles O13: the rounded quotients by their error, the marks by the runs they rest on. -/
theorem cellsAreConditionedAndMarked : Obligations.CellsAreConditionedAndMarked := by
  refine ⟨fun snap refs level baseline raw => ?_, occupancyMarks_spec⟩
  refine ⟨rfl, ⟨fun k => scaledSample snap k ((conditionCell snap refs level baseline raw).corrected.get k)
    (baseline.get k), fun k => ?_, conditionCell_clipped snap refs level baseline raw⟩, fun k hoff => ?_, fun k hon => ?_⟩
  · obtain ⟨hnear, hhalf⟩ := scaledSample_spec snap k
      ((conditionCell snap refs level baseline raw).corrected.get k) (baseline.get k)
    exact ⟨hnear, hhalf, conditionCell_cond snap refs level baseline raw k⟩
  · rw [conditionCell_corrected]
    exact if_neg hoff
  · simp only [conditionCell_corrected]
    exact correctSample_spec snap refs level k (raw.get k) hon

end Sys2Proof.Machine
end

section
/-! SUPPORT. A request as its block answers it (R187): what taking it leaves, and the records of the answers that only
read, place by place (spec/10 sections 10.8.3 and 10.8.5). -/
-- One proof at a time: elaborated side by side, the proofs take more stacks than the check's memory holds.
set_option Elab.async false
namespace Sys2Proof.Machine

/-! ### Taking a request -/

/-- The state with the oldest frame out of the inbound queue. -/
def State.unqueued (s : State) (rest : List Frame) : State := { s with lnk.inbound := rest }

section Asked
variable {s : State} {kind : Nat} {f : Frame} {rest : List Frame} {mine : List Byte → Bool}
  {act : List Byte → State → Answer}

/-- A request that stands to be taken is answered by its block when its body length is one of its kind. -/
theorem State.takeRequest_asked (h : s.asked kind f rest) (hmine : mine f.body = true)
    (hfits : bodyFits kind f.body.length = true) :
    s.takeRequest kind mine act = .next ((act f.body (s.unqueued rest)).reply f) := by
  obtain ⟨hin, hkind, hroom, hreset⟩ := h
  unfold State.takeRequest
  rw [hin]
  dsimp only
  rw [if_pos ⟨s.mayTake_iff.mpr ⟨hroom, hreset⟩, hkind, hmine⟩]
  unfold State.takeFrame judgedLength
  rw [if_pos hfits]
  rfl

theorem State.takeRequest_answered {st : Status} {data : List Byte} (h : s.asked kind f rest)
    (hmine : mine f.body = true) (hfits : bodyFits kind f.body.length = true)
    (hact : act f.body (s.unqueued rest) = ⟨s.unqueued rest, st, data⟩) :
    s.takeRequest kind mine act = .next (s.answered f rest st data) := by
  rw [State.takeRequest_asked h hmine hfits, hact]
  rfl

/-- A request without a body. -/
theorem State.takeRequest_bodiless {st : Status} {data : List Byte} (h : s.asked kind f rest) (hbody : f.body = [])
    (hfits : bodyFits kind 0 = true) (hact : act [] (s.unqueued rest) = ⟨s.unqueued rest, st, data⟩) :
    s.takeRequest kind anyBody act = .next (s.answered f rest st data) :=
  State.takeRequest_answered h rfl (by rw [hbody]; exact hfits) (by rw [hbody]; exact hact)

end Asked

/-! ### Recipe banks -/

theorem heldCount_toList {α : Type} {n : Nat} (v : Vector (Option α) n) :
    heldCount v.toList = ((List.finRange n).filter fun i => (look v i).isSome).length := by
  rw [heldCount, toList_eq_map_look, List.filter_map, List.length_map]
  rfl

theorem length_filter_finRange_le {n : Nat} (p : Fin n → Bool) : ((List.finRange n).filter p).length ≤ n :=
  (List.length_filter_le _ _).trans List.length_finRange.le

/-- The middle of a bank's record: generation, label, count, root and UNRESOLVED destination of a recipe. -/
def Bank.recipeBytes (b : Bank) : List Byte :=
  if b.state = .active ∨ b.state = .retiring then
    toBytes 2 b.gen.toNat ++ (toBytes 4 b.label ++ (toBytes 2 b.count ++ (toBytes 1 b.root ++ toBytes 1 b.unresolved.code)))
  else toBytes 10 0

/-- The end of a bank's record: the size of the written set of a LOADING bank. -/
def Bank.loadingBytes (b : Bank) : List Byte :=
  if b.state = .loading then toBytes 2 (heldCount b.records.toList) ++ toBytes 1 (heldCount b.classes.toList)
  else toBytes 3 0

section Bank
variable (b : Bank)

theorem Bank.info_eq : b.info = toBytes 1 b.state.code ++ (toBytes 2 b.pins ++ (b.recipeBytes ++ b.loadingBytes)) := by
  simp only [Bank.info, Bank.recipeBytes, Bank.loadingBytes, List.append_assoc]

@[simp] theorem Bank.length_recipeBytes : b.recipeBytes.length = 10 := by
  unfold Bank.recipeBytes
  split_ifs
  · simp
  · simp

@[simp] theorem Bank.length_loadingBytes : b.loadingBytes.length = 3 := by
  unfold Bank.loadingBytes
  split_ifs
  · simp
  · simp

theorem BankState.code_lt (st : BankState) : st.code < 256 := by cases st <;> decide

theorem Bank.info_recipe {i n : Nat} (h : i + n ≤ 10) : field b.info (i + 3) n = field b.recipeBytes i n := by
  rw [b.info_eq, field_later 1 _ _ _ _ (by omega), field_later 2 _ _ _ _ (by omega),
    show i + 3 - 1 - 2 = i by omega, field_append_left _ (by rw [Bank.length_recipeBytes]; exact h)]

theorem Bank.info_loading {i n : Nat} : field b.info (i + 13) n = field b.loadingBytes i n := by
  rw [b.info_eq, field_later 1 _ _ _ _ (by omega), field_later 2 _ _ _ _ (by omega),
    field_append_right _ _ (by rw [Bank.length_recipeBytes]; omega), Bank.length_recipeBytes,
    show i + 13 - 1 - 2 - 10 = i by omega]

end Bank

/-! ### The status record -/

theorem State.entryTotal_eq (s : State) : s.entryTotal = ((List.finRange 48).map fun l => (s.lane l).length).sum := by
  rw [State.entryTotal, toList_eq_map_look, List.map_map]
  rfl

theorem State.activeFields_of_active {s : State} {b : BankId} (h : (s.bank b).state = .active)
    (hother : (s.bank (otherBank b)).state ≠ .active) :
    s.activeFields = toBytes 1 b.val ++ toBytes 2 (s.bank b).gen.toNat := by
  have hbank : s.bankIn .active = some b := by
    unfold State.bankIn
    match b with
    | 0 => simp [h]
    | 1 =>
      have hzero : (s.bank 0).state ≠ .active := hother
      simp [h, hzero]
  unfold State.activeFields
  rw [hbank]

theorem State.activeFields_of_none {s : State} (h : ∀ b, (s.bank b).state ≠ .active) :
    s.activeFields = toBytes 1 255 ++ toBytes 2 s.rcs.generation.toNat := by
  have hbank : s.bankIn .active = none := List.find?_eq_none.mpr fun b _ => by simp [h b]
  unfold State.activeFields
  rw [hbank]

@[simp] theorem State.length_activeFields (s : State) : s.activeFields.length = 3 := by
  unfold State.activeFields
  split
  · simp
  · simp

theorem State.occupied_le (s : State) : s.occupied ≤ 256 := length_filter_finRange_le _

/-! ### Settings as GET answers them -/

/-- One identifier as GET answers it: item status, staged mark, value in force and staged value. -/
def getBytes (code st mark v w : Nat) : List Byte :=
  toBytes 2 code ++ (toBytes 1 st ++ (toBytes 1 mark ++ (toBytes 4 v ++ toBytes 4 w)))

theorem length_getBytes (code st mark v w : Nat) : (getBytes code st mark v w).length = 12 := by simp [getBytes]

/-- The fields of one identifier. -/
theorem getBytes_fields {code st mark : Nat} (v w : Nat) (hcode : code < 65536) (hst : st < 256) (hmark : mark < 256) :
    field (getBytes code st mark v w) 0 2 = code ∧ byteAt (getBytes code st mark v w) 2 = st ∧
      byteAt (getBytes code st mark v w) 3 = mark ∧ field (getBytes code st mark v w) 4 4 = v % 256 ^ 4 ∧
      field (getBytes code st mark v w) 8 4 = w % 256 ^ 4 := by
  simp [getBytes, byteAt, field_first, field_later, field_toBytes, Nat.mod_eq_of_lt hcode, Nat.mod_eq_of_lt hst,
    Nat.mod_eq_of_lt hmark]

section Get
variable {c : Cdu} {code : Nat}

theorem Cdu.getItem_unknown (h : SettingTarget.ofCode code = none ∨ SettingTarget.ofCode code = some .gainAll) :
    c.getItem code = getBytes code 2 0 0 0 := by
  obtain h | h := h <;> simp only [Cdu.getItem, h, List.append_assoc] <;> rfl

theorem Cdu.getItem_own {i : OwnId} (h : SettingTarget.ofCode code = some (.own i)) :
    c.getItem code = getBytes code 0 0 (c.own.get i) 0 := by
  simp only [Cdu.getItem, h, List.append_assoc]
  rfl

theorem Cdu.getItem_line {i : LineId} (h : SettingTarget.ofCode code = some (.line i)) :
    c.getItem code = getBytes code 0 (if c.staged.get i = none then 0 else 1) (c.line.get i)
      ((c.staged.get i).getD 0) := by
  simp only [Cdu.getItem, h, List.append_assoc]
  cases c.staged.get i <;> rfl

theorem Cdu.length_getItem (c : Cdu) (code : Nat) : (c.getItem code).length = 12 := by
  match h : SettingTarget.ofCode code with
  | none => rw [Cdu.getItem_unknown (.inl h), length_getBytes]
  | some .gainAll => rw [Cdu.getItem_unknown (.inr h), length_getBytes]
  | some (.own i) => rw [Cdu.getItem_own h, length_getBytes]
  | some (.line i) => rw [Cdu.getItem_line h, length_getBytes]

end Get

/-- What GET answers to a body of whole identifiers. -/
theorem State.getSettings_data (s : State) {body : List Byte} {k : Nat} (h : body.length = 2 * k) (hk : k ≤ 32) :
    (s.getSettings body).data = (List.range k).flatMap fun j => s.cdu.getItem (field body (2 * j) 2) := by
  show ((chunks 2 32 body).map ofBytes).flatMap s.cdu.getItem = _
  rw [chunks_eq_map h hk (by decide), List.map_map, List.flatMap_map]
  rfl

/-! ### Statistics -/

theorem Counter.all_places : Counter.all.map Counter.ix = List.finRange 57 := by decide

theorem Sta.counts_eq (x : Sta) : x.counts.toList = Counter.all.map x.get := by
  rw [toList_eq_map_look, ← Counter.all_places, List.map_map]
  rfl

/-- The groups stand one after another in the order of the counts. -/
theorem statsGroup_eq (code : Nat) (h : code ≠ 4) :
    (Counter.all.drop (groupPlaces code).1).take (groupPlaces code).2 = statsGroup code :=
  match code with
  | 0 | 1 | 2 | 3 | 5 => rfl
  | 4 => absurd rfl h
  | _ + 6 => rfl

/-- The counts of a group, in the order returned (spec/11 section 11.3). -/
theorem State.groupCounts_eq (s : State) {code : Nat} (h : code ≠ 4) :
    s.groupCounts code = (statsGroup code).map fun c => s.sta.get c := by
  unfold State.groupCounts Sta.group
  rw [if_neg h, Sta.counts_eq, ← List.map_drop, ← List.map_take, statsGroup_eq code h]

theorem State.groupCounts_valves (s : State) :
    s.groupCounts 4 = (List.finRange 48).flatMap fun l => [Row.up, Row.down].map fun r => (s.valve l r).actuations :=
  List.map_flatMap ..

end Sys2Proof.Machine
end

section
/-! PROOF. The requests that only read (R37, R53, R55, R119, R145, R162, R190 to R192, R204, R206). -/
-- One proof at a time: elaborated side by side, the proofs take more stacks than the check's memory holds.
set_option Elab.async false
namespace Sys2Proof.Machine

/-! ### A bank's record -/

section Bank
variable (b : Bank)

theorem Bank.info_head : b.info.length = 16 ∧ field b.info 1 2 = b.pins % 65536 ∧ byteAt b.info 0 = b.state.code := by
  refine ⟨?_, ?_, ?_⟩
  · rw [b.info_eq]; simp
  · rw [b.info_eq, field_later 1 _ _ _ _ (by omega)]
    exact field_first _ _ _
  · rw [b.info_eq, byteAt_first, Nat.mod_eq_of_lt b.state.code_lt]

/-- The recipe of an ACTIVE or RETIRING bank. -/
theorem Bank.info_of_recipe (h : b.state = .active ∨ b.state = .retiring) :
    field b.info 3 2 = b.gen.toNat ∧ field b.info 5 4 = b.label % 256 ^ 4 ∧ field b.info 9 2 = b.count % 65536 ∧
      byteAt b.info 11 = b.root % 256 ∧ byteAt b.info 12 = b.unresolved.code := by
  have hdest : b.unresolved.code % 256 = b.unresolved.code := by cases b.unresolved <;> rfl
  have hgen : b.gen.toNat % 65536 = b.gen.toNat := Nat.mod_eq_of_lt b.gen.isLt
  have hbytes : b.recipeBytes = _ := if_pos h
  have hat {i n : Nat} (hi : i + n ≤ 10) := b.info_recipe hi
  simp only [hbytes] at hat
  refine ⟨(hat (i := 0) (by omega)).trans ?_, (hat (i := 2) (by omega)).trans ?_, (hat (i := 6) (by omega)).trans ?_,
    (hat (i := 8) (n := 1) (by omega)).trans ?_, (hat (i := 9) (n := 1) (by omega)).trans ?_⟩
  all_goals simp [field_first, field_later, field_toBytes, hdest, hgen]

theorem Bank.info_of_no_recipe (h : ¬ (b.state = .active ∨ b.state = .retiring)) (j : Nat) (hlow : 3 ≤ j) (hhigh : j < 13) :
    byteAt b.info j = 0 := by
  obtain ⟨i, rfl⟩ : ∃ i, j = i + 3 := ⟨j - 3, by omega⟩
  have hbytes : b.recipeBytes = _ := if_neg h
  calc byteAt b.info (i + 3) = byteAt b.recipeBytes i := b.info_recipe (by omega)
    _ = 0 := by rw [hbytes, byteAt_toBytes_zero]

/-- The written set of a LOADING bank. -/
theorem Bank.info_of_loading (h : b.state = .loading) :
    field b.info 13 2 = ((List.finRange 256).filter fun i => (look b.records i).isSome).length ∧
      byteAt b.info 15 = ((List.finRange 16).filter fun c => (look b.classes c).isSome).length := by
  have hrecords := length_filter_finRange_le fun i : Fin 256 => (look b.records i).isSome
  have hclasses := length_filter_finRange_le fun c : Fin 16 => (look b.classes c).isSome
  have hbytes : b.loadingBytes = _ := if_pos h
  rw [heldCount_toList, heldCount_toList] at hbytes
  constructor
  · rw [b.info_loading (i := 0), hbytes, field_first, Nat.mod_eq_of_lt (by omega)]
  · calc byteAt b.info 15 = field b.loadingBytes 2 1 := b.info_loading
      _ = _ := by rw [hbytes, field_later 2 _ _ _ _ le_rfl, field_toBytes, Nat.mod_eq_of_lt (by omega)]

theorem Bank.info_of_not_loading (h : b.state ≠ .loading) : field b.info 13 2 = 0 ∧ byteAt b.info 15 = 0 := by
  have hbytes : b.loadingBytes = toBytes 3 0 := if_neg h
  have hat {i n : Nat} := b.info_loading (i := i) (n := n)
  simp only [hbytes] at hat
  exact ⟨(hat (i := 0)).trans rfl, (hat (i := 2) (n := 1)).trans rfl⟩

end Bank

/-! ### Each request -/

section Requests
variable {s : State} {f : Frame} {rest : List Frame}

/-- The status record, place by place (spec/10 section 10.8.3). -/
theorem State.statusRecord_fields (s : State) :
    let data := s.statusRecord
    data.length = 28 ∧ byteAt data 0 = s.eng.state.code ∧ byteAt data 1 = s.eng.flags.number ∧
      field data 2 6 = s.bpu.pos % 256 ^ 6 ∧ field data 8 2 = s.bpu.speed % 65536 ∧
      field data 10 2 = s.bpu.debt % 65536 ∧ byteAt data 12 = s.ldm.state.code ∧
      field data 13 2 = s.ldm.permille % 65536 ∧ byteAt data 15 = s.cls.queue.length % 256 ∧
      field data 16 2 = ((List.finRange 48).map fun l => (s.lane l).length).sum % 65536 ∧
      byteAt data 18 = byteAt s.activeFields 0 ∧ field data 19 2 = field s.activeFields 1 2 ∧
      byteAt data 21 = airCode s.vdr.air ∧ byteAt data 22 = s.blt.status.code ∧ byteAt data 23 = s.cap.state.code ∧
      byteAt data 24 = s.openCount % 256 ∧ field data 25 2 = s.occupied ∧
      byteAt data 27 = s.lnk.notices.length % 256 := by
  have hoccupied : s.occupied % 65536 = s.occupied := Nat.mod_eq_of_lt (by have := s.occupied_le; omega)
  have heng : s.eng.state.code % 256 = s.eng.state.code := by cases s.eng.state <;> rfl
  have hflags : s.eng.flags.number % 256 = s.eng.flags.number := Nat.mod_eq_of_lt (by
    unfold FaultFlags.number bit; split_ifs <;> decide)
  have hload : s.ldm.state.code % 256 = s.ldm.state.code := by cases s.ldm.state <;> rfl
  have hair : airCode s.vdr.air % 256 = airCode s.vdr.air := by cases s.vdr.air <;> rfl
  have hsurvey : s.blt.status.code % 256 = s.blt.status.code := by cases s.blt.status <;> rfl
  have hcap : s.cap.state.code % 256 = s.cap.state.code := by cases s.cap.state <;> rfl
  simp [State.statusRecord, byteAt, field_append_left, field_append_right, field_toBytes, State.entryTotal_eq,
    hoccupied, heng, hflags, hload, hair, hsurvey, hcap]

/-- The two fields of the status record on the ACTIVE bank (R192). -/
theorem numberFields (b : Nat) (g : Gen) (hb : b < 256) :
    byteAt (toBytes 1 b ++ toBytes 2 g.toNat) 0 = b ∧ field (toBytes 1 b ++ toBytes 2 g.toNat) 1 2 = g.toNat :=
  ⟨(byteAt_first _ _).trans (Nat.mod_eq_of_lt hb), (field_later 1 _ _ _ _ le_rfl).trans (field_toBytes_word g)⟩

theorem exec_hello (h : s.asked 0x01 f rest) (hbody : f.body = []) : exec .hello s = .next (s.answered f rest .ok
    (toBytes 2 0x4D31 ++ toBytes 2 0xB2CE ++ toBytes 1 1 ++ toBytes 1 s.lnk.rate.val ++
      [256, 64, 16, 256, 48, 16, 256, 4, 4, 64, 56].flatMap (toBytes 2))) :=
  State.takeRequest_bodiless h hbody rfl rfl

theorem exec_status (h : s.asked 0x02 f rest) (hbody : f.body = []) :
    exec .status s = .next (s.answered f rest .ok s.statusRecord) :=
  State.takeRequest_bodiless h hbody rfl rfl

theorem exec_get (h : s.asked 0x04 f rest) {k : Nat} (hlen : f.body.length = 2 * (k + 1)) (hk : k < 32) :
    exec .get s = .next (s.answered f rest .ok
      ((List.range (k + 1)).flatMap fun j => s.cdu.getItem (field f.body (2 * j) 2))) := by
  have hfits : bodyFits 0x04 f.body.length = true := by
    simp only [bodyFits, hlen, Bool.and_eq_true, beq_iff_eq, decide_eq_true_eq]
    omega
  exact State.takeRequest_answered h rfl hfits
    (congrArg (Answer.mk _ _) ((s.unqueued rest).getSettings_data hlen (by omega)))

/-- What GET answers for an identifier (R37, R190). -/
theorem getItem_answers (c : Cdu) (code : Nat) (hcode : code < 65536) :
    field (c.getItem code) 0 2 = code ∧
    (SettingTarget.ofCode code = none ∨ SettingTarget.ofCode code = some .gainAll →
      byteAt (c.getItem code) 2 = 2 ∧ byteAt (c.getItem code) 3 = 0 ∧ field (c.getItem code) 4 4 = 0 ∧
        field (c.getItem code) 8 4 = 0) ∧
    (∀ i, SettingTarget.ofCode code = some (.own i) → byteAt (c.getItem code) 2 = 0 ∧ byteAt (c.getItem code) 3 = 0 ∧
      field (c.getItem code) 4 4 = c.own.get i % 256 ^ 4 ∧ field (c.getItem code) 8 4 = 0) ∧
    ∀ i, SettingTarget.ofCode code = some (.line i) → byteAt (c.getItem code) 2 = 0 ∧
      byteAt (c.getItem code) 3 = (if c.staged.get i = none then 0 else 1) ∧
      field (c.getItem code) 4 4 = c.line.get i % 256 ^ 4 ∧
      field (c.getItem code) 8 4 = ((c.staged.get i).getD 0) % 256 ^ 4 := by
  have hcodeAt : field (c.getItem code) 0 2 = code := by
    match h : SettingTarget.ofCode code with
    | none => rw [Cdu.getItem_unknown (.inl h)]; exact (getBytes_fields 0 0 hcode (by decide) (by decide)).1
    | some .gainAll => rw [Cdu.getItem_unknown (.inr h)]; exact (getBytes_fields 0 0 hcode (by decide) (by decide)).1
    | some (.own i) => rw [Cdu.getItem_own h]; exact (getBytes_fields _ _ hcode (by decide) (by decide)).1
    | some (.line i) =>
      rw [Cdu.getItem_line h]
      exact (getBytes_fields _ _ hcode (by decide) (by split_ifs <;> decide)).1
  refine ⟨hcodeAt, fun h => ?_, fun i h => ?_, fun i h => ?_⟩
  · rw [Cdu.getItem_unknown h]
    exact (getBytes_fields 0 0 hcode (by decide) (by decide)).2
  · rw [Cdu.getItem_own h]
    exact (getBytes_fields _ 0 hcode (by decide) (by decide)).2
  · rw [Cdu.getItem_line h]
    exact (getBytes_fields _ _ hcode (by decide) (by split_ifs <;> decide)).2

theorem exec_surveyResult_done (h : s.asked 0x0E f rest) (hbody : f.body = []) {v : SurveyResults}
    (hdone : s.blt.status = .done) (hv : s.blt.results = some v) :
    exec .surveyResult s = .next (s.answered f rest .ok
      (toBytes 2 v.lines ++ v.refLevel.toList.flatMap (toBytes 2) ++ toBytes 1 v.firstCell ++
        toBytes 1 v.lastCell ++ v.recommended.toList.flatMap (toBytes 2) ++
        v.noise.toList.flatMap fun q => q.toList.flatMap (toBytes 2))) := by
  refine State.takeRequest_bodiless h hbody rfl ?_
  unfold State.surveyResult
  rw [show (s.unqueued rest).blt.status = .done from hdone, show (s.unqueued rest).blt.results = some v from hv]
  rfl

theorem exec_surveyResult_not_done (h : s.asked 0x0E f rest) (hbody : f.body = []) (hno : s.blt.status ≠ .done) :
    exec .surveyResult s = .next (s.answered f rest .notReady []) := by
  refine State.takeRequest_bodiless h hbody rfl ?_
  unfold State.surveyResult
  split
  · next hdone _ => exact absurd hdone hno
  · rfl

theorem Chan.ofIndex_index (k : Chan) : Chan.ofIndex k.index = some k := by cases k <;> rfl

theorem Chan.ofIndex_of_lt {n : Nat} (h : 3 < n) : Chan.ofIndex n = none :=
  match n with
  | 0 | 1 | 2 | 3 => absurd h (by decide)
  | _ + 4 => rfl

theorem exec_baselineRead_range (h : s.asked 0x0F f rest) (hlen : f.body.length = 3)
    (hbad : 3 < byteAt f.body 0 ∨ 95 < byteAt f.body 1 ∨ byteAt f.body 2 = 0 ∨ 96 < byteAt f.body 2 ∨
      96 < byteAt f.body 1 + byteAt f.body 2) : exec .baselineRead s = .next (s.answered f rest .range []) := by
  refine State.takeRequest_answered h rfl (by rw [hlen]; rfl) ?_
  unfold State.baselineRead
  dsimp only
  split
  · rfl
  · next k hk =>
    refine if_pos (hbad.resolve_left fun hchan => ?_)
    rw [Chan.ofIndex_of_lt hchan] at hk
    cases hk

theorem exec_baselineRead (h : s.asked 0x0F f rest) (hlen : f.body.length = 3) {k : Chan}
    (hk : k.index = byteAt f.body 0) (hfirst : byteAt f.body 1 ≤ 95) (hcount : 1 ≤ byteAt f.body 2)
    (hlast : byteAt f.body 1 + byteAt f.body 2 ≤ 96) :
    exec .baselineRead s = .next (s.answered f rest .ok
      (toBytes 1 (if s.blt.valid then 1 else 0) ++ toBytes 1 (s.own .blMode) ++ toBytes 1 s.blt.status.code ++
        toBytes 2 (s.blt.refLevel.get k) ++
        (cellsFrom (byteAt f.body 1) (byteAt f.body 2)).flatMap (s.blt.cellBytes k))) := by
  refine State.takeRequest_answered h rfl (by rw [hlen]; rfl) ?_
  unfold State.baselineRead
  dsimp only
  rw [← hk, Chan.ofIndex_index]
  exact if_neg (by omega)

theorem cellsFrom_eq (first count : Nat) :
    cellsFrom first count = (List.finRange 96).filter fun i => first ≤ i.val ∧ i.val < first + count :=
  List.filter_congr fun _ _ => (Bool.decide_and _ _).symm

theorem exec_recipeInfo (h : s.asked 0x16 f rest) (hbody : f.body = []) :
    exec .recipeInfo s = .next (s.answered f rest .ok
      (toBytes 2 s.rcs.generation.toNat ++ (s.bank 0).info ++ (s.bank 1).info)) :=
  State.takeRequest_bodiless h hbody rfl rfl

theorem exec_laneRead_range (h : s.asked 0x17 f rest) (hlen : f.body.length = 1) (hlane : 47 < byteAt f.body 0) :
    exec .laneRead s = .next (s.answered f rest .range []) := by
  refine State.takeRequest_answered h rfl (by rw [hlen]; rfl) ?_
  unfold State.laneRead laneOf
  rw [dif_neg (by omega)]
  rfl

theorem exec_laneRead (h : s.asked 0x17 f rest) (hlen : f.body.length = 1) {l : Lane} (hl : l.val = byteAt f.body 0) :
    exec .laneRead s = .next (s.answered f rest .ok
      (toBytes 1 l.val ++ toBytes 1 (s.lane l).length ++ (s.lane l).flatMap Entry.bytes)) := by
  refine State.takeRequest_answered h rfl (by rw [hlen]; rfl) ?_
  unfold State.laneRead laneOf
  rw [← hl, dif_pos l.isLt]
  rfl

theorem exec_valveState (h : s.asked 0x1A f rest) (hbody : f.body = []) :
    exec .valveState s = .next (s.answered f rest .ok
      (toBytes 1 (airCode s.vdr.air) ++ toBytes 2 s.bpu.speed ++ toBytes 2 s.vdr.leadOpen ++
        toBytes 2 s.vdr.leadClose ++ (List.finRange 48).flatMap fun l => [Row.up, Row.down].flatMap fun r =>
          toBytes 1 (s.valve l r).state.code ++ toBytes 1 (s.valve l r).served.code ++
            toBytes 1 (coilCode (s.valve l r).coil))) := by
  refine State.takeRequest_bodiless h hbody rfl ?_
  unfold State.valveState valveOrder
  rw [List.flatMap_assoc]
  rfl

/-! ### CAPTURE_READ (R204) -/

theorem exec_captureRead_not_full (h : s.asked 0x1D f rest) (hlen : f.body.length = 2) (hno : s.cap.state ≠ .full) :
    exec .captureRead s = .next (s.answered f rest .notReady []) :=
  State.takeRequest_answered h rfl (by rw [hlen]; rfl) (if_pos hno)

theorem exec_captureRead_range (h : s.asked 0x1D f rest) (hlen : f.body.length = 2) (hfull : s.cap.state = .full)
    (hring : s.cap.ring.length ≤ field f.body 0 2) :
    exec .captureRead s = .next (s.answered f rest .range []) := by
  refine State.takeRequest_answered h rfl (by rw [hlen]; rfl) ((if_neg (not_not.mpr hfull)).trans ?_)
  rw [show (s.unqueued rest).cap.ring[field f.body 0 2]? = none from List.getElem?_eq_none hring]
  rfl

theorem exec_captureRead (h : s.asked 0x1D f rest) (hlen : f.body.length = 2) (hfull : s.cap.state = .full)
    {g : LineRecord} (hg : s.cap.ring[field f.body 0 2]? = some g) :
    exec .captureRead s = .next (s.answered f rest .ok
      (toBytes 1 s.cap.mode.code ++ toBytes 2 s.cap.ring.length ++
        toBytes 1 (bit s.cap.piece.isNone 1) ++ toBytes 4 ((s.cap.piece.map BitVec.toNat).getD 0) ++ g.bytes)) := by
  refine State.takeRequest_answered h rfl (by rw [hlen]; rfl) ((if_neg (not_not.mpr hfull)).trans ?_)
  rw [show (s.unqueued rest).cap.ring[field f.body 0 2]? = some g from hg]
  rfl

/-! ### STATS_READ without the clear mark (R206) -/

theorem notOther_of_ne {n i other : Nat} {body : List Byte} (h : byteAt body i ≠ other) : notOther n i other body = true :=
  Bool.or_eq_true_iff.mpr (.inr (bne_iff_ne.mpr h))

theorem exec_statsRead_range (h : s.asked 0x1E f rest) (hlen : f.body.length = 2) (hclear : byteAt f.body 1 ≠ 1)
    (hbad : 5 < byteAt f.body 0 ∨ 1 < byteAt f.body 1) :
    exec .statsRead s = .next (s.answered f rest .range []) :=
  State.takeRequest_answered h (notOther_of_ne hclear) (by rw [hlen]; rfl) (if_pos hbad)

theorem exec_statsRead (h : s.asked 0x1E f rest) (hlen : f.body.length = 2) (hcode : byteAt f.body 0 ≤ 5)
    (hclear : byteAt f.body 1 = 0) :
    exec .statsRead s = .next (s.answered f rest .ok
      (toBytes 1 (byteAt f.body 0) ++ (s.groupCounts (byteAt f.body 0)).flatMap (toBytes 4))) := by
  refine State.takeRequest_answered h (notOther_of_ne (by omega)) (by rw [hlen]; rfl) ?_
  unfold State.statsAnswer
  dsimp only
  rw [if_neg (by omega), if_neg (by omega)]
  rfl

end Requests

/-- Settles O52: each request's answer, and the records it is made of. -/
theorem readsAnswerAndChangeNothing : Obligations.ReadsAnswerAndChangeNothing := by
  refine ⟨fun b => ?bank, ⟨rfl, rfl, rfl, rfl, rfl, rfl, rfl⟩, fun s => ⟨fun _ => s.groupCounts_eq, s.groupCounts_valves⟩,
    fun s f rest => ⟨exec_hello, ?status, ?get, fun h hbody => ⟨fun v => exec_surveyResult_done h hbody,
      exec_surveyResult_not_done h hbody⟩, fun h hlen => ⟨exec_baselineRead_range h hlen, ?baseline⟩, exec_recipeInfo,
      fun h hlen => ⟨exec_laneRead_range h hlen, fun l => exec_laneRead h hlen⟩, exec_valveState,
      fun h hlen => ⟨exec_captureRead_not_full h hlen, exec_captureRead_range h hlen, ?capture⟩,
      fun h hlen hclear => ⟨exec_statsRead_range h hlen hclear, exec_statsRead h hlen⟩⟩⟩
  case bank =>
    obtain ⟨hlen, hpins, hstate⟩ := b.info_head
    refine ⟨hlen, hpins, hstate.trans ?_, fun h => ?_, b.info_of_no_recipe, b.info_of_loading, b.info_of_not_loading⟩
    · cases b.state <;> rfl
    · obtain ⟨hgen, hlabel, hcount, hroot, hdest⟩ := b.info_of_recipe h
      refine ⟨hgen, hlabel, hcount, hroot, hdest.trans ?_⟩
      cases b.unresolved <;> rfl
  case status =>
    intro h hbody
    obtain ⟨h0, h1, h2, h3, h4, h5, h6, h7, h8, h9, hbank, hgen, htail⟩ := s.statusRecord_fields
    refine ⟨_, exec_status h hbody, h0, h1, h2, h3, h4, h5, h6, h7, h8, h9, fun b hb hother => ?_, fun hnone => ?_, htail⟩
    · rw [hbank, hgen, State.activeFields_of_active hb hother]
      exact numberFields b.val (s.bank b).gen (by omega)
    · rw [hbank, hgen, State.activeFields_of_none hnone]
      exact numberFields 255 s.rcs.generation (by decide)
  case get =>
    intro k h hlen hk
    have hblocks : ∀ j ∈ List.range (k + 1), (s.cdu.getItem (field f.body (2 * j) 2)).length = 12 :=
      fun j _ => s.cdu.length_getItem _
    refine ⟨_, exec_get h hlen hk, (length_flatMap_blocks hblocks).trans (by rw [List.length_range]), fun j hj => ?_⟩
    have hat := List.getElem?_range (show j < k + 1 by omega)
    dsimp only
    have hread {i n : Nat} (hi : i + n ≤ 12) := field_flatMap_blocks hblocks hat hi
    have hanswer := getItem_answers s.cdu (field f.body (2 * j) 2) (field_lt _ _ _)
    unfold byteAt at hanswer ⊢
    rw [← hread (by omega), ← hread (i := 2) (by omega), ← hread (i := 3) (by omega), ← hread (i := 4) (by omega),
      ← hread (i := 8) (by omega)] at hanswer
    exact hanswer
  case baseline =>
    intro k hk hfirst hcount hlast
    rw [exec_baselineRead h hlen hk hfirst hcount hlast, cellsFrom_eq]
    rfl
  case capture =>
    intro g hfull hg
    rw [exec_captureRead h hlen hfull hg]
    cases s.cap.piece with
    | none => simp only [List.append_assoc]; rfl
    | some n => simp only [List.append_assoc]; rfl

end Sys2Proof.Machine
end

section
/-! SUPPORT. A SET: the values it takes, the item at which it fails, the settings and the reply it leaves (R27, R30, R34,
R188, R189). -/
-- One proof at a time: elaborated side by side, the proofs take more stacks than the check's memory holds.
set_option Elab.async false
namespace Sys2Proof.Machine

/-! ### Values taken -/

section Clamp
variable {b : Nat × Nat} {v : Int}

theorem clampInto_low (h : v < b.1) : clampInto b v = b.1 := if_pos h

theorem clampInto_high (hb : b.1 ≤ b.2) (h : (b.2 : Int) < v) : clampInto b v = b.2 := by
  unfold clampInto
  rw [if_neg (by omega), if_pos h]

theorem clampInto_inside (hlow : (b.1 : Int) ≤ v) (hhigh : v ≤ b.2) : clampInto b v = v.toNat := by
  unfold clampInto
  rw [if_neg (by omega), if_neg (by omega)]

end Clamp

theorem LineId.taken_eq_clamp {i : LineId} (v : Int) (hstart : i ≠ .winStart) (hwidth : i ≠ .winWidth) :
    i.taken v = clampInto i.bounds v := by
  unfold LineId.taken
  dsimp only
  split
  · exact absurd rfl hstart
  · exact absurd rfl hwidth
  · rfl

/-- A value that can be taken is taken as it is. -/
theorem LineId.taken_of_takes {i : LineId} {n : Nat} (h : i.takes n) : i.taken n = n := by
  obtain ⟨hlow, hhigh, heven⟩ := h
  have hclamp : clampInto i.bounds n = n :=
    (clampInto_inside (by exact_mod_cast hlow) (by exact_mod_cast hhigh)).trans (Int.toNat_natCast n)
  by_cases hstart : i = .winStart
  · subst hstart
    have := heven (.inl rfl)
    simp only [LineId.taken, hclamp]
    omega
  by_cases hwidth : i = .winWidth
  · subst hwidth
    have := heven (.inr rfl)
    simp only [LineId.taken, hclamp]
    omega
  · rw [LineId.taken_eq_clamp _ hstart hwidth, hclamp]

/-- Both bounds of WIN_START and of WIN_WIDTH are even, so that a clamped value is the bound. -/
theorem LineId.taken_of_clamp {i : LineId} {v : Int} {n : Nat} (h : clampInto i.bounds v = n)
    (hn : n = i.bounds.1 ∨ n = i.bounds.2) : i.taken v = n := by
  by_cases hstart : i = .winStart
  · subst hstart
    simp only [LineId.taken, h]
    simp only [LineId.bounds] at hn
    omega
  by_cases hwidth : i = .winWidth
  · subst hwidth
    simp only [LineId.taken, h]
    simp only [LineId.bounds] at hn
    omega
  · rw [LineId.taken_eq_clamp _ hstart hwidth, h]

theorem LineId.taken_spec (i : LineId) (v : Int) : LineId.takes i (i.taken v) ∧
    (∀ n : Nat, v = n → LineId.takes i n → i.taken v = n) ∧
    (v < i.bounds.1 → i.taken v = i.bounds.1) ∧ ((i.bounds.2 : Int) < v → i.taken v = i.bounds.2) ∧
    ((i.bounds.1 : Int) ≤ v → v ≤ i.bounds.2 → v % 2 = 1 →
      (i = .winStart → (i.taken v : Int) = v - 1) ∧ (i = .winWidth → (i.taken v : Int) = v + 1)) := by
  refine ⟨i.takes_taken v, ?_, fun h => LineId.taken_of_clamp (clampInto_low h) (.inl rfl),
    fun h => LineId.taken_of_clamp (clampInto_high i.bounds_le h) (.inr rfl), fun hlow hhigh hodd => ?_⟩
  · rintro n rfl h
    exact LineId.taken_of_takes h
  · have hclamp := clampInto_inside hlow hhigh
    constructor
    · rintro rfl
      simp only [LineId.taken, hclamp]
      omega
    · rintro rfl
      simp only [LineId.bounds] at hlow
      simp only [LineId.taken, hclamp]
      omega

theorem OwnId.taken_spec (i : OwnId) (v : Int) : OwnId.takes i (i.taken v) ∧
    (∀ n : Nat, v = n → OwnId.takes i n → i.taken v = n) ∧
    (v < i.bounds.1 → i.taken v = i.bounds.1) ∧ ((i.bounds.2 : Int) < v → i.taken v = i.bounds.2) := by
  refine ⟨i.takes_taken v, ?_, clampInto_low, clampInto_high i.bounds_le⟩
  rintro n rfl ⟨hlow, hhigh⟩
  exact (clampInto_inside (by exact_mod_cast hlow) (by exact_mod_cast hhigh)).trans (Int.toNat_natCast n)

/-! ### Applying an item -/

section Apply
variable (c : Cdu)

theorem Cdu.writeLine_own (i : LineId) (v : Nat) : (c.writeLine i v).own = c.own := by
  unfold Cdu.writeLine; split_ifs <;> rfl

theorem Cdu.writeLine_hold (i : LineId) (v : Nat) : (c.writeLine i v).hold = c.hold := by
  unfold Cdu.writeLine; split_ifs <;> rfl

theorem Cdu.writeLine_line (i j : LineId) (v : Nat) :
    (c.writeLine i v).line.get j = if c.hold = false ∧ i = j then v else c.line.get j := by
  unfold Cdu.writeLine
  cases c.hold with
  | true => simp
  | false => simp [LineSettings.get_put]

theorem Cdu.writeLine_staged (i j : LineId) (v : Nat) :
    (c.writeLine i v).staged.get j = if c.hold = true ∧ i = j then some v else c.staged.get j := by
  unfold Cdu.writeLine
  cases c.hold with
  | true => simp [StagedSet.get_put]
  | false => simp

/-- The four gains written, one after another (R30). -/
def Cdu.writeGains (ks : List Chan) (g : Nat) : Cdu := ks.foldl (fun d k => d.writeLine (.gain k) g) c

theorem ite_later_or_first {α : Type} {p q r : Prop} [Decidable p] [Decidable q] [Decidable r] (x y : α) :
    (if p ∧ r then x else if p ∧ q then x else y) = if p ∧ (q ∨ r) then x else y := by
  by_cases hp : p
  · by_cases hr : r
    · simp [hp, hr]
    · simp [hp, hr]
  · simp [hp]

theorem Cdu.writeGains_spec (ks : List Chan) (g : Nat) (i : LineId) :
    (c.writeGains ks g).own = c.own ∧ (c.writeGains ks g).hold = c.hold ∧
      (c.writeGains ks g).line.get i =
        (if c.hold = false ∧ ∃ k ∈ ks, LineId.gain k = i then g else c.line.get i) ∧
      (c.writeGains ks g).staged.get i =
        (if c.hold = true ∧ ∃ k ∈ ks, LineId.gain k = i then some g else c.staged.get i) := by
  induction ks generalizing c with
  | nil => simp [Cdu.writeGains]
  | cons k ks ih =>
    obtain ⟨hown, hhold, hline, hstaged⟩ := ih (c.writeLine (.gain k) g)
    rw [Cdu.writeLine_own] at hown
    rw [Cdu.writeLine_hold] at hhold hline hstaged
    rw [Cdu.writeLine_line] at hline
    rw [Cdu.writeLine_staged] at hstaged
    refine ⟨hown, hhold, hline.trans ?_, hstaged.trans ?_⟩
    · simp only [List.mem_cons, exists_eq_or_imp, ite_later_or_first]
    · simp only [List.mem_cons, exists_eq_or_imp, ite_later_or_first]

theorem Cdu.applyItem_gainAll (v : Int) (i : LineId) :
    let d := (c.applyItem .gainAll v).1
    let named := ∃ k, i = .gain k
    d.own = c.own ∧ d.hold = c.hold ∧
      (named → c.hold = true → d.line.get i = c.line.get i ∧ d.staged.get i = some (i.taken v)) ∧
      (named → c.hold = false → d.line.get i = i.taken v ∧ d.staged.get i = c.staged.get i) ∧
      (¬ named → d.line.get i = c.line.get i ∧ d.staged.get i = c.staged.get i) := by
  obtain ⟨hown, hhold, hline, hstaged⟩ := c.writeGains_spec Chan.all (LineId.taken (.gain .ind) v) i
  refine ⟨hown, hhold, ?_, ?_, fun hno => ⟨hline.trans (if_neg ?_), hstaged.trans (if_neg ?_)⟩⟩
  · rintro ⟨k, rfl⟩ hc
    have hk : ∃ j ∈ Chan.all, LineId.gain j = .gain k := ⟨k, by cases k <;> decide, rfl⟩
    exact ⟨hline.trans (if_neg fun h => by simp [hc] at h), hstaged.trans (if_pos ⟨hc, hk⟩)⟩
  · rintro ⟨k, rfl⟩ hc
    have hk : ∃ j ∈ Chan.all, LineId.gain j = .gain k := ⟨k, by cases k <;> decide, rfl⟩
    exact ⟨hline.trans (if_pos ⟨hc, hk⟩), hstaged.trans (if_neg fun h => by simp [hc] at h)⟩
  · exact fun ⟨_, k, _, hk⟩ => hno ⟨k, hk.symm⟩
  · exact fun ⟨_, k, _, hk⟩ => hno ⟨k, hk.symm⟩

/-- The value that an item takes. -/
def SettingTarget.taken (g : SettingTarget) (v : Int) : Nat :=
  match g with
  | .line i => i.taken v
  | .own i => i.taken v
  | .gainAll => LineId.taken (.gain .ind) v

/-- An item is staged under HOLD, but for a setting that is not of the LINE class (R34). -/
def SettingTarget.staged (g : SettingTarget) (hold : Bool) : Bool :=
  match g with
  | .own _ => false
  | _ => hold

theorem SettingTarget.taken_lt (g : SettingTarget) (v : Int) : g.taken v < 256 ^ 4 := by
  have hline (i : LineId) : i.bounds.2 < 256 ^ 4 := by cases i <;> simp only [LineId.bounds] <;> decide
  have hown (i : OwnId) : i.bounds.2 < 256 ^ 4 := by cases i <;> decide
  cases g with
  | line i => exact (i.takes_taken v).2.1.trans_lt (hline i)
  | own i => exact (i.takes_taken v).2.trans_lt (hown i)
  | gainAll => exact ((LineId.gain .ind).takes_taken v).2.1.trans_lt (hline _)

theorem Cdu.applyItem_answer (g : SettingTarget) (v : Int) :
    (c.applyItem g v).2 = (g.taken v, g.staged c.hold) := by cases g <;> rfl

theorem Cdu.applyItem_hold (g : SettingTarget) (v : Int) : (c.applyItem g v).1.hold = c.hold := by
  cases g with
  | line i => exact c.writeLine_hold _ _
  | own i => rfl
  | gainAll => exact (c.applyItem_gainAll v .lineTicks).2.1

end Apply

/-! ### The items of a body -/

/-- One item of a SET body (R188). -/
def itemOf (body : List Byte) (j : Nat) : SetItem :=
  { code := field body (6 * j) 2, value := asSigned 4 (field body (6 * j + 2) 4) }

theorem setItems_eq {body : List Byte} {k : Nat} (h : body.length = 6 * k) (hk : k ≤ 32) :
    setItems body = (List.range k).map (itemOf body) := by
  unfold setItems
  rw [chunks_eq_map h hk (by decide), List.map_map]
  refine List.map_congr_left fun j _ => ?_
  simp only [Function.comp_apply, itemOf]
  rw [field_take (by omega), field_take (by omega), field_drop, field_drop, Nat.add_zero]

/-- One item as the reply lists it; an unknown identifier is not listed. -/
def listedItem (hold : Bool) (it : SetItem) : List Byte :=
  match SettingTarget.ofCode it.code with
  | none => []
  | some g => itemReply it (g.taken it.value) (g.staged hold)

/-- The settings after one item. -/
def Cdu.afterItem (c : Cdu) (it : SetItem) : Cdu :=
  match SettingTarget.ofCode it.code with
  | none => c
  | some g => (c.applyItem g it.value).1

theorem Cdu.afterItem_hold (c : Cdu) (it : SetItem) : (c.afterItem it).hold = c.hold := by
  unfold Cdu.afterItem
  split
  · rfl
  · exact c.applyItem_hold _ _

theorem Cdu.applyItems_cons (c : Cdu) (it : SetItem) (rest : List SetItem) :
    c.applyItems (it :: rest) =
      (((c.afterItem it).applyItems rest).1, listedItem c.hold it ++ ((c.afterItem it).applyItems rest).2) := by
  rw [Cdu.applyItems]
  cases h : SettingTarget.ofCode it.code with
  | none => simp only [Cdu.afterItem, listedItem, h, List.nil_append]
  | some g => simp only [Cdu.afterItem, listedItem, h, Cdu.applyItem_answer]

/-- Every item is applied in order and listed. -/
theorem Cdu.applyItems_eq (c : Cdu) (items : List SetItem) :
    c.applyItems items = (items.foldl Cdu.afterItem c, items.flatMap (listedItem c.hold)) := by
  induction items generalizing c with
  | nil => rfl
  | cons it rest ih => rw [Cdu.applyItems_cons, ih, Cdu.afterItem_hold, List.foldl_cons, List.flatMap_cons]

theorem listedItem_eq {it : SetItem} {g : SettingTarget} (hold : Bool) (h : SettingTarget.ofCode it.code = some g) :
    listedItem hold it = itemReply it (g.taken it.value) (g.staged hold) := by
  unfold listedItem
  rw [h]

theorem length_itemReply (it : SetItem) (taken : Nat) (staged : Bool) : (itemReply it taken staged).length = 7 := by
  simp [itemReply]

/-- The fields of a listed item (R189). -/
theorem itemReply_fields {it : SetItem} {taken : Nat} (staged : Bool) (hcode : it.code < 65536) (ht : taken < 256 ^ 4) :
    field (itemReply it taken staged) 0 2 = it.code ∧ field (itemReply it taken staged) 2 4 = taken ∧
      byteAt (itemReply it taken staged) 6 = (if (taken : Int) = it.value then 0 else 1) + if staged then 2 else 0 := by
  have hmarks : (bit (decide ((taken : Int) ≠ it.value)) 1 + bit staged 2) % 256 =
      (if (taken : Int) = it.value then 0 else 1) + if staged then 2 else 0 := by
    by_cases h : (taken : Int) = it.value <;> cases staged <;> simp [bit, h]
  refine ⟨?_, ?_, ?_⟩
  · simp [itemReply, field_append_left, field_toBytes, Nat.mod_eq_of_lt hcode]
  · simpa [itemReply, field_append_left, field_append_right, field_toBytes] using ht
  · simpa [itemReply, byteAt, field_append_left, field_append_right, field_toBytes] using hmarks

/-! ### The item that fails -/

section Failure
variable {idle : Bool} {before : List Nat} {items : List SetItem}

theorem itemFailure_unknown {it : SetItem} (h : SettingTarget.ofCode it.code = none) :
    itemFailure idle before it = some .badId := by
  unfold itemFailure
  rw [h]

theorem itemFailure_known {it : SetItem} {g : SettingTarget} (h : SettingTarget.ofCode it.code = some g) (st : Status) :
    itemFailure idle before it = some st ↔ (st = .duplicate ∧ it.code ∈ before) ∨
      (st = .state ∧ it.code ∉ before ∧ g.idleOnly = true ∧ idle = false) := by
  unfold itemFailure
  rw [h]
  dsimp only
  by_cases hbefore : it.code ∈ before
  · simp only [List.contains_eq_mem, hbefore, decide_true, if_true, Option.some.injEq, and_true, not_true, false_and,
      and_false, or_false, eq_comm]
  · by_cases hlate : g.idleOnly = true ∧ idle = false
    · obtain ⟨honly, rfl⟩ := hlate
      simp [hbefore, honly, eq_comm (a := st)]
    · rw [if_neg (by simpa using hbefore), if_neg (by simpa using hlate)]
      simp [hbefore, hlate]

theorem firstFailure_none (n : Nat) (h : ∀ j it, items[j]? = some it →
    itemFailure idle (before ++ (items.take j).map SetItem.code) it = none) :
    firstFailure idle n before items = none := by
  induction items generalizing n before with
  | nil => rfl
  | cons it rest ih =>
    have hfirst : itemFailure idle before it = none := by simpa using h 0 it rfl
    rw [firstFailure, hfirst]
    exact ih _ fun j x hx => by simpa using h (j + 1) x hx

theorem firstFailure_some (n : Nat) {j : Nat} {it : SetItem} {st : Status} (hj : items[j]? = some it)
    (hfail : itemFailure idle (before ++ (items.take j).map SetItem.code) it = some st)
    (hpass : ∀ i < j, ∀ x, items[i]? = some x → itemFailure idle (before ++ (items.take i).map SetItem.code) x = none) :
    firstFailure idle n before items = some (n + j, it, st) := by
  induction items generalizing n before j with
  | nil => cases hj
  | cons x rest ih =>
    cases j with
    | zero =>
      cases hj
      have hfirst : itemFailure idle before it = some st := by simpa using hfail
      rw [firstFailure, hfirst]
      rfl
    | succ j =>
      have hfirst : itemFailure idle before x = none := by simpa using hpass 0 (by omega) x rfl
      rw [firstFailure, hfirst]
      dsimp only
      rw [ih (n + 1) hj (by simpa using hfail) fun i hi y hy => by simpa using hpass (i + 1) (by omega) y hy,
        show n + 1 + j = n + (j + 1) by omega]

end Failure
end Sys2Proof.Machine
end

section
/-! PROOF. SET, HOLD and RELEASE (R27, R30, R34 to R36, R149, R150, R188, R189). -/
-- One proof at a time: elaborated side by side, the proofs take more stacks than the check's memory holds.
set_option Elab.async false
namespace Sys2Proof.Machine

/-! ### A SET refused -/

/-- The item `j` of a SET body fails with a status (R34, R188). -/
def State.setFails (s : State) (body : List Byte) (j : Nat) (st : Status) : Prop :=
  match SettingTarget.ofCode (field body (6 * j) 2) with
  | none => st = .badId
  | some g =>
    (st = .duplicate ∧ ∃ i < j, field body (6 * i) 2 = field body (6 * j) 2) ∨
      (st = .state ∧ (∀ i < j, field body (6 * i) 2 ≠ field body (6 * j) 2) ∧ g.idleOnly = true ∧ s.eng.state ≠ .idle)

section Set
variable {s : State} {f : Frame} {rest : List Frame} {body : List Byte} {k : Nat}

theorem codes_before {j : Nat} (hj : j ≤ k) :
    (((List.range k).map (itemOf body)).take j).map SetItem.code = (List.range j).map fun i => field body (6 * i) 2 := by
  rw [← List.map_take, List.take_range, Nat.min_eq_left hj, List.map_map]
  rfl

/-- The failure of an item as the model finds it. -/
theorem State.setFails_iff {j : Nat} (hj : j ≤ k) (st : Status) : s.setFails body j st ↔
    itemFailure (s.eng.state == .idle) ([] ++ (((List.range k).map (itemOf body)).take j).map SetItem.code)
      (itemOf body j) = some st := by
  rw [List.nil_append, codes_before hj]
  unfold State.setFails
  cases h : SettingTarget.ofCode (field body (6 * j) 2) with
  | none =>
    rw [itemFailure_unknown (it := itemOf body j) h, Option.some.injEq, eq_comm]
  | some g =>
    rw [itemFailure_known (it := itemOf body j) h]
    simp only [itemOf, List.mem_map, List.mem_range, not_exists, not_and, beq_eq_false_iff_ne, ne_eq]

theorem exec_set (h : s.asked 0x03 f rest) (hlen : f.body.length = 6 * (k + 1)) (hk : k < 32) :
    exec .set s = .next (((s.unqueued rest).setSettings f.body).reply f) := by
  refine State.takeRequest_asked h rfl ?_
  simp only [bodyFits, hlen, Bool.and_eq_true, beq_iff_eq, decide_eq_true_eq]
  omega

theorem getElem?_items {j : Nat} (hj : j ≤ k) :
    ((List.range (k + 1)).map (itemOf body))[j]? = some (itemOf body j) := by
  rw [List.getElem?_map, List.getElem?_range (by omega)]
  rfl

theorem of_getElem?_items {j : Nat} {it : SetItem} (h : ((List.range (k + 1)).map (itemOf body))[j]? = some it) :
    j ≤ k ∧ it = itemOf body j := by
  have hj : j < k + 1 := by
    have := (List.getElem?_eq_some_iff.mp h).1
    rwa [List.length_map, List.length_range] at this
  exact ⟨by omega, (Option.some.inj ((getElem?_items (by omega)).symm.trans h)).symm⟩

/-- A SET is refused whole by its first failing item (R188). -/
theorem exec_set_refused (h : s.asked 0x03 f rest) (hlen : f.body.length = 6 * (k + 1)) (hk : k < 32) {j : Nat}
    {st : Status} (hj : j ≤ k) (hfail : s.setFails f.body j st) (hpass : ∀ i < j, ∀ e, ¬ s.setFails f.body i e) :
    exec .set s = .next (s.answered f rest st (toBytes 1 j ++ toBytes 2 (field f.body (6 * j) 2))) := by
  have hfirst : firstFailure (s.eng.state == .idle) 0 [] (setItems f.body) = some (0 + j, itemOf f.body j, st) := by
    rw [setItems_eq hlen (by omega)]
    refine firstFailure_some 0 (getElem?_items hj) ((State.setFails_iff (by omega) st).mp hfail) fun i hi x hx => ?_
    obtain ⟨hik, rfl⟩ := of_getElem?_items hx
    exact Option.eq_none_iff_forall_ne_some.mpr fun e he =>
      hpass i hi e ((State.setFails_iff (by omega) e).mpr he)
  rw [exec_set h hlen hk]
  unfold State.setSettings
  dsimp only
  rw [show firstFailure ((s.unqueued rest).eng.state == .idle) 0 [] (setItems f.body) = _ from hfirst, Nat.zero_add]
  rfl

/-! ### A SET taken -/

/-- The settings after the items of a SET body, in order (R189). -/
def Cdu.afterSet (c : Cdu) (body : List Byte) (k : Nat) : Cdu := ((List.range k).map (itemOf body)).foldl Cdu.afterItem c

/-- The items of a SET body as the reply lists them (R189). -/
def listedItems (hold : Bool) (body : List Byte) (k : Nat) : List Byte :=
  (List.range k).flatMap fun j => listedItem hold (itemOf body j)

theorem exec_set_taken (h : s.asked 0x03 f rest) (hlen : f.body.length = 6 * (k + 1)) (hk : k < 32)
    (hpass : ∀ j ≤ k, ∀ st, ¬ s.setFails f.body j st) :
    exec .set s = .next (((s.unqueued rest).withSettings (s.cdu.afterSet f.body (k + 1))).replied f .ok
      (listedItems s.cdu.hold f.body (k + 1))) := by
  have hfirst : firstFailure (s.eng.state == .idle) 0 [] ((List.range (k + 1)).map (itemOf f.body)) = none := by
    refine firstFailure_none 0 fun j x hx => ?_
    obtain ⟨hj, rfl⟩ := of_getElem?_items hx
    exact Option.eq_none_iff_forall_ne_some.mpr fun e he =>
      hpass j hj e ((State.setFails_iff (by omega) e).mpr he)
  rw [exec_set h hlen hk]
  unfold State.setSettings
  dsimp only
  rw [setItems_eq hlen (by omega),
    show firstFailure ((s.unqueued rest).eng.state == .idle) 0 [] ((List.range (k + 1)).map (itemOf f.body)) = none from
      hfirst, Cdu.applyItems_eq, List.flatMap_map]
  rfl

/-- Each listed item, where every identifier names a setting (R189). -/
theorem listedItems_fields {hold : Bool} (hknown : ∀ j ≤ k, SettingTarget.ofCode (field body (6 * j) 2) ≠ none) :
    (listedItems hold body (k + 1)).length = 7 * (k + 1) ∧
    ∀ j g, j ≤ k → SettingTarget.ofCode (field body (6 * j) 2) = some g →
      field (listedItems hold body (k + 1)) (7 * j) 2 = field body (6 * j) 2 ∧
      field (listedItems hold body (k + 1)) (7 * j + 2) 4 = g.taken (itemOf body j).value ∧
      byteAt (listedItems hold body (k + 1)) (7 * j + 6) =
        (if (g.taken (itemOf body j).value : Int) = (itemOf body j).value then 0 else 1) +
          if g.staged hold then 2 else 0 := by
  have hblocks : ∀ j ∈ List.range (k + 1), (listedItem hold (itemOf body j)).length = 7 := fun j hj => by
    obtain ⟨g, hg⟩ := Option.ne_none_iff_exists'.mp (hknown j (by have := List.mem_range.mp hj; omega))
    rw [listedItem_eq (it := itemOf body j) hold hg, length_itemReply]
  refine ⟨(length_flatMap_blocks hblocks).trans (by rw [List.length_range]), fun j g hj hg => ?_⟩
  have hread {i n : Nat} (hi : i + n ≤ 7) :=
    field_flatMap_blocks hblocks (List.getElem?_range (show j < k + 1 by omega)) hi
  obtain ⟨hcode, htaken, hmarks⟩ := itemReply_fields (it := itemOf body j) (g.staged hold) (field_lt _ _ _)
    (g.taken_lt (itemOf body j).value)
  rw [← listedItem_eq (it := itemOf body j) hold hg] at hcode htaken hmarks
  exact ⟨(hread (i := 0) (by omega)).trans hcode, (hread (by omega)).trans htaken, (hread (n := 1) (by omega)).trans hmarks⟩

end Set

theorem SettingTarget.staged_iff (g : SettingTarget) (hold : Bool) :
    (match g with
      | .own _ => False
      | _ => hold = true) ↔ g.staged hold = true := by
  cases g with
  | line i => exact Iff.rfl
  | own i => exact ⟨False.elim, nofun⟩
  | gainAll => exact Iff.rfl

/-- What the marks byte of a listed item says (R189). -/
theorem marks_cases {m : Nat} {asSent staged : Prop} [Decidable asSent] {b : Bool} (hb : staged ↔ b = true)
    (hm : m = (if asSent then 0 else 1) + if b then 2 else 0) :
    (asSent → ¬ staged → m = 0) ∧ (¬ asSent → ¬ staged → m = 1) ∧ (asSent → staged → m = 2) ∧
      (¬ asSent → staged → m = 3) := by
  rw [hb, hm]
  by_cases h : asSent
  · cases b <;> simp [h]
  · cases b <;> simp [h]

/-! ### The effect of new settings -/

section Effect
variable (s : State) (c : Cdu)

theorem State.withSettings_same (hopen : c.own.get .openDelay = s.own .openDelay)
    (hclose : c.own.get .closeDelay = s.own .closeDelay) : s.withSettings c = { s with cdu := c } := by
  unfold State.withSettings
  dsimp only
  rw [if_pos ⟨hopen, hclose⟩]

/-- The state with new settings and leads, before the valves are judged. -/
def State.releaded (opens closes : Nat) : State :=
  { s with cdu := c, vdr := { s.vdr with leadOpen := opens, leadClose := closes } }

/-- The judgment that follows new leads leaves settings and leads. -/
theorem State.releaded_of_judged {t : State} {opens closes : Nat} (h : t.steady = (s.releaded c opens closes).steady) :
    t.cdu = c ∧ t.vdr.leadOpen = opens ∧ t.vdr.leadClose = closes :=
  ⟨congrArg Steady.cdu h, congrArg Steady.leadOpen h, congrArg Steady.leadClose h⟩

theorem State.withSettings_delays
    (h : c.own.get .openDelay ≠ s.own .openDelay ∨ c.own.get .closeDelay ≠ s.own .closeDelay) :
    s.withSettings c = State.judgeAll (.ordinary s.openReach)
      (s.releaded c (leadOpenAt (c.own.get .openDelay) s.bpu.speed) (leadCloseAt (c.own.get .closeDelay) s.bpu.speed)) :=
  if_neg fun ⟨hopen, hclose⟩ => h.elim (fun h => h hopen) fun h => h hclose

theorem State.withSettings_cdu : (s.withSettings c).cdu = c := by
  by_cases h : c.own.get .openDelay = s.own .openDelay ∧ c.own.get .closeDelay = s.own .closeDelay
  · rw [s.withSettings_same c h.1 h.2]
  · rw [s.withSettings_delays c (not_and_or.mp h)]
    exact (s.releaded_of_judged c (State.judgeAll_steady _ _)).1

end Effect

/-- New delays: the leads are those of R149's roundings, and every valve is judged (R149, R150). -/
theorem State.withSettings_leads {t : State} (s : State) (c : Cdu)
    (h : c.own.get .openDelay ≠ s.own .openDelay ∨ c.own.get .closeDelay ≠ s.own .closeDelay)
    (ht : s.withSettings c = t) :
    1000000 * t.vdr.leadOpen < t.own .openDelay * s.bpu.speed + 1000000 ∧
    t.own .openDelay * s.bpu.speed ≤ 1000000 * t.vdr.leadOpen ∧
    t.own .closeDelay * s.bpu.speed < 1000000 * t.vdr.leadClose + 1000000 ∧
    1000000 * t.vdr.leadClose ≤ t.own .closeDelay * s.bpu.speed ∧
    t.steady = (s.releaded t.cdu t.vdr.leadOpen t.vdr.leadClose).steady ∧
    t = State.judgeAll (.ordinary s.openReach) (s.releaded t.cdu t.vdr.leadOpen t.vdr.leadClose) ∧ t.judged := by
  have hopen := leadOpenAt_spec (c.own.get .openDelay) s.bpu.speed
  have hclose := leadCloseAt_spec (c.own.get .closeDelay) s.bpu.speed
  rw [s.withSettings_delays c h] at ht
  generalize leadOpenAt (c.own.get .openDelay) s.bpu.speed = opens at *
  generalize leadCloseAt (c.own.get .closeDelay) s.bpu.speed = closes at *
  have hsteady := State.judgeAll_steady (s.releaded c opens closes) (.ordinary s.openReach)
  have hjudged := State.judgeAll_judged (s.releaded c opens closes) (.ordinary s.openReach)
  rw [ht] at hsteady hjudged
  obtain ⟨hcdu, hleadOpen, hleadClose⟩ := s.releaded_of_judged c hsteady
  unfold State.own
  rw [hcdu, hleadOpen, hleadClose]
  exact ⟨hopen.2, hopen.1, hclose.2, hclose.1, hsteady, ht.symm, hjudged⟩

/-! ### HOLD and RELEASE -/

/-- The settings with every staged value in force and nothing staged (R36). -/
theorem Cdu.released_of_hold {c : Cdu} (h : c.hold = true) :
    c.released = { c with line := c.line.release c.staged, staged := StagedSet.empty, hold := false } := if_pos h

theorem Cdu.released_of_not_hold {c : Cdu} (h : c.hold = false) : c.released = c := if_neg (by simp [h])

theorem exec_release {s : State} {f : Frame} {rest : List Frame} (h : s.asked 0x06 f rest) (hbody : f.body = []) :
    exec .release s = .next (State.answered { s with cdu := s.cdu.released } f rest .ok []) :=
  State.takeRequest_asked h rfl (by rw [hbody]; rfl)

/-- Settles O48: the values taken; the first failing item; the items applied in order and listed one after another; and
the settings that HOLD and RELEASE leave. -/
theorem settingsRequestsAct : Obligations.SettingsRequestsAct := by
  refine ⟨⟨LineId.taken_spec, OwnId.taken_spec, fun c v => ⟨fun _ => rfl, fun _ => rfl, c.applyItem_gainAll v⟩,
    fun s f rest k h hlen hk => ⟨fun j st hj hfail hpass => exec_set_refused h hlen hk hj hfail hpass, ?taken⟩⟩,
    fun s f rest hbody => ⟨fun h => State.takeRequest_asked h rfl (by rw [hbody]; rfl),
      fun h => ⟨fun hoff => ?off, fun hon => ?on⟩⟩⟩
  case taken =>
    intro hpass
    have hknown : ∀ j ≤ k, SettingTarget.ofCode (field f.body (6 * j) 2) ≠ none := fun j hj hnone =>
      hpass j hj .badId (by simp only [hnone])
    obtain ⟨hlength, hlisted⟩ := listedItems_fields (hold := s.cdu.hold) hknown
    have hcdu := (s.unqueued rest).withSettings_cdu (s.cdu.afterSet f.body (k + 1))
    have hsame := (s.unqueued rest).withSettings_same (s.cdu.afterSet f.body (k + 1))
    have hleads := fun t => State.withSettings_leads (t := t) (s.unqueued rest) (s.cdu.afterSet f.body (k + 1))
    have hexec := exec_set_taken h hlen hk hpass
    generalize State.withSettings (s.cdu.afterSet f.body (k + 1)) (s.unqueued rest) = t at *
    refine ⟨t, _, hexec, hlength, fun j g hj hg => ?_, ?_, fun hopen hclose => ?_, fun hdelay => ?_⟩
    · obtain ⟨hcode, htaken, hmarks⟩ := hlisted j g hj hg
      exact ⟨hcode, htaken, marks_cases (g.staged_iff _) hmarks⟩
    · rw [hcdu, Cdu.afterSet, List.foldl_map]
      congr 1
      funext c j
      unfold Cdu.afterItem
      cases h : SettingTarget.ofCode (field f.body (6 * j) 2) with
      | none => simp only [itemOf, h]
      | some g => simp only [itemOf, h]
    · rw [← hcdu] at hsame
      exact hsame hopen hclose
    · rw [← hcdu] at hleads
      exact hleads t hdelay rfl
  case off => rw [exec_release h hbody, Cdu.released_of_not_hold hoff]
  case on =>
    refine ⟨s.cdu.released, exec_release h hbody, ?_⟩
    rw [Cdu.released_of_hold hon]
    exact ⟨rfl, rfl, fun i => ⟨StagedSet.get_empty i, LineSettings.get_release _ _ i⟩⟩

end Sys2Proof.Machine
end

section
/-! SUPPORT. The background test and the baseline step of one sample (R41, R42, R44 to R46). -/
-- One proof at a time: elaborated side by side, the proofs take more stacks than the check's memory holds.
set_option Elab.async false
namespace Sys2Proof.Machine

/-! ### Background cells -/

theorem markAt_eq_some (m : Marks) (cell : Nat) (x : Mark) :
    markAt m cell = some x ↔ ∃ j : Fin 96, j.val = cell ∧ look m j = x := by
  rw [markAt, toList_eq_map_look, List.getElem?_map, Option.map_eq_some_iff]
  simp only [List.getElem?_eq_some_iff, List.length_finRange, List.getElem_finRange]
  constructor
  · rintro ⟨_, ⟨h, rfl⟩, rfl⟩
    exact ⟨⟨cell, h⟩, rfl, rfl⟩
  · rintro ⟨j, rfl, rfl⟩
    exact ⟨j, ⟨j.isLt, rfl⟩, rfl⟩

theorem markAt_val (m : Marks) (i : Fin 96) (x : Mark) : markAt m i.val = some x ↔ look m i = x := by
  simp only [markAt_eq_some, Fin.val_inj, exists_eq_left]

theorem not_occupiedAt (m : Marks) (cell : Nat) :
    occupiedAt m cell = false ↔ ∀ j : Fin 96, j.val = cell → look m j ≠ .occupied := by
  simp only [← Bool.not_eq_true, occupiedAt, beq_iff_eq, markAt_eq_some, not_exists, not_and, ne_eq]

/-- Neither neighbour is OCCUPIED; off the belt there is none (R41). -/
theorem neighboursClear_iff (m : Marks) (i : Fin 96) :
    ((i.val == 0 || !occupiedAt m (i.val - 1)) && !occupiedAt m (i.val + 1)) = true ↔
      ∀ j : Fin 96, j.val + 1 = i.val ∨ i.val + 1 = j.val → look m j ≠ .occupied := by
  simp only [Bool.and_eq_true, Bool.or_eq_true, beq_iff_eq, Bool.not_eq_true', not_occupiedAt]
  constructor
  · rintro ⟨hleft, hright⟩ j (hj | hj)
    · exact hleft.resolve_left (by omega) j (by omega)
    · exact hright j hj.symm
  · intro h
    refine ⟨?_, fun j hj => h j (.inr hj.symm)⟩
    by_cases hi : i.val = 0
    · exact .inl hi
    · exact .inr fun j hj => h j (.inl (by omega))

theorem isBackground_iff (load : LoadState) (ln : Line) (i : Fin 96) :
    isBackground load ln i.val = true ↔ backgroundCell load ln i := by
  have hprev : (!occupiedAt ln.prevMarks i.val) = true ↔ look ln.prevMarks i ≠ .occupied := by
    rw [occupiedAt, Bool.not_eq_true', beq_eq_false_iff_ne, ne_eq, markAt_val]
  unfold isBackground backgroundCell
  rw [Bool.and_eq_true, Bool.and_eq_true, Bool.and_eq_true, Bool.or_eq_true, Bool.and_eq_true, neighboursClear_iff,
    hprev, beq_iff_eq, beq_iff_eq, markAt_val, Bool.not_eq_true', Option.isSome_iff_ne_none, and_assoc, and_assoc]

/-! ### A step toward a level -/

/-- A step of `v` leads toward a level that is `e` away, and not past it (R46). -/
def Toward (e v : Int) : Prop := (0 ≤ e → 0 ≤ v ∧ v ≤ e) ∧ (e ≤ 0 → e ≤ v ∧ v ≤ 0)

theorem truncDiv_toward (e : Int) (d : Nat) : Toward e (truncDiv e d) ∧ |truncDiv e d| = |e| / d := by
  have habs : |truncDiv e d| = |e| / d := by
    rw [truncDiv, Int.abs_eq_natAbs, Int.abs_eq_natAbs, Int.natAbs_tdiv, Int.natAbs_natCast]
    exact Int.natCast_ediv _ _
  have hle : |truncDiv e d| ≤ |e| := habs ▸ Int.ediv_le_self _ (abs_nonneg e)
  refine ⟨⟨fun he => ?_, fun he => ?_⟩, habs⟩
  · have hsign : 0 ≤ truncDiv e d := Int.tdiv_nonneg he (Int.natCast_nonneg d)
    rw [abs_of_nonneg hsign, abs_of_nonneg he] at hle
    exact ⟨hsign, hle⟩
  · have hneg := Int.tdiv_nonneg (neg_nonneg.mpr he) (Int.natCast_nonneg d)
    have hsign : truncDiv e d ≤ 0 := by rwa [Int.neg_tdiv, neg_nonneg] at hneg
    rw [abs_of_nonpos hsign, abs_of_nonpos he] at hle
    exact ⟨neg_le_neg_iff.mp hle, hsign⟩

theorem Toward.clamped {e v : Int} (h : Toward e v) {m : Int} (hm : 0 ≤ m) :
    Toward e (clamp (-m) m v) ∧ |clamp (-m) m v| = min m |v| := by
  obtain ⟨hup, hdown⟩ := h
  rw [clamp_eq (by omega), Int.abs_eq_natAbs, Int.abs_eq_natAbs]
  unfold Toward
  omega

/-- A step whose magnitude is reduced, down to 0 (R44). -/
theorem Toward.damped {e v : Int} (h : Toward e v) (n : Nat) :
    let w := if e < 0 then -((v.natAbs - n : Nat) : Int) else ((v.natAbs - n : Nat) : Int)
    Toward e w ∧ |w| = max 0 (|v| - n) := by
  obtain ⟨hup, hdown⟩ := h
  simp only [Int.abs_eq_natAbs]
  unfold Toward
  split_ifs <;> omega

theorem settleStep_toward (t : TrackSettings) (e : Int) :
    Toward e (settleStep t e) ∧ |settleStep t e| = min (8 * (t.maxStep : Int)) (|e| / 2) := by
  obtain ⟨htoward, habs⟩ := truncDiv_toward e 2
  obtain ⟨hclamped, hmin⟩ := htoward.clamped (m := 8 * (t.maxStep : Int)) (by omega)
  exact ⟨hclamped, hmin.trans (by rw [habs]; rfl)⟩

theorem trackStep_toward (t : TrackSettings) (e : Int) :
    Toward e (trackStep t e) ∧ |trackStep t e| = min (t.maxStep : Int) (max 0 (|e| / 32 - t.damp)) := by
  obtain ⟨htoward, habs⟩ := truncDiv_toward e 32
  obtain ⟨hdamped, hreduced⟩ := htoward.damped t.damp
  obtain ⟨hclamped, hmin⟩ := hdamped.clamped (m := (t.maxStep : Int)) (by omega)
  exact ⟨hclamped, hmin.trans (by rw [hreduced, habs]; rfl)⟩

/-- A step toward sixteen times a sample needs no clamping of the baseline. -/
theorem stepBaseline_toward {b r : Nat} {v : Int} (hb : b ≤ 262143) (hr : r ≤ 16383)
    (h : Toward (baselineError r b) v) :
    (b ≤ 16 * r → b ≤ stepBaseline b v ∧ stepBaseline b v ≤ 16 * r) ∧
      (16 * r ≤ b → 16 * r ≤ stepBaseline b v ∧ stepBaseline b v ≤ b) ∧ |(stepBaseline b v : Int) - b| = |v| := by
  obtain ⟨hup, hdown⟩ := h
  unfold baselineError at hup hdown
  have hstep : (stepBaseline b v : Int) = b + v := by
    rw [stepBaseline, clamp_eq (by decide)]
    omega
  refine ⟨by omega, by omega, ?_⟩
  rw [hstep, add_sub_cancel_left]

/-! ### One sample -/

/-- A sample that is taken as a SETTLE sample (R44, R45). -/
def settling (t : TrackSettings) (b : Nat) (st : Settle) (r : Nat) : Prop :=
  st ≠ .track ∨ (st = .track ∧ 16 * (t.thresh : Int) < |16 * (r : Int) - b|)

theorem trackSample_track (t : TrackSettings) (b r : Nat) : trackSample t b .track r =
    if 16 * (t.thresh : Int) < |16 * (r : Int) - b| then
      (stepBaseline b (settleStep t (baselineError r b)), Settle.after t.len)
    else (stepBaseline b (trackStep t (baselineError r b)), .track) := by
  have hthresh : 16 * t.thresh < (baselineError r b).natAbs ↔ 16 * (t.thresh : Int) < |16 * (r : Int) - b| := by
    rw [baselineError, Int.abs_eq_natAbs]
    omega
  simp only [trackSample, hthresh]

/-- A SETTLE sample lowers the count of its entry, SETTLE_LEN where it enters (R44, R45). -/
theorem trackSample_settling {t : TrackSettings} {b r : Nat} {st : Settle} (h : settling t b st r) :
    ∃ count, trackSample t b st r = (stepBaseline b (settleStep t (baselineError r b)), Settle.after count) ∧
      (st = .track → count = t.len) ∧ ∀ c, st = .settle c → count = c := by
  cases st with
  | track =>
    refine ⟨t.len, (trackSample_track t b r).trans (if_pos ?_), fun _ => rfl, nofun⟩
    exact (h.resolve_left fun hne => hne rfl).2
  | settle n => exact ⟨n, rfl, nofun, fun c hc => Settle.settle.inj hc⟩

theorem trackSample_tracking {t : TrackSettings} {b r : Nat} {st : Settle} (h : ¬ settling t b st r) :
    st = .track ∧ trackSample t b st r = (stepBaseline b (trackStep t (baselineError r b)), .track) := by
  obtain ⟨hst, herror⟩ := not_or.mp h
  obtain rfl := not_not.mp hst
  exact ⟨rfl, (trackSample_track t b r).trans (if_neg fun hlt => herror ⟨rfl, hlt⟩)⟩

end Sys2Proof.Machine
end

section
/-! PROOF. The baseline tracker takes a line (R41 to R46). -/
-- One proof at a time: elaborated side by side, the proofs take more stacks than the check's memory holds.
set_option Elab.async false
namespace Sys2Proof.Machine

theorem exec_bltTakeLine {s : State} {ln : Line} {rest : List Line} (h : s.bltLines = ln :: rest) :
    exec .bltTakeLine s = .next (if s.blt.status = .running then State.surveyTakes ln { s with bltLines := rest }
      else if s.own .blMode = 0 then State.trackLine ln { s with bltLines := rest }
      else { s with bltLines := rest }) := by
  show execBltTakeLine s = _
  unfold execBltTakeLine
  rw [h]
  dsimp only
  rw [apply_ite Host.Outcome.next, apply_ite Host.Outcome.next]
  rfl

theorem trackAt_background {t : TrackSettings} {load : LoadState} {ln : Line} {blt : Blt} {i : Fin 96} {sm : Samples}
    (hsm : ln.samples = some sm) (h : backgroundCell load ln i) (k : Chan) :
    trackAt t load ln blt i k = trackSample t ((look blt.baseline i).get k) ((look blt.settle i).get k)
      ((look sm.cells i).corrected.get k) := by
  unfold trackAt
  rw [hsm]
  exact if_pos ((isBackground_iff load ln i).mpr h)

theorem trackAt_other {t : TrackSettings} {load : LoadState} {ln : Line} {blt : Blt} {i : Fin 96}
    (h : ¬ backgroundCell load ln i) (k : Chan) :
    trackAt t load ln blt i k = ((look blt.baseline i).get k, (look blt.settle i).get k) := by
  unfold trackAt
  dsimp only
  split
  · exact if_neg (mt (isBackground_iff load ln i).mp h)
  · rfl

/-- Settles O15: the step of each sample leads toward its level, and the line moves the cells that are background. -/
theorem baselineTrackerTakesLine : Obligations.BaselineTrackerTakesLine := by
  refine ⟨fun g b r st hb hr => ?sample, fun s ln rest hlines hidle => ⟨fun hmode => ?held, fun hmode => ?tracked⟩⟩
  case sample =>
    dsimp only
    by_cases h : settling g b st r
    · obtain ⟨count, hsample, hlen, hcount⟩ := trackSample_settling h
      obtain ⟨htoward, habs⟩ := settleStep_toward g (baselineError r b)
      obtain ⟨hup, hdown, hmoved⟩ := stepBaseline_toward hb hr htoward
      rw [hsample]
      exact ⟨hup, hdown, fun _ => hmoved.trans habs, fun hno => absurd h hno, fun hno => absurd h hno,
        fun hst _ => by rw [← hlen hst]; rfl, fun c hc => by rw [← hcount c hc]; rfl⟩
    · obtain ⟨rfl, hsample⟩ := trackSample_tracking h
      obtain ⟨htoward, habs⟩ := trackStep_toward g (baselineError r b)
      obtain ⟨hup, hdown, hmoved⟩ := stepBaseline_toward hb hr htoward
      rw [hsample]
      exact ⟨hup, hdown, fun hyes => absurd hyes h, fun _ => hmoved.trans habs, fun _ => rfl,
        fun _ hyes => absurd hyes h, nofun⟩
  case held => rw [exec_bltTakeLine hlines, if_neg hidle, if_neg hmode]
  case tracked =>
    refine ⟨_, _, (exec_bltTakeLine hlines).trans (by rw [if_neg hidle, if_pos hmode]; rfl), fun i k => ?_⟩
    simp only [look_tabulate, Quad.get_make]
    refine ⟨fun sm hsm hbg => ?_, fun hbg => ?_⟩
    · exact trackAt_background (t := s.trackSettings) (blt := s.blt) hsm hbg k
    · exact Prod.mk.inj (trackAt_other (t := s.trackSettings) (blt := s.blt) hbg k)

end Sys2Proof.Machine
end

section
/-! PROOF. The belt survey takes a line (R47 to R52). -/
-- One proof at a time: elaborated side by side, the proofs take more stacks than the check's memory holds.
set_option Elab.async false
namespace Sys2Proof.Machine

/-! ### The accumulators -/

theorem absDiff_eq_abs (a b : Nat) : (absDiff a b : Int) = |(a : Int) - b| := by
  rw [absDiff, Int.abs_eq_natAbs]
  split_ifs <;> omega

/-- A line spoils a survey by a step above SURVEY_STEP from the last counted line (R49). -/
theorem spoils_iff (limit : Nat) (acc : SurveyAcc) (sm : Samples) : spoils limit acc sm = true ↔
    1 ≤ acc.good ∧ ∃ (i : Fin 96) (k : Chan),
      (limit : Int) < |((look sm.cells i).raw.get k : Int) - (look acc.prev i).get k| := by
  rw [spoils, Bool.and_eq_true, decide_eq_true_eq, List.any_eq_true]
  simp only [List.mem_finRange, true_and, Chan.any_all, decide_eq_true_eq, ← absDiff_eq_abs, Nat.cast_lt]

section Add
variable (acc : SurveyAcc) (sm : Samples) (i : Fin 96) (k : Chan)

theorem SurveyAcc.add_levelSum : (look (acc.add sm).levelSum i).get k =
    (look acc.levelSum i).get k + (look sm.cells i).raw.get k := by
  rw [SurveyAcc.add, look_tabulate, Quad.get_make]

theorem SurveyAcc.add_stepSum : ((look (acc.add sm).stepSum i).get k : Int) = (look acc.stepSum i).get k +
    (if 1 ≤ acc.good then |((look sm.cells i).raw.get k : Int) - (look acc.prev i).get k| else 0) := by
  rw [SurveyAcc.add, look_tabulate, Quad.get_make, Nat.cast_add, Nat.cast_ite, absDiff_eq_abs, Nat.cast_zero]

theorem SurveyAcc.add_refSum : (acc.add sm).refSum.get k =
    acc.refSum.get k + ((List.finRange 16).map fun j => (look sm.refs j).get k).sum := by
  rw [SurveyAcc.add, Quad.get_make, toList_eq_map_look, List.map_map]
  rfl

theorem SurveyAcc.add_prev : (look (acc.add sm).prev i).get k = (look sm.cells i).raw.get k := by
  rw [SurveyAcc.add, look_tabulate]

end Add

/-! ### The results -/

theorem roundNear_nonneg {n : Int} (hn : 0 ≤ n) (d : Nat) : 0 ≤ roundNear n d := by
  rw [roundNear, if_pos hn]
  exact Int.natCast_nonneg _

theorem SurveyAcc.baselines_get (acc : SurveyAcc) (i : Fin 96) (k : Chan) : ((look acc.baselines i).get k : Int) =
    max 0 (min 262143 (roundNear (16 * (look acc.levelSum i).get k) acc.target)) := by
  rw [SurveyAcc.baselines, look_tabulate, Quad.get_make, clamp_eq (by decide), Int.toNat_of_nonneg (le_max_left _ _),
    Nat.cast_mul]
  rfl

theorem recommendedOcc_eq (noise : Vector (Quad Nat) 96) (snap : LineSettings) (k : Chan) :
    recommendedOcc noise snap k = max 1 (min 2047
      (ceilDiv (4 * largestNoise noise snap k * snap.get (.gain k) * (1 + snap.get (.range k))) 32)) := by
  rw [recommendedOcc, clamp_eq (by decide)]
  omega

section Results
variable (acc : SurveyAcc) (snap : LineSettings)

theorem SurveyAcc.results_refLevel (k : Chan) :
    ((acc.results snap).refLevel.get k : Int) = roundNear (acc.refSum.get k) (16 * acc.target) := by
  rw [SurveyAcc.results, Quad.get_make, Int.toNat_of_nonneg (roundNear_nonneg (Int.natCast_nonneg _) _)]

theorem SurveyAcc.results_noise (i : Fin 96) (k : Chan) :
    (look (acc.results snap).noise i).get k = ceilDiv ((look acc.stepSum i).get k) (acc.target - 1) := by
  rw [SurveyAcc.results, look_tabulate, Quad.get_make]

theorem SurveyAcc.results_recommended (k : Chan) : (acc.results snap).recommended.get k =
    max 1 (min 2047 (ceilDiv (4 * largestNoise (acc.results snap).noise snap k * snap.get (.gain k) *
      (1 + snap.get (.range k))) 32)) := (Quad.get_make _ k).trans (recommendedOcc_eq _ _ _)

end Results

/-- The greatest of the values at the places of a list that pass a test, and 0 where none does. -/
theorem foldl_max_spec {α : Type} (p : α → Bool) (f : α → Nat) (as : List α) (m : Nat) :
    let top := as.foldl (fun m a => if p a then max m (f a) else m) m
    m ≤ top ∧ (∀ a ∈ as, p a = true → f a ≤ top) ∧ (top = m ∨ ∃ a ∈ as, p a = true ∧ f a = top) := by
  induction as generalizing m with
  | nil => exact ⟨le_rfl, nofun, .inl rfl⟩
  | cons a as ih =>
    obtain ⟨hbase, hall, htop⟩ := ih (if p a then max m (f a) else m)
    simp only [List.foldl_cons, List.forall_mem_cons, List.exists_mem_cons_iff]
    generalize as.foldl (fun m a => if p a then max m (f a) else m) (if p a then max m (f a) else m) = top at *
    by_cases ha : p a = true
    · rw [if_pos ha] at hbase htop
      refine ⟨(le_max_left _ _).trans hbase, ⟨fun _ => (le_max_right _ _).trans hbase, hall⟩, ?_⟩
      obtain rfl | hlater := htop
      · exact (max_choice m (f a)).imp id fun h => .inl ⟨ha, h.symm⟩
      · exact .inr (.inr hlater)
    · rw [if_neg ha] at hbase htop
      exact ⟨hbase, ⟨fun h => absurd h ha, hall⟩, htop.imp id .inr⟩

/-- The noise of the window's noisiest cell (R52). -/
theorem largestNoise_spec (noise : Vector (Quad Nat) 96) (snap : LineSettings) (k : Chan) :
    (∀ j, cellInWindow snap j → (look noise j).get k ≤ largestNoise noise snap k) ∧
      ((∃ j, cellInWindow snap j ∧ (look noise j).get k = largestNoise noise snap k) ∨
        largestNoise noise snap k = 0) := by
  obtain ⟨-, hall, htop⟩ :=
    foldl_max_spec (fun i : Fin 96 => snap.inWindow i.val) (fun i => (look noise i).get k) (List.finRange 96) 0
  simp only [LineSettings.inWindow_iff, List.mem_finRange, true_and, true_implies] at hall htop
  exact ⟨hall, htop.symm⟩

/-! ### The line taken -/

section Take
variable {s : State} {ln : Line} {rest : List Line} {sm : Samples}

theorem exec_survey_early (h : s.bltLines = ln :: rest) (hrun : s.blt.status = .running)
    (hearly : 0 < s.blt.acc.early) :
    exec .bltTakeLine s = .next { s with bltLines := rest, blt.acc.early := s.blt.acc.early - 1 } := by
  rw [exec_bltTakeLine h, if_pos hrun, State.surveyTakes, if_pos hearly]

theorem exec_survey_missing (h : s.bltLines = ln :: rest) (hrun : s.blt.status = .running)
    (hearly : s.blt.acc.early = 0) (hmissing : ln.samples = none) :
    exec .bltTakeLine s = .next { s with bltLines := rest } := by
  rw [exec_bltTakeLine h, if_pos hrun, State.surveyTakes, if_neg hearly.not_gt, hmissing]

theorem exec_survey_line (h : s.bltLines = ln :: rest) (hrun : s.blt.status = .running) (hearly : s.blt.acc.early = 0)
    (hsm : ln.samples = some sm) :
    exec .bltTakeLine s = .next (State.surveyLine ln sm { s with bltLines := rest }) := by
  rw [exec_bltTakeLine h, if_pos hrun, State.surveyTakes, if_neg hearly.not_gt, hsm]

theorem State.surveyLine_spoiled (h : spoils (s.own .surveyStep) s.blt.acc sm = true) :
    s.surveyLine ln sm = State.offer (.surveyEnd .spoiled s.blt.acc.good)
      (State.setEngine .idle .surveyEnd { s with blt.status := .spoiled, blt.acc := SurveyAcc.zero }) := if_pos h

theorem State.surveyLine_counted (h : spoils (s.own .surveyStep) s.blt.acc sm = false)
    (hmore : s.blt.acc.good + 1 < s.blt.acc.target) :
    s.surveyLine ln sm = { s with blt.acc := s.blt.acc.add sm } :=
  (if_neg (by simp [h])).trans (if_neg (Nat.not_le_of_lt hmore))

/-- The tracker after a survey: all results at once, tracking from the new baselines (R51). -/
def Blt.surveyed (acc : SurveyAcc) (snap : LineSettings) : Blt :=
  { baseline := acc.baselines, settle := Vector.replicate 96 ⟨.track, .track, .track, .track⟩
    refLevel := (acc.results snap).refLevel, valid := true, status := .done, acc := SurveyAcc.zero
    results := some (acc.results snap) }

theorem Blt.surveyed_settle (acc : SurveyAcc) (snap : LineSettings) (i : Fin 96) (k : Chan) :
    (look (Blt.surveyed acc snap).settle i).get k = .track := by
  rw [Blt.surveyed, look_replicate]
  cases k <;> rfl

theorem State.surveyLine_last (h : spoils (s.own .surveyStep) s.blt.acc sm = false)
    (hlast : s.blt.acc.good + 1 = s.blt.acc.target) :
    s.surveyLine ln sm = State.offer (.surveyEnd .done (s.blt.acc.add sm).target)
      (State.setEngine .idle .surveyEnd { s with blt := Blt.surveyed (s.blt.acc.add sm) ln.snap }) :=
  (if_neg (by simp [h])).trans (if_pos hlast.ge)

end Take

/-- Settles O16: each line of a running survey, and what the last one leaves. -/
theorem surveyTakesLine : Obligations.SurveyTakesLine := by
  refine ⟨fun s ln rest hlines hrun => ⟨exec_survey_early hlines hrun,
    fun hmissing hearly => exec_survey_missing hlines hrun hearly hmissing,
    fun sm hsm hearly => ⟨fun hspoils => ?spoiled, fun hgood hmore => ?counted⟩⟩,
    fun s ln rest sm hlines hrun hsm hearly hgood hlast => ?last⟩
  case spoiled =>
    rw [exec_survey_line hlines hrun hearly hsm]
    exact congrArg _ (State.surveyLine_spoiled (s := { s with bltLines := rest }) ((spoils_iff _ _ _).mpr hspoils))
  case counted =>
    have hno := Bool.eq_false_of_not_eq_true (mt (spoils_iff _ _ _).mp hgood)
    have hexec := (exec_survey_line hlines hrun hearly hsm).trans
      (congrArg _ (State.surveyLine_counted (s := { s with bltLines := rest }) hno hmore))
    refine ⟨_, hexec, hearly, rfl, rfl, fun i k => ?_⟩
    exact ⟨SurveyAcc.add_levelSum _ _ i k, SurveyAcc.add_stepSum _ _ i k, SurveyAcc.add_refSum _ _ k,
      SurveyAcc.add_prev _ _ i k⟩
  case last =>
    have hexec := (exec_survey_line hlines hrun hearly hsm).trans
      (congrArg _ (State.surveyLine_last (s := { s with bltLines := rest }) hgood hlast))
    refine ⟨_, (s.blt.acc.add sm).results ln.snap, hexec, rfl, rfl, rfl, rfl, rfl, rfl, rfl, fun i k => ?_⟩
    obtain ⟨hall, htop⟩ := largestNoise_spec ((s.blt.acc.add sm).results ln.snap).noise ln.snap k
    refine ⟨Blt.surveyed_settle _ _ i k, SurveyAcc.baselines_get _ i k, SurveyAcc.results_refLevel _ ln.snap k,
      SurveyAcc.results_noise _ _ i k, _, hall, htop, SurveyAcc.results_recommended _ _ k⟩

end Sys2Proof.Machine
end

section
/-! PROOF. SURVEY_START, SURVEY_STOP and BASELINE_WRITE (R47, R50, R54, R56). -/
-- One proof at a time: elaborated side by side, the proofs take more stacks than the check's memory holds.
set_option Elab.async false
namespace Sys2Proof.Machine

/-! ### Notices and the inbound queue -/

section Unqueued
variable (s : State) (rest : List Frame)

theorem State.offer_unqueued (x : Notice) : (s.unqueued rest).offer x = (s.offer x).unqueued rest := by
  have hsuppress : (s.unqueued rest).suppresses x = s.suppresses x := by cases x <;> rfl
  unfold State.offer
  rw [hsuppress, apply_ite (State.unqueued · rest), apply_ite (State.unqueued · rest)]
  rfl

theorem State.setEngine_unqueued (new : EngState) (cause : EngCause) :
    (s.unqueued rest).setEngine new cause = (s.setEngine new cause).unqueued rest := by
  unfold State.setEngine
  rw [apply_ite (State.unqueued · rest), ← State.offer_unqueued]
  rfl

end Unqueued

/-! ### The survey requests -/

/-- N as SURVEY_START takes it (R47). -/
theorem surveyTarget_eq (n : Nat) : clampInto (64, 4096) n = max 64 (min 4096 n) := by
  unfold clampInto
  split_ifs <;> omega

section Requests
variable {s : State} {f : Frame} {rest : List Frame}

theorem exec_surveyStart_refused (h : s.asked 0x0C f rest) (hlen : f.body.length = 2) (hbusy : s.eng.state ≠ .idle) :
    exec .surveyStart s = .next (s.answered f rest .state []) :=
  State.takeRequest_answered h rfl (by rw [hlen]; rfl) (if_pos hbusy)

/-- The state in which a survey runs whose first line is the next one processed (R47, log entry 28). -/
def State.surveyBegun (s : State) (n : Nat) : State :=
  { s with
    blt.status := .running, blt.results := none
    blt.acc := { SurveyAcc.zero with early := s.bltLines.length, target := n } }

theorem exec_surveyStart (h : s.asked 0x0C f rest) (hlen : f.body.length = 2) (hidle : s.eng.state = .idle) :
    let n := max 64 (min 4096 (field f.body 0 2))
    exec .surveyStart s = .next (State.answered (State.setEngine .survey .surveyStart (s.surveyBegun n)) f rest .ok
      (toBytes 2 n ++ toBytes 1 (if n = field f.body 0 2 then 0 else 1))) := by
  have hmark (n m : Nat) : bit (n != m) 1 = if n = m then 0 else 1 := by
    by_cases hnm : n = m <;> simp [bit, hnm]
  have hact : (s.unqueued rest).surveyStart f.body = _ := if_neg (not_not.mpr hidle)
  refine (State.takeRequest_asked h rfl (by rw [hlen]; rfl)).trans ?_
  rw [hact]
  dsimp only
  rw [surveyTarget_eq, hmark]
  exact congrArg (fun t : State => Host.Outcome.next (t.replied f .ok _)) ((s.surveyBegun _).setEngine_unqueued rest _ _)

theorem exec_surveyStop_refused (h : s.asked 0x0D f rest) (hbody : f.body = []) (hno : s.blt.status ≠ .running) :
    exec .surveyStop s = .next (s.answered f rest .state []) :=
  State.takeRequest_bodiless h hbody rfl (if_neg hno)

theorem exec_surveyStop (h : s.asked 0x0D f rest) (hbody : f.body = []) (hrun : s.blt.status = .running) :
    exec .surveyStop s = .next (State.answered
      (State.setEngine .idle .surveyEnd (State.offer (.surveyEnd .aborted s.blt.acc.good) (s.stopSurvey .aborted)))
      f rest .ok []) := by
  have hact : (s.unqueued rest).surveyStop = _ := if_pos hrun
  have habort : (s.unqueued rest).abortSurvey .surveyEnd = (s.abortSurvey .surveyEnd).unqueued rest := by
    unfold State.abortSurvey
    rw [← State.setEngine_unqueued, ← State.offer_unqueued]
    rfl
  refine (State.takeRequest_asked h rfl (by rw [hbody]; rfl)).trans ?_
  rw [hact, habort]
  rfl

/-! ### BASELINE_WRITE -/

/-- The values of a BASELINE_WRITE whose length is that of whole values. -/
theorem sentBaselines_eq {body : List Byte} {vals : List Nat} (hlen : body.length = 3 + 4 * vals.length)
    (hmax : vals.length ≤ 96) (hvals : ∀ j v, vals[j]? = some v → v = field body (3 + 4 * j) 4) :
    sentBaselines body = vals := by
  have hsent : sentBaselines body = (List.range vals.length).map fun j => field body (3 + 4 * j) 4 := by
    rw [sentBaselines, chunks_eq_map (k := vals.length) (by rw [List.length_drop]; omega) hmax (by decide), List.map_map]
    exact List.map_congr_left fun j _ => field_drop body 3 (4 * j) 4
  rw [hsent]
  refine List.ext_getElem (by simp) fun j _ hj => ?_
  rw [List.getElem_map, List.getElem_range]
  exact (hvals j _ (List.getElem?_eq_getElem hj)).symm

theorem getElem?_clampedBaselines {body : List Byte} {vals : List Nat}
    (hvals : ∀ j v, vals[j]? = some v → v = field body (3 + 4 * j) 4) (n : Nat)
    (hn : n < (vals.map (min 262143)).length) :
    (vals.map (min 262143))[n]? = some (min 262143 (field body (3 + 4 * n) 4)) := by
  rw [List.length_map] at hn
  have hv := List.getElem?_eq_getElem hn
  rw [List.getElem?_map, hv, ← hvals n _ hv]
  rfl

theorem Blt.write_baseline (b : Blt) (k : Chan) (first : Nat) {vals : List Nat} {value : Nat → Nat}
    (hvals : ∀ n < vals.length, vals[n]? = some (value n)) (i : Fin 96) (j : Chan) :
    (look (b.write k first vals).baseline i).get j =
      if j = k ∧ first ≤ i.val ∧ i.val < first + vals.length then value (i.val - first)
      else (look b.baseline i).get j := by
  rw [Blt.write, look_tabulate]
  by_cases hin : first ≤ i.val ∧ i.val < first + vals.length
  · obtain ⟨hfirst, hlast⟩ := hin
    simp only [hfirst, hlast, if_true, hvals (i.val - first) (by omega), Quad.get_put, and_true]
  · have hout : ¬ (j = k ∧ first ≤ i.val ∧ i.val < first + vals.length) := fun h => hin h.2
    rw [if_neg hout]
    split_ifs with hfirst
    · rw [List.getElem?_eq_none (by omega)]
    · rfl

theorem Blt.write_settle (b : Blt) (k : Chan) (first : Nat) (vals : List Nat) (i : Fin 96) (j : Chan) :
    (look (b.write k first vals).settle i).get j =
      if j = k ∧ first ≤ i.val ∧ i.val < first + vals.length then .track else (look b.settle i).get j := by
  rw [Blt.write, look_tabulate]
  by_cases hin : first ≤ i.val ∧ i.val < first + vals.length
  · simp only [hin, decide_true, Bool.and_true, if_true, Quad.get_put, and_true]
  · have hout : ¬ (j = k ∧ first ≤ i.val ∧ i.val < first + vals.length) := fun h => hin h.2
    rw [if_neg hout, if_neg (by simpa using hin)]

/-- The body of a BASELINE_WRITE that R56 refuses with RANGE. -/
def writeOutOfRange (body : List Byte) (vals : List Nat) : Prop :=
  3 < byteAt body 0 ∨ 95 < byteAt body 1 ∨ vals = [] ∨ 96 < byteAt body 1 + vals.length

/-- The tracker after a BASELINE_WRITE, its values clamped (R54, R56). -/
def Blt.afterWrite (b : Blt) (body : List Byte) (k : Chan) (vals : List Nat) : Blt :=
  { b.write k (byteAt body 1) (vals.map (min 262143)) with valid := b.valid || decide (byteAt body 2 ≠ 0) }

/-- The values of a BASELINE_WRITE as the reply gives them (R56). -/
def writtenBytes (vals : List Nat) : List Byte :=
  vals.flatMap fun v => toBytes 4 (min 262143 v) ++ toBytes 1 (if 262143 < v then 1 else 0)

section Answer
variable {body : List Byte}

theorem State.baselineWrite_state (hmode : s.own .blMode ≠ 2) : s.baselineWrite body = s.refuse .state [] := if_pos hmode

theorem State.baselineWrite_busy (hmode : s.own .blMode = 2) (hrun : s.blt.status = .running) :
    s.baselineWrite body = s.refuse .busy [] :=
  (if_neg (not_not.mpr hmode)).trans (if_pos hrun)

theorem State.baselineWrite_range (hmode : s.own .blMode = 2) (hno : s.blt.status ≠ .running)
    (hbad : writeOutOfRange body (sentBaselines body)) : s.baselineWrite body = s.refuse .range [] := by
  unfold State.baselineWrite
  dsimp only
  rw [if_neg (not_not.mpr hmode), if_neg hno]
  split
  · rfl
  · next k hk =>
    refine if_pos (hbad.resolve_left fun hchan => ?_)
    rw [Chan.ofIndex_of_lt hchan] at hk
    cases hk

theorem State.baselineWrite_taken (hmode : s.own .blMode = 2) (hno : s.blt.status ≠ .running) {k : Chan}
    (hk : k.index = byteAt body 0) (hgood : ¬ writeOutOfRange body (sentBaselines body)) :
    s.baselineWrite body =
      State.accept { s with blt := s.blt.afterWrite body k (sentBaselines body) } (writtenBytes (sentBaselines body)) := by
  have hmark (v : Nat) : bit (decide (262143 < v)) 1 = if 262143 < v then 1 else 0 := by simp [bit]
  have hvalid : decide (1 ≤ byteAt body 2) = decide (byteAt body 2 ≠ 0) := decide_eq_decide.mpr Nat.one_le_iff_ne_zero
  unfold State.baselineWrite
  dsimp only
  rw [if_neg (not_not.mpr hmode), if_neg hno, ← hk, Chan.ofIndex_index]
  dsimp only
  rw [if_neg fun h => hgood (.inr h)]
  simp only [hmark, hvalid]
  rfl

end Answer

/-- A BASELINE_WRITE of whole values is answered by its block. -/
theorem exec_baselineWrite {n : Nat} (h : s.asked 0x10 f rest) (hlen : f.body.length = 3 + 4 * n) (hmax : n ≤ 96) :
    exec .baselineWrite s = .next (((s.unqueued rest).baselineWrite f.body).reply f) := by
  refine State.takeRequest_asked h rfl ?_
  simp only [bodyFits, hlen, Bool.and_eq_true, beq_iff_eq, decide_eq_true_eq]
  omega

end Requests

/-- Settles O17: the refusals in the order of R47, R50 and R56, and the state each request taken leaves. -/
theorem surveyAndBaselineRequestsAct : Obligations.SurveyAndBaselineRequestsAct := by
  refine ⟨fun s f rest => ⟨fun h hlen => ?start, fun h hbody => ?stop⟩, fun s f rest vals h hlen hmax hvals => ?write⟩
  case start =>
    dsimp only
    split_ifs with hidle hsame
    · exact (exec_surveyStart h hlen hidle).trans (by rw [if_pos hsame]; rfl)
    · exact (exec_surveyStart h hlen hidle).trans (by rw [if_neg hsame]; rfl)
    · exact exec_surveyStart_refused h hlen hidle
  case stop =>
    split_ifs with hrun
    · exact exec_surveyStop h hbody hrun
    · exact exec_surveyStop_refused h hbody hrun
  case write =>
    have hsent := sentBaselines_eq hlen hmax hvals
    have hexec := exec_baselineWrite h hlen hmax
    refine ⟨fun hmode => hexec.trans ?state, fun hmode hrun => hexec.trans ?busy,
      fun hmode hno hbad => hexec.trans ?range, fun k hk hmode hno hgood => ?taken⟩
    case state => rw [State.baselineWrite_state (s := s.unqueued rest) hmode]; rfl
    case busy => rw [State.baselineWrite_busy (s := s.unqueued rest) hmode hrun]; rfl
    case range =>
      rw [State.baselineWrite_range (s := s.unqueued rest) hmode hno (by rw [hsent]; exact hbad)]; rfl
    case taken =>
      have htaken := State.baselineWrite_taken (s := s.unqueued rest) hmode hno hk (by rw [hsent]; exact hgood)
      rw [hsent] at htaken
      refine ⟨(s.blt.afterWrite f.body k vals).baseline, (s.blt.afterWrite f.body k vals).settle,
        hexec.trans (by rw [htaken]; rfl), fun i j => ⟨?_, ?_⟩⟩
      · refine (Blt.write_baseline _ _ _ (getElem?_clampedBaselines hvals) _ _).trans ?_
        rw [List.length_map]
      · refine (Blt.write_settle _ _ _ _ _ _).trans ?_
        rw [List.length_map]

end Sys2Proof.Machine
end

section
/-! SUPPORT. The opening of a piece (R59 to R61, R66): the slot and the bank it takes, and the state it leaves. -/
-- One proof at a time: elaborated side by side, the proofs take more stacks than the check's memory holds.
set_option Elab.async false
namespace Sys2Proof.Machine

section Opening
variable (s : State) {front : List Run} {continued : Bool}

theorem State.freeSlot?_eq_some {i : Slot} : s.freeSlot? = some i ↔ s.piece i = none ∧ ∀ j < i, s.piece j ≠ none := by
  unfold State.freeSlot?
  rw [List.find?_eq_some_iff_getElem]
  constructor
  · rintro ⟨hi, k, hk, hki, hbefore⟩
    rw [List.getElem_finRange] at hki
    subst hki
    exact ⟨by simpa using hi, fun j hj => by simpa [← Option.isSome_iff_ne_none] using hbefore j.val hj⟩
  · rintro ⟨hi, hbefore⟩
    refine ⟨by simp [hi], i.val, by simp, by simp, fun j hj => ?_⟩
    have := hbefore ⟨j, hj.trans i.isLt⟩ hj
    simpa [← Option.isSome_iff_ne_none] using this

theorem State.freeSlot?_eq_none : s.freeSlot? = none ↔ ∀ i, s.piece i ≠ none := by
  simp [State.freeSlot?]

/-- The ACTIVE bank, where only one is. -/
theorem State.bankIn_active {b : BankId} (hb : (s.bank b).state = .active) (ho : (s.bank (otherBank b)).state ≠ .active) :
    s.bankIn .active = some b := by
  unfold State.bankIn
  obtain rfl | rfl : b = 0 ∨ b = 1 := by fin_cases b <;> simp
  · simp [hb]
  · have h0 : (s.bank 0).state ≠ .active := ho
    simp [hb, h0]

/-- The state after a piece has opened in a slot and taken its pin. -/
def State.opening (i : Slot) (b : BankId) (p : Piece) : State :=
  State.count .opened 1 { s with
    seg.slots := put s.seg.slots i (some p), seg.nextNumber := s.seg.nextNumber + 1
    rcs.banks := put s.rcs.banks b (s.bank b).pin }

/-- What the opening of a piece comes to, when it comes about (R59, R66). -/
theorem State.openPiece_eq_some {x : Slot × State} : s.openPiece front continued = some x ↔
    ∃ b, s.freeSlot? = some x.1 ∧ s.bankIn .active = some b ∧ s.openCount < 64 ∧
      x.2 = s.opening x.1 b (Piece.opened s.seg.nextNumber b s.rcs.generation front continued) := by
  unfold State.openPiece
  constructor
  · intro h
    split at h
    · next i b hi hb =>
      split_ifs at h with hroom
      cases h
      exact ⟨b, hi, hb, hroom, rfl⟩
    · cases h
  · rintro ⟨b, hi, hb, hroom, hx⟩
    rw [hi, hb]
    dsimp only
    exact (if_pos (show s.openCount < Config.openMax from hroom)).trans (congrArg some (Prod.ext rfl hx.symm))

theorem State.openPiece_eq_none (h : (∀ i, s.piece i ≠ none) ∨ 64 ≤ s.openCount) :
    s.openPiece front continued = none := by
  refine Option.eq_none_iff_forall_ne_some.mpr fun x hx => ?_
  obtain ⟨b, hi, _, hroom, _⟩ := s.openPiece_eq_some.mp hx
  obtain hfull | hmany := h
  · exact hfull x.1 (s.freeSlot?_eq_some.mp hi).1
  · omega

end Opening

/-- Settles O20, by the slot and the bank that an opening takes. -/
theorem pieceOpensInTheLowestFreeSlot : Obligations.PieceOpensInTheLowestFreeSlot := by
  intro s front continued b hb hother
  refine ⟨s.openPiece_eq_none, fun i hi hbefore hroom =>
    ⟨Piece.opened s.seg.nextNumber b s.rcs.generation front continued, ?_, rfl, rfl, rfl, rfl, rfl, rfl, rfl, rfl, rfl,
      rfl, rfl, rfl, rfl, rfl, rfl, rfl, rfl, rfl, by cases continued <;> rfl⟩⟩
  exact s.openPiece_eq_some.mpr
    ⟨b, s.freeSlot?_eq_some.mpr ⟨hi, hbefore⟩, s.bankIn_active hb hother, hroom, rfl⟩

end Sys2Proof.Machine
end

section
/-! PROOF. The accumulation of a segment cell by cell (R67, R71 to R73). -/
-- One proof at a time: elaborated side by side, the proofs take more stacks than the check's memory holds.
set_option Elab.async false
namespace Sys2Proof.Machine

/-! ### The cells of a segment -/

/-- The belt cells of a run, left to right. -/
def Run.beltCells (g : Run) : List (Fin 96) := (List.finRange 96).filter fun i => g.left ≤ i.val ∧ i.val ≤ g.right

theorem Run.mem_beltCells {g : Run} {i : Fin 96} : i ∈ g.beltCells ↔ g.left ≤ i.val ∧ i.val ≤ g.right := by
  simp [Run.beltCells]

theorem Run.cells_eq {g : Run} (hg : g.right < 96) : g.cells = g.beltCells.map Fin.val := by
  have hsorted : g.beltCells.Pairwise (· < ·) := (List.pairwise_lt_finRange 96).filter _
  refine List.Pairwise.eq_of_mem_iff (r := (· < ·)) ?_ ?_ fun n => ?_
  · exact List.pairwise_map.mpr (List.pairwise_lt_range.imp fun h => by omega)
  · exact List.pairwise_map.mpr (hsorted.imp fun h => h)
  · simp only [Run.cells, Run.width, List.mem_map, List.mem_range, Run.mem_beltCells]
    constructor
    · rintro ⟨k, hk, rfl⟩
      exact ⟨⟨g.left + k, by omega⟩, by dsimp only; omega, rfl⟩
    · rintro ⟨i, hi, rfl⟩
      exact ⟨i.val - g.left, by omega, by omega⟩

theorem Run.length_beltCells {g : Run} (hg : g.right < 96) : g.beltCells.length = g.width := by
  have h := congrArg List.length (g.cells_eq hg)
  simpa [Run.cells] using h.symm

theorem Samples.at?_val (sm : Samples) (i : Fin 96) : sm.at? i.val = some (look sm.cells i) := by
  simp [Samples.at?, look]

/-! ### The record after some cells -/

/-- A record after some cells of a line, each accumulated in turn. -/
def Piece.accumulateCells (m : Nat) (sm : Samples) (cs : List (Fin 96)) (p : Piece) : Piece :=
  cs.foldl (fun q i => q.accumulate m i.val (look sm.cells i)) p

/-- An extent after one cell more. -/
def widenTo (x : Option Run) (i : Nat) : Option Run := some ((x.map fun y => y.union ⟨i, i⟩).getD ⟨i, i⟩)

section Cells
variable (m : Nat) (sm : Samples)

theorem Piece.accumulateAll_eq {g : Run} (hg : g.right < 96) (p : Piece) :
    p.accumulateAll m sm g = p.accumulateCells m sm g.beltCells := by
  unfold Piece.accumulateAll Piece.accumulateCells
  rw [Run.cells_eq hg, List.foldl_map]
  simp only [Samples.at?_val]

variable (cs : List (Fin 96)) (p : Piece)

theorem Piece.accumulateCells_cons (c : Fin 96) :
    p.accumulateCells m sm (c :: cs) = (p.accumulate m c.val (look sm.cells c)).accumulateCells m sm cs := rfl

/-- Only these six fields follow the cells. -/
theorem Piece.accumulateCells_eq : p.accumulateCells m sm cs =
    let q := p.accumulateCells m sm cs
    { p with area := q.area, sums := q.sums, indPeak := q.indPeak, metal := q.metal, clipped := q.clipped
             extent := q.extent } := by
  induction cs generalizing p with
  | nil => rfl
  | cons c cs ih => exact ih _

theorem Piece.accumulateCells_area : (p.accumulateCells m sm cs).area = p.area + cs.length := by
  induction cs generalizing p with
  | nil => rfl
  | cons c cs ih =>
    rw [Piece.accumulateCells_cons, ih, List.length_cons, Nat.add_comm cs.length, ← Nat.add_assoc]
    rfl

theorem Piece.accumulateCells_sums (k : Chan) : (p.accumulateCells m sm cs).sums.get k =
    p.sums.get k + (cs.map fun i => (look sm.cells i).cond.get k).sum := by
  induction cs generalizing p with
  | nil => simp [Piece.accumulateCells]
  | cons c cs ih =>
    rw [Piece.accumulateCells_cons, ih, List.map_cons, List.sum_cons, ← add_assoc]
    simp [Piece.accumulate]

theorem Piece.accumulateCells_metal : (p.accumulateCells m sm cs).metal =
    p.metal + (cs.filter fun i => (m : Int) ≤ (look sm.cells i).cond.ind).length := by
  induction cs generalizing p with
  | nil => rfl
  | cons c cs ih =>
    rw [Piece.accumulateCells_cons, ih, List.filter_cons]
    by_cases h : (m : Int) ≤ (look sm.cells c).cond.ind
    · simp [Piece.accumulate, h]; omega
    · simp [Piece.accumulate, h]

theorem Piece.accumulateCells_clipped : (p.accumulateCells m sm cs).clipped =
    p.clipped + (cs.filter fun i => (look sm.cells i).clipped).length := by
  induction cs generalizing p with
  | nil => rfl
  | cons c cs ih =>
    rw [Piece.accumulateCells_cons, ih, List.filter_cons]
    by_cases h : (look sm.cells c).clipped = true
    · simp [Piece.accumulate, h]; omega
    · simp [Piece.accumulate, h]

/-- From a record that has a peak: the larger of that and the cells' largest. -/
theorem Piece.accumulateCells_peak {o : Int} (h : p.indPeak = some o) :
    ∃ v, (p.accumulateCells m sm cs).indPeak = some v ∧ o ≤ v ∧ (∀ i ∈ cs, (look sm.cells i).cond.ind ≤ v) ∧
      (v = o ∨ ∃ i ∈ cs, (look sm.cells i).cond.ind = v) := by
  induction cs generalizing p o with
  | nil => exact ⟨o, h, le_rfl, nofun, .inl rfl⟩
  | cons c cs ih =>
    have hstep : (p.accumulate m c.val (look sm.cells c)).indPeak = some (max o (look sm.cells c).cond.ind) := by
      simp [Piece.accumulate, h]
    obtain ⟨v, hv, hle, hall, hfrom⟩ := ih _ hstep
    refine ⟨v, hv, (le_max_left _ _).trans hle,
      List.forall_mem_cons.mpr ⟨(le_max_right _ _).trans hle, hall⟩, ?_⟩
    obtain hmax | ⟨i, hi, hiv⟩ := hfrom
    · obtain ho | hc := max_choice o (look sm.cells c).cond.ind
      · exact .inl (hmax.trans ho)
      · exact .inr ⟨c, List.mem_cons_self, (hmax.trans hc).symm⟩
    · exact .inr ⟨i, List.mem_cons_of_mem _ hi, hiv⟩

/-- Once a cell is accumulated there is a peak. -/
theorem Piece.accumulateCells_peak_spec (hcs : cs ≠ []) :
    ∃ v, (p.accumulateCells m sm cs).indPeak = some v ∧ (∀ i ∈ cs, (look sm.cells i).cond.ind ≤ v) ∧
      (∀ o, p.indPeak = some o → o ≤ v) ∧ (p.indPeak = some v ∨ ∃ i ∈ cs, (look sm.cells i).cond.ind = v) := by
  obtain ⟨c, cs, rfl⟩ := List.exists_cons_of_ne_nil hcs
  cases hp : p.indPeak with
  | some o =>
    obtain ⟨v, hv, hle, hall, hfrom⟩ := p.accumulateCells_peak m sm (c :: cs) hp
    exact ⟨v, hv, hall, fun x hx => by cases hx; exact hle, hfrom.imp_left fun e => by rw [e]⟩
  | none =>
    have hstep : (p.accumulate m c.val (look sm.cells c)).indPeak = some (look sm.cells c).cond.ind := by
      simp [Piece.accumulate, hp]
    obtain ⟨v, hv, hle, hall, hfrom⟩ := Piece.accumulateCells_peak m sm cs _ hstep
    refine ⟨v, hv, List.forall_mem_cons.mpr ⟨hle, hall⟩, nofun, .inr ?_⟩
    obtain rfl | ⟨i, hi, hiv⟩ := hfrom
    · exact ⟨c, List.mem_cons_self, rfl⟩
    · exact ⟨i, List.mem_cons_of_mem _ hi, hiv⟩

theorem Piece.accumulateCells_extent :
    (p.accumulateCells m sm cs).extent = (cs.map Fin.val).foldl widenTo p.extent := by
  induction cs generalizing p with
  | nil => rfl
  | cons c cs ih => rw [Piece.accumulateCells_cons, ih]; rfl

end Cells

/-- The extents after the cells from one place to another. -/
theorem foldl_widenTo (x : Option Run) (a n : Nat) : ((List.range (n + 1)).map (a + ·)).foldl widenTo x =
    some ((x.map fun y => y.union ⟨a, a + n⟩).getD ⟨a, a + n⟩) := by
  induction n with
  | zero => rfl
  | succ n ih =>
    rw [List.range_succ, List.map_append, List.foldl_append, ih]
    cases x with
    | none => simp [widenTo, Run.union]
    | some y => simp [widenTo, Run.union]

theorem Run.foldl_cells {g : Run} (hg : g.left ≤ g.right) (x : Option Run) :
    g.cells.foldl widenTo x = some ((x.map fun y => y.union g).getD g) := by
  have hw : g.width = g.right - g.left + 1 := by unfold Run.width; omega
  have hr : g.left + (g.right - g.left) = g.right := by omega
  unfold Run.cells
  rw [hw, foldl_widenTo, hr]

/-! ### A segment received -/

/-- The record after a segment of a line from a frame (R67, R71, R72). -/
theorem Piece.receive_samples {ln : Line} {sm : Samples} {g : Run} (hs : ln.samples = some sm) (hg : g.right < 96)
    (p : Piece) : p.receive ln g =
      let q := p.accumulateCells (ln.snap.get .metalThresh) sm g.beltCells
      { p with
        area := q.area, sums := q.sums, indPeak := q.indPeak, metal := q.metal, clipped := q.clipped
        extent := q.extent
        first := some (p.first.getD (ln.seq, ln.start)), received := p.received ++ [g]
        flags := p.flags.union (segmentFlags ln g) } := by
  unfold Piece.receive
  rw [hs]
  dsimp only
  rw [Piece.accumulateAll_eq _ _ hg, Piece.accumulateCells_eq]

/-- A segment of a missing line is only linked (R72, R73). -/
theorem Piece.receive_missing {ln : Line} (hs : ln.samples = none) (g : Run) (p : Piece) : p.receive ln g =
    { p with
      first := some (p.first.getD (ln.seq, ln.start)), received := p.received ++ [g]
      flags := p.flags.union (segmentFlags ln g) } := by
  unfold Piece.receive
  rw [hs]

/-- The flag CLIPPED of a segment (R72). -/
theorem segmentFlags_clipped {ln : Line} {sm : Samples} {g : Run} (hs : ln.samples = some sm) (hg : g.right < 96) :
    (segmentFlags ln g).clipped = true ↔ ∃ i ∈ g.beltCells, (look sm.cells i).clipped = true := by
  unfold segmentFlags
  rw [hs]
  dsimp only
  rw [Run.cells_eq hg, List.any_map, List.any_eq_true]
  simp [Samples.at?_val]

theorem segmentFlags_edge {ln : Line} {g : Run} (hl : ln.snap.windowStart ≤ g.left)
    (hr : g.right ≤ ln.snap.windowLast) :
    (segmentFlags ln g).edge = decide (g.left = ln.snap.windowStart ∨ g.right = ln.snap.windowLast) := by
  unfold segmentFlags
  rw [Bool.eq_iff_iff]
  simp only [Bool.or_eq_true, decide_eq_true_eq]
  omega

/-- Settles O21, by the cells of the segment one after another. -/
theorem segmentIsAccumulated : Obligations.SegmentIsAccumulated := by
  refine ⟨fun p ln sm g hs hle hl hr hg => ?frame, fun p ln g hs hl hr => ?missing⟩
  case frame =>
    have hne : g.beltCells ≠ [] := List.ne_nil_of_mem (Run.mem_beltCells.mpr ⟨le_rfl, hle⟩ : (⟨g.left, by omega⟩ : Fin 96) ∈ _)
    have hextent := p.accumulateCells_extent (ln.snap.get .metalThresh) sm g.beltCells
    rw [← Run.cells_eq hg, Run.foldl_cells hle] at hextent
    rw [p.receive_samples hs hg]
    refine ⟨?area, Piece.accumulateCells_sums _ _ _ _, Piece.accumulateCells_metal _ _ _ _,
      Piece.accumulateCells_clipped _ _ _ _, Piece.accumulateCells_peak_spec _ _ _ _ hne, ?extent, rfl, rfl,
      ?edge, Bool.or_eq_true _ _ ▸ Iff.rfl, ?clipped, rfl, rfl, rfl, rfl, rfl⟩
    case area =>
      refine (Piece.accumulateCells_area _ _ _ _).trans ?_
      rw [Run.length_beltCells hg]
      unfold Run.width
      omega
    case extent =>
      refine ⟨_, hextent, fun h => by rw [h]; rfl, fun o h => by rw [h]; rfl⟩
    case edge =>
      show (p.flags.edge || (segmentFlags ln g).edge) = true ↔ _
      rw [segmentFlags_edge hl hr, Bool.or_eq_true, decide_eq_true_eq]
    case clipped =>
      show (p.flags.clipped || (segmentFlags ln g).clipped) = true ↔ _
      rw [Bool.or_eq_true, segmentFlags_clipped hs hg]
      rfl
  case missing =>
    have hflags : p.flags.union (segmentFlags ln g) = { p.flags with
        gapfill := true
        edge := p.flags.edge || decide (g.left = ln.snap.windowStart ∨ g.right = ln.snap.windowLast)
        disturbed := p.flags.disturbed || ln.disturbed } := by
      rw [← segmentFlags_edge hl hr]
      simp [PieceFlags.union, segmentFlags, hs, PieceFlags.none]
    rw [p.receive_missing hs, hflags]

end Sys2Proof.Machine
end

section
/-! SUPPORT. What notices, changes of engine state and the freeing of slots leave as it is, and what the end of a piece
comes to (R58, R83, R84, R116, R169, R173, R194, R195). -/
-- One proof at a time: elaborated side by side, the proofs take more stacks than the check's memory holds.
set_option Elab.async false
namespace Sys2Proof.Machine

/-! ### Notices and the engine state -/

section Notices
variable (s : State)

/-- A notice offered reaches the link and the counts alone. -/
theorem State.offer_eq (n : Notice) : s.offer n = { s with lnk := (s.offer n).lnk, sta := (s.offer n).sta } := by
  unfold State.offer
  split_ifs <;> rfl

theorem State.offerPiece_eq (p : Piece) (o : PieceOutcome) :
    s.offerPiece p o = { s with lnk := (s.offerPiece p o).lnk, sta := (s.offerPiece p o).sta } := by
  unfold State.offerPiece
  split_ifs <;> rfl

theorem State.setEngine_eq (new : EngState) (c : EngCause) : s.setEngine new c =
    { s with eng.state := new, lnk := (s.setEngine new c).lnk, sta := (s.setEngine new c).sta } := by
  unfold State.setEngine
  split_ifs with h
  · rw [← h]
  · exact State.offer_eq _ _

theorem State.judgeDrained_eq : s.judgeDrained =
    { s with eng.state := s.judgeDrained.eng.state, lnk := s.judgeDrained.lnk, sta := s.judgeDrained.sta } := by
  unfold State.judgeDrained
  split_ifs
  · rw [State.setEngine_eq]
  · rfl

@[simp] theorem State.offer_seg (n : Notice) : (s.offer n).seg = s.seg := by rw [State.offer_eq]
@[simp] theorem State.offer_cls (n : Notice) : (s.offer n).cls = s.cls := by rw [State.offer_eq]
@[simp] theorem State.offer_rcs (n : Notice) : (s.offer n).rcs = s.rcs := by rw [State.offer_eq]
@[simp] theorem State.offer_lsc (n : Notice) : (s.offer n).lsc = s.lsc := by rw [State.offer_eq]
@[simp] theorem State.offer_vdr (n : Notice) : (s.offer n).vdr = s.vdr := by rw [State.offer_eq]
@[simp] theorem State.offer_eng (n : Notice) : (s.offer n).eng = s.eng := by rw [State.offer_eq]
@[simp] theorem State.offer_blt (n : Notice) : (s.offer n).blt = s.blt := by rw [State.offer_eq]
@[simp] theorem State.offer_ldm (n : Notice) : (s.offer n).ldm = s.ldm := by rw [State.offer_eq]
@[simp] theorem State.offer_bpu (n : Notice) : (s.offer n).bpu = s.bpu := by rw [State.offer_eq]

@[simp] theorem State.offerPiece_seg (p : Piece) (o : PieceOutcome) : (s.offerPiece p o).seg = s.seg := by
  rw [State.offerPiece_eq]
@[simp] theorem State.offerPiece_cls (p : Piece) (o : PieceOutcome) : (s.offerPiece p o).cls = s.cls := by
  rw [State.offerPiece_eq]
@[simp] theorem State.offerPiece_rcs (p : Piece) (o : PieceOutcome) : (s.offerPiece p o).rcs = s.rcs := by
  rw [State.offerPiece_eq]
@[simp] theorem State.offerPiece_lsc (p : Piece) (o : PieceOutcome) : (s.offerPiece p o).lsc = s.lsc := by
  rw [State.offerPiece_eq]
@[simp] theorem State.offerPiece_vdr (p : Piece) (o : PieceOutcome) : (s.offerPiece p o).vdr = s.vdr := by
  rw [State.offerPiece_eq]
@[simp] theorem State.offerPiece_eng (p : Piece) (o : PieceOutcome) : (s.offerPiece p o).eng = s.eng := by
  rw [State.offerPiece_eq]
@[simp] theorem State.offerPiece_blt (p : Piece) (o : PieceOutcome) : (s.offerPiece p o).blt = s.blt := by
  rw [State.offerPiece_eq]

@[simp] theorem State.setEngine_seg (new : EngState) (c : EngCause) : (s.setEngine new c).seg = s.seg := by
  rw [State.setEngine_eq]
@[simp] theorem State.setEngine_cls (new : EngState) (c : EngCause) : (s.setEngine new c).cls = s.cls := by
  rw [State.setEngine_eq]
@[simp] theorem State.setEngine_rcs (new : EngState) (c : EngCause) : (s.setEngine new c).rcs = s.rcs := by
  rw [State.setEngine_eq]
@[simp] theorem State.setEngine_lsc (new : EngState) (c : EngCause) : (s.setEngine new c).lsc = s.lsc := by
  rw [State.setEngine_eq]
@[simp] theorem State.setEngine_vdr (new : EngState) (c : EngCause) : (s.setEngine new c).vdr = s.vdr := by
  rw [State.setEngine_eq]
@[simp] theorem State.setEngine_eng (new : EngState) (c : EngCause) :
    (s.setEngine new c).eng = { s.eng with state := new } := by rw [State.setEngine_eq]
@[simp] theorem State.setEngine_blt (new : EngState) (c : EngCause) : (s.setEngine new c).blt = s.blt := by
  rw [State.setEngine_eq]

@[simp] theorem State.judgeDrained_seg : s.judgeDrained.seg = s.seg := by rw [State.judgeDrained_eq]
@[simp] theorem State.judgeDrained_cls : s.judgeDrained.cls = s.cls := by rw [State.judgeDrained_eq]
@[simp] theorem State.judgeDrained_rcs : s.judgeDrained.rcs = s.rcs := by rw [State.judgeDrained_eq]
@[simp] theorem State.judgeDrained_lsc : s.judgeDrained.lsc = s.lsc := by rw [State.judgeDrained_eq]
@[simp] theorem State.judgeDrained_vdr : s.judgeDrained.vdr = s.vdr := by rw [State.judgeDrained_eq]
@[simp] theorem State.judgeDrained_blt : s.judgeDrained.blt = s.blt := by rw [State.judgeDrained_eq]
@[simp] theorem State.judgeDrained_flags : s.judgeDrained.eng.flags = s.eng.flags := by rw [State.judgeDrained_eq]

/-- The pieces in the table are those of the block's record. -/
theorem State.piece_congr {s t : State} (h : t.seg = s.seg) : t.piece = s.piece := by
  funext i
  simp only [State.piece, h]

end Notices

/-! ### Occupied slots -/

section Slots
variable {s : State} {i j : Slot} {p : Piece}

theorem State.occupied_eq_zero : s.occupied = 0 ↔ ∀ i, s.piece i = none := by
  simp [State.occupied, List.filter_eq_nil_iff]

theorem State.occupied_congr {t : State} (h : t.seg = s.seg) : t.occupied = s.occupied := by
  simp only [State.occupied, State.piece_congr h]

/-- While a slot is occupied no freeing ends DRAINING (R173). -/
theorem State.judgeDrained_of_piece (h : s.piece i ≠ none) : s.judgeDrained = s :=
  if_neg fun hd => h (State.occupied_eq_zero.mp hd.2 i)

theorem State.releaseSlot_of_free (h : s.piece i = none) : s.releaseSlot i = s := by
  unfold State.releaseSlot
  rw [h]

/-- A slot freed and its pin released (R58, R116). -/
theorem State.releaseSlot_of_piece (h : s.piece i = some p) : s.releaseSlot i =
    { s with seg.slots := put s.seg.slots i none, rcs.banks := put s.rcs.banks p.bank (s.bank p.bank).unpin } := by
  unfold State.releaseSlot
  rw [h]
  rfl

theorem State.piece_releaseSlot (s : State) (i j : Slot) :
    (s.releaseSlot i).piece j = if i = j then none else s.piece j := by
  cases h : s.piece i with
  | none =>
    rw [State.releaseSlot_of_free h]
    split_ifs with hij
    · exact hij ▸ h
    · rfl
  | some p =>
    rw [State.releaseSlot_of_piece h]
    exact State.piece_setSlot s i j none

theorem State.freeSlot_of_other (hij : i ≠ j) (h : s.piece j ≠ none) : s.freeSlot i = s.releaseSlot i :=
  State.judgeDrained_of_piece (i := j) (by rwa [State.piece_releaseSlot, if_neg hij])

theorem State.piece_freeSlot (s : State) (i j : Slot) : (s.freeSlot i).piece j = if i = j then none else s.piece j := by
  rw [State.freeSlot, State.piece_congr (State.judgeDrained_seg _), State.piece_releaseSlot]

theorem State.endPiece_of_free (h : s.piece i = none) (o : PieceOutcome) : s.endPiece o i = s := by
  unfold State.endPiece
  rw [h]

theorem State.endPiece_of_piece (h : s.piece i = some p) (o : PieceOutcome) :
    s.endPiece o i = ((s.count (.ofOutcome o) 1).offerPiece p o).releaseSlot i := by
  unfold State.endPiece
  rw [h]

theorem State.piece_endPiece (s : State) (o : PieceOutcome) (i j : Slot) :
    (s.endPiece o i).piece j = if i = j then none else s.piece j := by
  cases h : s.piece i with
  | none =>
    rw [State.endPiece_of_free h]
    split_ifs with hij
    · exact hij ▸ h
    · rfl
  | some p =>
    rw [State.endPiece_of_piece h, State.piece_releaseSlot]
    exact if_congr Iff.rfl rfl (congrFun (State.piece_congr (State.offerPiece_seg _ p o)) j)

end Slots

end Sys2Proof.Machine
end

section
/-! PROOF. The survivor of a merge and what it takes over (R68 to R70, R116). -/
-- One proof at a time: elaborated side by side, the proofs take more stacks than the check's memory holds.
set_option Elab.async false
namespace Sys2Proof.Machine

/-! ### The survivor -/

/-- The earliest start, the lowest slot among equals, of slots that stand in order. -/
theorem foldl_earliest (start : Slot → Nat) (i : Slot) (others : List Slot) (h : (i :: others).Pairwise (· < ·)) :
    let w := others.foldl (fun best j => if start j < start best then j else best) i
    w ∈ i :: others ∧ ∀ j ∈ i :: others, start w < start j ∨ (start w = start j ∧ w ≤ j) := by
  induction others generalizing i with
  | nil => simp
  | cons j others ih =>
    obtain ⟨hi, hrest⟩ := List.pairwise_cons.mp h
    have hij : i < j := hi j List.mem_cons_self
    have better (b : Slot) (hb : b = i ∨ b = j)
        (hbest : ∀ x, x = i ∨ x = j → start b < start x ∨ (start b = start x ∧ b ≤ x))
        (hsorted : (b :: others).Pairwise (· < ·)) :
        let w := others.foldl (fun best j => if start j < start best then j else best) b
        w ∈ i :: j :: others ∧ ∀ x ∈ i :: j :: others, start w < start x ∨ (start w = start x ∧ w ≤ x) := by
      obtain ⟨hmem, hall⟩ := ih b hsorted
      have hfirst := hall b List.mem_cons_self
      refine ⟨?_, fun x hx => ?_⟩
      · simp only [List.mem_cons] at hmem ⊢
        grind
      · have hcases : (x = i ∨ x = j) ∨ x ∈ others := by simpa [or_assoc] using hx
        obtain hx | hx := hcases
        · have := hbest x hx
          grind
        · exact hall x (List.mem_cons_of_mem _ hx)
    rw [List.foldl_cons]
    split_ifs with hlt
    · exact better j (.inr rfl) (by rintro x (rfl | rfl) <;> grind) hrest
    · exact better i (.inl rfl) (by rintro x (rfl | rfl) <;> grind)
        (List.pairwise_cons.mpr ⟨fun x hx => hi x (List.mem_cons_of_mem _ hx), hrest.of_cons⟩)

/-! ### Joined lists of runs -/

theorem insertRun_eq (r : Run) (l : List Run) : insertRun r l = l.orderedInsert (fun a b => a.left ≤ b.left) r := by
  induction l with
  | nil => rfl
  | cons x l ih => rw [insertRun, List.orderedInsert_cons, ih]

theorem joinRuns_perm (a b : List Run) : (joinRuns a b).Perm (a ++ b) := by
  induction a with
  | nil => exact .refl b
  | cons r a ih =>
    show (insertRun r (joinRuns a b)).Perm _
    rw [insertRun_eq]
    exact (List.perm_orderedInsert _ r _).trans (ih.cons r)

theorem joinRuns_sorted (a : List Run) {b : List Run} (h : b.Pairwise fun x y => x.left ≤ y.left) :
    (joinRuns a b).Pairwise fun x y => x.left ≤ y.left := by
  have : Std.Total fun x y : Run => x.left ≤ y.left := ⟨fun x y => Nat.le_total _ _⟩
  have : IsTrans Run fun x y => x.left ≤ y.left := ⟨fun _ _ _ => Nat.le_trans⟩
  induction a with
  | nil => exact h
  | cons r a ih =>
    show (insertRun r (joinRuns a b)).Pairwise _
    rw [insertRun_eq]
    exact List.Pairwise.orderedInsert r _ ih

/-! ### An absorption -/

theorem State.absorb_of_piece {s : State} {into i : Slot} {p q : Piece} (hne : into ≠ i) (hp : s.piece into = some p)
    (hq : s.piece i = some q) : State.absorb into s i =
      { (State.count .absorbed 1 s).releaseSlot i with
        seg.slots := put (put s.seg.slots into (some (Piece.combine q p))) i none
        ldm.merges := satAdd 65535 s.ldm.merges 1 } := by
  have hslot : ((s.updatePiece into (Piece.combine q)).count .absorbed 1).piece i = some q := by
    refine (State.piece_updatePiece s into i _).trans ?_
    rw [if_neg hne, hq]
  have hother : ((s.updatePiece into (Piece.combine q)).count .absorbed 1).piece into ≠ none := by
    refine ne_of_eq_of_ne (State.piece_updatePiece_self s into _) ?_
    simp [hp]
  unfold State.absorb
  rw [hq]
  dsimp only
  rw [State.freeSlot_of_other hne.symm hother, State.releaseSlot_of_piece hslot,
    State.releaseSlot_of_piece (show (State.count .absorbed 1 s).piece i = some q from hq)]
  simp only [State.updatePiece, hp]
  rfl

theorem State.piece_absorb {s : State} {into i : Slot} {p q : Piece} (hne : into ≠ i) (hp : s.piece into = some p)
    (hq : s.piece i = some q) (j : Slot) : (State.absorb into s i).piece j =
      if i = j then none else if into = j then some (Piece.combine q p) else s.piece j := by
  rw [State.absorb_of_piece hne hp hq]
  simp only [State.piece, look_put]

/-- Settles O22: the ranking of R68, the record of R69 field by field, and the freeing of R70. -/
theorem mergeKeepsTheEarliestPiece : Obligations.MergeKeepsTheEarliestPiece := by
  refine ⟨fun s ln i others hsorted hsome => ?survivor, fun p q => ?combine, fun s into i p q hne hp hq => ?absorb⟩
  case survivor =>
    intro start w
    have hstart : start = fun j => ((s.piece j).map (Piece.rankStart ln)).getD ln.start := by
      funext j
      dsimp only [start]
      cases s.piece j with
      | none => rfl
      | some p => cases hf : p.first <;> simp [Piece.rankStart, hf]
    have h := foldl_earliest start i others hsorted
    rw [hstart] at h ⊢
    exact h
  case combine =>
    refine ⟨rfl, fun k => Quad.get_make _ k, rfl, rfl, rfl, rfl, ?_, ?_, ?_, ?_, ?_, ?_, ?_, ?_, ?_, ?_, ?_, ?_,
      joinRuns_perm _ _, joinRuns_sorted _, rfl, rfl, rfl, rfl, rfl, rfl, rfl, rfl, rfl, rfl⟩
    · intro a b ha hb; simp [Piece.combine, unionExtent, ha, hb, Run.union]
    · intro h; cases hp : p.extent <;> simp [Piece.combine, unionExtent, h, hp]
    · intro h; simp [Piece.combine, unionExtent, h]
    · intro a b ha hb; simp [Piece.combine, largerPeak, ha, hb]
    · intro h; cases hp : p.indPeak <;> simp [Piece.combine, largerPeak, h, hp]
    · intro h; simp [Piece.combine, largerPeak, h]
    · intro a b ha hb; simp [Piece.combine, earlierLine, ha, hb, apply_ite some]
    · intro h; cases hp : p.first <;> simp [Piece.combine, earlierLine, h, hp]
    · intro h; simp [Piece.combine, earlierLine, h]
    · intro a b ha hb; simp [Piece.combine, laterLine, ha, hb, apply_ite some]
    · intro h; cases hp : p.last <;> simp [Piece.combine, laterLine, h, hp]
    · intro h; simp [Piece.combine, laterLine, h]
  case absorb =>
    have hpiece := State.piece_absorb hne hp hq
    have hcount := State.get_count s .absorbed .absorbed 1
    refine ⟨?_, ?_, fun j hinto hi => ?_, ?_⟩
    · rw [hpiece, if_neg hne.symm, if_pos rfl]
    · rw [hpiece, if_pos rfl]
    · rw [hpiece, if_neg hi.symm, if_neg hinto.symm]
    · rw [State.absorb_of_piece hne hp hq,
        State.releaseSlot_of_piece (show (State.count .absorbed 1 s).piece i = some q from hq)]
      exact ⟨rfl, by rwa [if_pos rfl] at hcount, rfl, rfl, rfl, rfl, rfl⟩

end Sys2Proof.Machine
end

section
/-! PROOF. The end of a line: fronts, gap counts, closings and their order (R74 to R78). -/
-- One proof at a time: elaborated side by side, the proofs take more stacks than the check's memory holds.
set_option Elab.async false
namespace Sys2Proof.Machine

/-! ### Fronts -/

theorem coarsen_short {rs : List Run} (h : rs.length ≤ 8) : coarsen rs = rs := by
  unfold coarsen
  split
  · rfl
  · next _ r t hdrop =>
    have hlen := congrArg List.length hdrop
    rw [List.length_drop, List.length_cons] at hlen
    obtain rfl : t = [] := List.length_eq_zero_iff.mp (by omega)
    have hsplit : rs.take 7 ++ [r] = rs := by rw [← hdrop, List.take_append_drop]
    have hlast : rs.getLast? = some r := by rw [← hsplit]; simp
    rw [hlast]
    exact hsplit

theorem coarsen_long {head mid : List Run} (a b : Run) (h : head.length = 7) :
    coarsen (head ++ a :: mid ++ [b]) = head ++ [⟨a.left, b.right⟩] := by
  have hdrop : (head ++ a :: mid ++ [b]).drop 7 = a :: (mid ++ [b]) := by
    rw [List.append_assoc, List.drop_left' h]; rfl
  have htake : (head ++ a :: mid ++ [b]).take 7 = head := by
    rw [List.append_assoc, List.take_left' h]
  unfold coarsen
  rw [hdrop, htake, List.getLast?_append_of_ne_nil _ (by simp)]
  simp

/-! ### A piece at the end of a line -/

section EndLine
variable {p : Piece} {ln : Line}

theorem Piece.endLine_gap (hr : p.received = []) (h : p.gap + 1 ≤ ln.snap.get .gapLines) :
    p.endLine ln = ({ p with gap := p.gap + 1 }, false) := by
  unfold Piece.endLine
  rw [if_pos hr, if_neg (by omega)]

theorem Piece.endLine_closes (hr : p.received = []) (h : ln.snap.get .gapLines < p.gap + 1) :
    p.endLine ln = (p, true) := by
  unfold Piece.endLine
  rw [if_pos hr, if_pos h]

theorem Piece.settleLine_spanned {f : SeqNo × Nat} (hf : p.first = some f) :
    (p.settleLine ln).spanned = (ln.seq - f.1).toNat + 1 := by
  simp [Piece.spanned, Piece.settleLine, hf]

theorem Piece.endLine_settles {f : SeqNo × Nat} (hr : p.received ≠ []) (hf : p.first = some f) :
    let long := ln.snap.get .maxPieceLines ≤ (ln.seq - f.1).toNat + 1
    p.endLine ln = ({ p with
      front := coarsen p.received, received := [], gap := 0, last := some (ln.seq, ln.stop)
      contributed := p.contributed + 1
      flags := { p.flags with long := p.flags.long || decide long } }, decide long) := by
  unfold Piece.endLine
  dsimp only
  rw [if_neg hr, Piece.settleLine_spanned hf]
  generalize (ln.seq - f.1).toNat + 1 = spanned
  split_ifs with hlong
  · simp [Piece.settleLine, hlong]
  · simp [Piece.settleLine, hlong]

end EndLine

/-! ### The order of closing -/

/-- One closing piece stands before another: by first-line start, a piece with none after every piece with one, equal
ones in slot order (R78). -/
def closesFirst (x y : Slot × Piece) : Prop :=
  (∀ b, y.2.first = some b → ∃ a, x.2.first = some a ∧ (a.2 < b.2 ∨ (a.2 = b.2 ∧ x.1 < y.1))) ∧
    (x.2.first = none → y.2.first = none → x.1 < y.1)

theorem closesFirst_iff (x y : Slot × Piece) : closesFirst x y ↔
    match x.2.first, y.2.first with
    | some a, some b => a.2 < b.2 ∨ (a.2 = b.2 ∧ x.1 < y.1)
    | some _, none => True
    | none, some _ => False
    | none, none => x.1 < y.1 := by
  unfold closesFirst
  cases x.2.first <;> cases y.2.first <;> simp

theorem closesFirst_trans {x y z : Slot × Piece} (h : closesFirst x y) (g : closesFirst y z) : closesFirst x z := by
  rw [closesFirst_iff] at h g ⊢
  cases hx : x.2.first <;> cases hy : y.2.first <;> cases hz : z.2.first <;> simp only [hx, hy, hz] at h g ⊢
  · exact h.trans g
  · grind

/-- The list keeps an earlier slot before its equals. -/
theorem closesFirst_of_closesBefore {x y : Slot × Piece} (hslot : x.1 < y.1) (h : x.2.closesBefore y.2 = true) :
    closesFirst x y := by
  rw [closesFirst_iff]
  unfold Piece.closesBefore at h
  cases hx : x.2.first <;> cases hy : y.2.first <;> simp only [hx, hy, decide_eq_true_eq] at h ⊢
  · exact hslot
  · exact absurd h (by decide)
  · exact (Nat.lt_or_eq_of_le h).imp_right fun e => ⟨e, hslot⟩

theorem closesFirst_of_not_closesBefore {x y : Slot × Piece} (h : ¬ x.2.closesBefore y.2 = true) :
    closesFirst y x := by
  rw [closesFirst_iff]
  unfold Piece.closesBefore at h
  cases hx : x.2.first <;> cases hy : y.2.first <;> simp only [hx, hy, decide_eq_true_eq] at h ⊢
  · exact absurd trivial h
  · exact absurd trivial h
  · exact .inl (Nat.lt_of_not_le h)

theorem insertCloser_perm (x : Slot × Piece) (l : List (Slot × Piece)) : (insertCloser x l).Perm (x :: l) := by
  induction l with
  | nil => exact .refl _
  | cons y l ih =>
    unfold insertCloser
    split_ifs
    · exact .refl _
    · exact (ih.cons y).trans (.swap x y l)

theorem insertCloser_sorted {x : Slot × Piece} {l : List (Slot × Piece)} (hslot : ∀ y ∈ l, x.1 < y.1)
    (h : l.Pairwise closesFirst) : (insertCloser x l).Pairwise closesFirst := by
  induction l with
  | nil => exact List.pairwise_singleton _ x
  | cons y l ih =>
    obtain ⟨hy, hl⟩ := List.pairwise_cons.mp h
    obtain ⟨hxy, hxl⟩ := List.forall_mem_cons.mp hslot
    unfold insertCloser
    split_ifs with hbefore
    · have hfirst := closesFirst_of_closesBefore hxy hbefore
      exact List.pairwise_cons.mpr
        ⟨List.forall_mem_cons.mpr ⟨hfirst, fun z hz => closesFirst_trans hfirst (hy z hz)⟩, h⟩
    · refine List.pairwise_cons.mpr ⟨fun z hz => ?_, ih hxl hl⟩
      obtain rfl | hz := List.mem_cons.mp ((insertCloser_perm x l).mem_iff.mp hz)
      · exact closesFirst_of_not_closesBefore hbefore
      · exact hy z hz

theorem foldr_insertCloser {l : List (Slot × Piece)} (h : l.Pairwise fun x y => x.1 < y.1) :
    (l.foldr insertCloser []).Perm l ∧ (l.foldr insertCloser []).Pairwise closesFirst := by
  induction l with
  | nil => exact ⟨.refl _, .nil⟩
  | cons x l ih =>
    obtain ⟨hx, hl⟩ := List.pairwise_cons.mp h
    obtain ⟨hperm, hsorted⟩ := ih hl
    exact ⟨(insertCloser_perm x _).trans (hperm.cons x),
      insertCloser_sorted (fun y hy => hx y (hperm.mem_iff.mp hy)) hsorted⟩

/-! ### The pieces that close -/

/-- The OPEN pieces that close at the end of a line, with their slots, in slot order. -/
def State.closing (s : State) (ln : Line) : List (Slot × Piece) :=
  (s.slotsIn .openPiece).filterMap fun i =>
    match s.piece i with
    | some p => if (p.endLine ln).2 then some (i, p) else none
    | none => none

section Closing
variable (s : State) (ln : Line)

theorem State.closers_eq : s.closers ln = ((s.closing ln).foldr insertCloser []).map Prod.fst := rfl

theorem State.mem_closing {x : Slot × Piece} :
    x ∈ s.closing ln ↔ s.piece x.1 = some x.2 ∧ x.2.phase = .openPiece ∧ (x.2.endLine ln).2 = true := by
  unfold State.closing
  simp only [List.mem_filterMap, State.mem_slotsIn]
  constructor
  · rintro ⟨i, ⟨p, hp, hopen⟩, hx⟩
    rw [hp] at hx
    dsimp only at hx
    split_ifs at hx with hcloses
    cases hx
    exact ⟨hp, hopen, hcloses⟩
  · rintro ⟨hp, hopen, hcloses⟩
    refine ⟨x.1, ⟨x.2, hp, hopen⟩, ?_⟩
    rw [hp]
    exact if_pos hcloses

theorem State.closing_sorted : (s.closing ln).Pairwise fun x y => x.1 < y.1 := by
  refine List.Pairwise.filterMap _ (fun i j hij x hx y hy => ?_) ((List.pairwise_lt_finRange 256).filter _)
  have slot {i : Slot} {x : Slot × Piece} (hx : (match s.piece i with
      | some p => if (p.endLine ln).2 then some (i, p) else none
      | none => none) = some x) : x.1 = i := by
    split at hx
    · split_ifs at hx
      cases hx
      rfl
    · cases hx
  rw [slot hx, slot hy]
  exact hij

end Closing

/-- Settles O23: the front, the end of a line piece by piece, and the closing pieces as an insertion sort. -/
theorem lineEndJudgesPieces : Obligations.LineEndJudgesPieces := by
  refine ⟨fun rs => ⟨coarsen_short, fun head a b mid hrs hlen => hrs ▸ coarsen_long a b hlen⟩,
    fun p ln => ⟨Piece.endLine_gap, Piece.endLine_closes, fun f => Piece.endLine_settles⟩, fun s ln => ?_⟩
  obtain ⟨hperm, hsorted⟩ := foldr_insertCloser (s.closing_sorted ln)
  rw [s.closers_eq]
  refine ⟨fun i => ?_, List.pairwise_map.mpr (hsorted.imp_of_mem fun {x y} hx hy h p q hp hq => ?_)⟩
  · simp only [List.mem_map, hperm.mem_iff, State.mem_closing]
    exact ⟨fun ⟨x, hx, hi⟩ => ⟨x.2, hi ▸ hx⟩, fun ⟨p, hp⟩ => ⟨(i, p), hp, rfl⟩⟩
  · have hxp := ((s.mem_closing ln).mp (hperm.mem_iff.mp hx)).1
    have hyq := ((s.mem_closing ln).mp (hperm.mem_iff.mp hy)).1
    obtain rfl : p = x.2 := Option.some.inj (hp.symm.trans hxp)
    obtain rfl : q = y.2 := Option.some.inj (hq.symm.trans hyq)
    exact h

end Sys2Proof.Machine
end

section
/-! PROOF. What becomes of a closing piece (R77 to R81, R90, R96, R128). -/
-- One proof at a time: elaborated side by side, the proofs take more stacks than the check's memory holds.
set_option Elab.async false
namespace Sys2Proof.Machine

theorem clampFeature_ne_iff (v : Int) : clampFeature v ≠ v ↔ v < -32768 ∨ 32767 < v := by
  unfold clampFeature clamp
  split_ifs <;> omega

section Features
variable (p : Piece)

theorem Piece.sumInd_eq (shift : Nat) : p.sumInd shift = p.sums.get .ind / 2 ^ shift := by
  unfold Piece.sumInd
  rw [Int.fdiv_eq_ediv_of_nonneg _ (Int.natCast_nonneg _)]
  push_cast
  rfl

theorem Piece.ratioIv_eq : p.ratioIv = truncDiv (p.mean .ind * 64) (|p.mean .vis| + 1) := by
  unfold Piece.ratioIv
  push_cast
  rfl

/-- The classification part of a piece that skips the walk (R81, R96, R128). -/
def Piece.overflowClass (dest : Dest) (shift : Nat) : Classification :=
  { cls := .overflow, dest := dest, steps := 0, chainFault := false
    terms := { prec := 0, lead := 0, trail := 0, widen := 0, report := true }
    features := Piece.features { p with flags.queueFull := true, front := [] } shift }

theorem Piece.overflowed_eq (dest : Dest) (shift : Nat) : p.overflowed dest shift = { p with
    phase := .scheduled, front := [], classed := some (p.overflowClass dest shift)
    flags := { p.flags with queueFull := true, limited := p.flags.limited || p.clampActs shift } } := rfl

/-- A clamp acts where one of AREA, CLIPS, SUM_IND and RATIO_IV leaves its range (R90). -/
theorem Piece.clampActs_iff (shift : Nat) : p.clampActs shift = true ↔
    32767 < p.area ∨ 32767 < p.clipped ∨ p.sumInd shift < -32768 ∨ 32767 < p.sumInd shift ∨ p.ratioIv < -32768 ∨
      32767 < p.ratioIv := by
  unfold Piece.clampActs
  simp only [Bool.or_eq_true, decide_eq_true_eq, bne_iff_ne, clampFeature_ne_iff, or_assoc]

end Features

section Close
variable {s : State} {i : Slot} {p : Piece}

/-- An occupied slot's record replaced. -/
theorem State.updatePiece_of_piece (h : s.piece i = some p) (f : Piece → Piece) :
    s.updatePiece i f = { s with seg.slots := put s.seg.slots i (some (f p)) } := by
  unfold State.updatePiece
  rw [h]
  rfl

theorem State.closePiece_fines (h : p.area < s.own .minArea) : s.closePiece i p =
    (let t := State.count .fines 1 (s.freeSlot i)
     if s.own .finesReport = 1 then t.offer (.fines { p with front := [] }) else t.count .finesSuppressed 1) :=
  if_pos h

theorem State.closePiece_queued (hp : s.piece i = some p) (h : s.own .minArea ≤ p.area) (hq : s.cls.queue.length < 16) :
    s.closePiece i p = { s with
      seg.slots := put s.seg.slots i (some { p with phase := .queued, front := [] }), cls.queue := s.cls.queue ++ [i] } := by
  unfold State.closePiece
  rw [if_neg (Nat.not_lt.mpr h), if_pos (show s.cls.queue.length < Config.queueMax from hq),
    State.updatePiece_of_piece hp]

theorem State.closePiece_overflow (hp : s.piece i = some p) (h : s.own .minArea ≤ p.area)
    (hq : 16 ≤ s.cls.queue.length) : s.closePiece i p = { s with
      seg.slots := put s.seg.slots i
        (some (p.overflowed (Dest.ofCode (s.own .overflowDest)) (s.own .reportShift)))
      lsc.handoffs := s.lsc.handoffs ++ [.piece .segmenter i] } := by
  unfold State.closePiece
  rw [if_neg (Nat.not_lt.mpr h), if_neg (show ¬ s.cls.queue.length < Config.queueMax from Nat.not_lt.mpr hq),
    State.updatePiece_of_piece hp]
  rfl

/-- Outside SORTING no piece is continued (R77). -/
theorem State.dispose_of_not_sorting {eng : EngState} (hp : s.piece i = some p) (he : eng ≠ .sorting) :
    State.dispose eng s i = s.closePiece i p := by
  unfold State.dispose
  rw [hp]
  exact if_neg fun h => he h.2

theorem State.dispose_sorting (hp : s.piece i = some p) : State.dispose .sorting s i =
    if p.flags.long then (((s.closePiece i p).openPiece p.front true).map Prod.snd).getD (s.closePiece i p)
    else s.closePiece i p := by
  unfold State.dispose
  rw [hp]
  dsimp only
  refine if_congr (by simp) ?_ rfl
  cases (s.closePiece i p).openPiece p.front true <;> rfl

end Close

/-- Settles O24, by where a closing piece goes. -/
theorem closedPieceIsDisposedOf : Obligations.ClosedPieceIsDisposedOf := by
  intro s i p hp
  refine ⟨State.dispose_sorting hp, State.dispose_of_not_sorting hp nofun, State.closePiece_fines,
    State.closePiece_queued hp, fun harea hqueue => ?overflow⟩
  intro mean ratio sum limited
  have hsum : p.sumInd (s.own .reportShift) = sum := p.sumInd_eq _
  have hlimited : p.clampActs (s.own .reportShift) = decide limited := by
    rw [Bool.eq_iff_iff, Piece.clampActs_iff, decide_eq_true_eq, hsum, Piece.ratioIv_eq]
    exact Iff.rfl
  refine ⟨p.overflowClass (Dest.ofCode (s.own .overflowDest)) (s.own .reportShift), ?_, rfl, rfl, rfl, rfl, rfl, rfl, rfl,
    rfl⟩
  rw [State.closePiece_overflow hp harea hqueue, Piece.overflowed_eq, hlimited]

end Sys2Proof.Machine
end

section
/-! SUPPORT. The segments of a line (R64), the runs they touch (R65) and the cases of a link (R66 to R68, R82). -/
-- One proof at a time: elaborated side by side, the proofs take more stacks than the check's memory holds.
set_option Elab.async false
namespace Sys2Proof.Machine

/-! ### Segments -/

section Segments
variable (m : Marks)

/-- The OCCUPIED cells of a line as the list its runs are taken from. -/
theorem occupied_getElem? (p : Nat) :
    (m.toList.map (· == .occupied))[p]? = some true ↔ ∃ h : p < 96, look m ⟨p, h⟩ = .occupied := by
  rw [toList_eq_map_look, List.map_map, List.getElem?_map, Option.map_eq_some_iff]
  simp only [List.getElem?_eq_some_iff, List.length_finRange, List.getElem_finRange, Function.comp_apply, beq_iff_eq]
  constructor
  · rintro ⟨_, ⟨h, rfl⟩, hocc⟩
    exact ⟨h, hocc⟩
  · rintro ⟨h, hocc⟩
    exact ⟨_, ⟨h, rfl⟩, hocc⟩

theorem runsFrom_apart (i : Nat) (cur : Option Nat) (bs : List Bool) (hcur : ∀ a, cur = some a → a < i) :
    (runsFrom i cur bs).Pairwise fun a b => a.right + 1 < b.left := by
  induction i, cur, bs using runsFrom.induct with
  | case1 => exact .nil
  | case2 i a => exact List.pairwise_singleton _ _
  | case3 i t ih => exact ih fun a ha => by cases ha; omega
  | case4 i b t hb ih =>
    obtain rfl := Bool.eq_false_of_not_eq_true hb
    exact ih nofun
  | case5 i a t ih =>
    have ha := hcur a rfl
    exact ih fun x hx => by cases hx; omega
  | case6 i a b t hb ih =>
    obtain rfl := Bool.eq_false_of_not_eq_true hb
    have ha := hcur a rfl
    refine List.pairwise_cons.mpr ⟨fun r hr => ?_, ih nofun⟩
    obtain ⟨hle, hall⟩ := runsFrom_reached (i + 1) none t nofun r hr
    have hfrom := reached_from (hall r.left le_rfl hle)
    show i - 1 + 1 < r.left
    omega

theorem segmentsOf_apart : (segmentsOf m).Pairwise fun a b => a.right + 1 < b.left := runsFrom_apart 0 none _ nofun

/-- A segment lies on the belt and its cells are OCCUPIED. -/
theorem segmentsOf_occupied {r : Run} (hr : r ∈ segmentsOf m) : r.left ≤ r.right ∧ r.right < 96 ∧
    ∀ i : Fin 96, r.left ≤ i.val → i.val ≤ r.right → look m i = .occupied := by
  obtain ⟨hle, hall⟩ := runsFrom_reached 0 none _ nofun r hr
  have cell (p : Nat) (hl : r.left ≤ p) (hp : p ≤ r.right) := (occupied_getElem? m p).mp (reached_none.mp (hall p hl hp))
  exact ⟨hle, (cell r.right hle le_rfl).1, fun i hl hi => (cell i.val hl hi).2⟩

/-- OCCUPIED cells one beside the other lie in one segment. -/
theorem exists_segment {a b : Nat} (hab : a ≤ b) (hb : b < 96)
    (h : ∀ i : Fin 96, a ≤ i.val → i.val ≤ b → look m i = .occupied) :
    ∃ r ∈ segmentsOf m, r.left ≤ a ∧ b ≤ r.right :=
  exists_runsFrom 0 none _ nofun hab fun p hp hpb =>
    reached_none.mpr ((occupied_getElem? m p).mpr ⟨by omega, h ⟨p, by omega⟩ hp hpb⟩)

/-- Two segments that share a cell, or stand side by side, are one. -/
theorem segment_unique {r q : Run} (hr : r ∈ segmentsOf m) (hq : q ∈ segmentsOf m) (h₁ : r.left ≤ q.right + 1)
    (h₂ : q.left ≤ r.right + 1) : r = q := by
  by_contra hne
  have happart := (segmentsOf_apart m).imp (S := fun a b : Run => a.right + 1 < b.left ∨ b.right + 1 < a.left) .inl
  have : Std.Symm fun a b : Run => a.right + 1 < b.left ∨ b.right + 1 < a.left := ⟨fun _ _ => Or.symm⟩
  have := happart.forall hr hq hne
  omega

theorem mem_segmentsOf {r : Run} : r ∈ segmentsOf m ↔ r.left ≤ r.right ∧ r.right < 96 ∧
    (∀ i : Fin 96, r.left ≤ i.val → i.val ≤ r.right → look m i = .occupied) ∧
    (∀ i : Fin 96, i.val + 1 = r.left ∨ i.val = r.right + 1 → look m i ≠ .occupied) := by
  constructor
  · intro hr
    obtain ⟨hle, hlt, hocc⟩ := segmentsOf_occupied m hr
    refine ⟨hle, hlt, hocc, fun i hi hiocc => ?_⟩
    obtain ⟨q, hq, hql, hqr⟩ := exists_segment m (le_refl i.val) i.isLt
      fun j hj hji => (Fin.ext (le_antisymm hji hj) : j = i) ▸ hiocc
    obtain rfl := segment_unique m hr hq (by omega) (by omega)
    omega
  · rintro ⟨hle, hlt, hocc, hout⟩
    obtain ⟨q, hq, hql, hqr⟩ := exists_segment m hle hlt hocc
    obtain ⟨hqle, hqlt, hqocc⟩ := segmentsOf_occupied m hq
    have hleft : q.left = r.left := by
      by_contra hne
      exact hout ⟨r.left - 1, by omega⟩ (.inl (by dsimp only; omega)) (hqocc _ (by dsimp only; omega) (by dsimp only; omega))
    have hright : q.right = r.right := by
      by_contra hne
      exact hout ⟨r.right + 1, by omega⟩ (.inr rfl) (hqocc _ (by dsimp only; omega) (by dsimp only; omega))
    obtain rfl : q = r := by cases q; cases r; simp_all
    exact hq

/-! ### Counted cells -/

/-- The widths of the maximal runs of a list, together, are its true places. -/
theorem sum_width_runsFrom (i : Nat) (cur : Option Nat) (bs : List Bool) (hcur : ∀ a, cur = some a → a < i) :
    ((runsFrom i cur bs).map Run.width).sum = bs.count true + (cur.map (i - ·)).getD 0 := by
  induction i, cur, bs using runsFrom.induct with
  | case1 => rfl
  | case2 i a =>
    have ha := hcur a rfl
    simp only [runsFrom, List.map_cons, List.map_nil, List.sum_cons, List.sum_nil, Run.width, List.count_nil,
      Option.map_some, Option.getD_some]
    omega
  | case3 i t ih =>
    rw [runsFrom, if_pos rfl, ih fun a ha => by cases ha; omega]
    simp only [List.count_cons_self, Option.map_some, Option.getD_some, Option.map_none, Option.getD_none]
    omega
  | case4 i b t hb ih =>
    obtain rfl := Bool.eq_false_of_not_eq_true hb
    rw [runsFrom, if_neg hb, ih nofun]
    simp
  | case5 i a t ih =>
    have ha := hcur a rfl
    rw [runsFrom, if_pos rfl, ih fun x hx => by cases hx; omega]
    simp only [List.count_cons_self, Option.map_some, Option.getD_some]
    omega
  | case6 i a b t hb ih =>
    obtain rfl := Bool.eq_false_of_not_eq_true hb
    have ha := hcur a rfl
    rw [runsFrom, if_neg hb, List.map_cons, List.sum_cons, ih nofun]
    simp only [Run.width, List.count_cons, Option.map_some, Option.getD_some, Option.map_none, Option.getD_none]
    simp
    omega

theorem sum_width_segmentsOf : ((segmentsOf m).map Run.width).sum = occupiedCount m := by
  have hcells : (m.toList.map (· == .occupied)).count true = occupiedCount m := by
    rw [List.count, List.countP_map, List.countP_eq_length_filter]
    refine congrArg List.length (List.filter_congr fun x _ => ?_)
    cases x <;> rfl
  unfold segmentsOf runsOf
  rw [sum_width_runsFrom 0 none _ nofun, hcells]
  rfl

end Segments

/-! ### The match set -/

theorem State.mem_matchSet {s : State} {x : MatchRun} :
    x ∈ s.matchSet ↔ ∃ p, s.piece x.slot = some p ∧ p.phase = .openPiece ∧ x.run ∈ p.front := by
  unfold State.matchSet
  simp only [List.mem_flatMap, List.mem_map, State.mem_slotsIn]
  constructor
  · rintro ⟨i, ⟨p, hp, hopen⟩, r, hr, rfl⟩
    exact ⟨p, hp, hopen, by simpa [hp] using hr⟩
  · rintro ⟨p, hp, hopen, hrun⟩
    exact ⟨x.slot, ⟨p, hp, hopen⟩, x.run, by simpa [hp] using hrun, rfl⟩

theorem mem_touchedSlots {g : Run} {ms : List MatchRun} {i : Slot} :
    i ∈ touchedSlots g ms ↔ ∃ x ∈ ms, x.slot = i ∧ x.run.left ≤ g.right + 1 ∧ g.left ≤ x.run.right + 1 := by
  simp [touchedSlots, Run.touches]

theorem touchedSlots_sorted (g : Run) (ms : List MatchRun) : (touchedSlots g ms).Pairwise (· < ·) :=
  (List.pairwise_lt_finRange 256).filter _

/-! ### Linking one segment -/

section Link
variable {ln : Line} {eng : EngState} {k : Linking} {g : Run}

theorem Linking.link_opens (h : touchedSlots g k.matches_ = []) {i : Slot} {t : State} (he : eng = .sorting)
    (hs : ln.samples ≠ none) (ho : k.state.openPiece [] false = some (i, t)) :
    Linking.link ln eng k g = { k with state := t.updatePiece i (Piece.receive ln g) } := by
  unfold Linking.link
  rw [h]
  dsimp only
  rw [if_pos ⟨he, Option.isSome_iff_ne_none.mpr hs⟩, ho]

theorem Linking.link_leaves (h : touchedSlots g k.matches_ = [])
    (hno : eng ≠ .sorting ∨ ln.samples = none ∨ k.state.openPiece [] false = none) :
    Linking.link ln eng k g = k.leave g := by
  unfold Linking.link
  rw [h]
  dsimp only
  split_ifs with hmay
  · rw [hno.resolve_left (not_not.mpr hmay.1) |>.resolve_left (Option.isSome_iff_ne_none.mp hmay.2)]
  · rfl

theorem Linking.link_one {i : Slot} (h : touchedSlots g k.matches_ = [i]) :
    Linking.link ln eng k g = { k with state := k.state.updatePiece i (Piece.receive ln g) } := by
  unfold Linking.link
  rw [h]

theorem Linking.link_merges {i j : Slot} {more : List Slot} (h : touchedSlots g k.matches_ = i :: j :: more) :
    let into := k.state.survivor ln i (j :: more)
    let gone := (i :: j :: more).filter fun x => x ≠ into
    Linking.link ln eng k g = { k with
      state := (gone.foldl (State.absorb into) k.state).updatePiece into (Piece.receive ln g)
      matches_ := k.matches_.map fun m => if m.slot ∈ gone then { m with slot := into } else m } := by
  have hgone (into : Slot) : ((i :: j :: more).filter fun x => x != into) = (i :: j :: more).filter fun x => x ≠ into :=
    List.filter_congr fun x _ => by simp [bne, Bool.beq_eq_decide_eq]
  unfold Linking.link
  rw [h]
  dsimp only
  rw [hgone]
  simp only [List.contains_iff_mem]

/-- The pieces of the match set are in the table. -/
def Linking.grounded (k : Linking) : Prop := ∀ x ∈ k.matches_, k.state.piece x.slot ≠ none

/-- What a segment can come to: it is left untracked, received by a piece that has just opened, received by a touched
piece, or received by a survivor that has absorbed the other touched ones (R66 to R68, R82). -/
theorem Linking.link_cases (ln : Line) (eng : EngState) (k : Linking) (g : Run) :
    Linking.link ln eng k g = k.leave g ∨
    (∃ i t, ln.samples ≠ none ∧ k.state.openPiece [] false = some (i, t) ∧
      Linking.link ln eng k g = { k with state := t.updatePiece i (Piece.receive ln g) }) ∨
    ∃ into gone ms, (into :: gone).Nodup ∧ (∃ x ∈ k.matches_, x.slot = into) ∧
      (∀ x ∈ ms, x.slot ∉ gone ∧ ∃ y ∈ k.matches_, y.slot = x.slot) ∧
      Linking.link ln eng k g =
        ⟨(gone.foldl (State.absorb into) k.state).updatePiece into (Piece.receive ln g), ms, k.untracked⟩ := by
  have touched {i : Slot} (hi : i ∈ touchedSlots g k.matches_) : ∃ x ∈ k.matches_, x.slot = i := by
    obtain ⟨x, hx, hxi, _⟩ := mem_touchedSlots.mp hi
    exact ⟨x, hx, hxi⟩
  have hsorted := touchedSlots_sorted g k.matches_
  cases h : touchedSlots g k.matches_ with
  | nil =>
    cases hs : ln.samples with
    | none => exact .inl (Linking.link_leaves h (.inr (.inl hs)))
    | some sm =>
      by_cases he : eng = .sorting
      · cases ho : k.state.openPiece [] false with
        | none => exact .inl (Linking.link_leaves h (.inr (.inr ho)))
        | some x => exact .inr (.inl ⟨x.1, x.2, nofun, rfl, Linking.link_opens h he (by simp [hs]) ho⟩)
      · exact .inl (Linking.link_leaves h (.inl he))
  | cons i others =>
    cases others with
    | nil =>
      refine .inr (.inr ⟨i, [], k.matches_, by simp, touched (h ▸ List.mem_cons_self), fun x hx => ?_,
        Linking.link_one h⟩)
      exact ⟨List.not_mem_nil, x, hx, rfl⟩
    | cons j more =>
      rw [h] at hsorted
      obtain ⟨hinto, -⟩ := foldl_earliest
        (fun x => ((k.state.piece x).map (Piece.rankStart ln)).getD ln.start) i (j :: more) hsorted
      change k.state.survivor ln i (j :: more) ∈ _ at hinto
      have hlink := Linking.link_merges (eng := eng) (ln := ln) h
      generalize k.state.survivor ln i (j :: more) = into at hinto hlink
      have hfrom : ∃ y ∈ k.matches_, y.slot = into := touched (h ▸ hinto)
      refine .inr (.inr ⟨into, _, _, ?_, hfrom, ?_, hlink⟩)
      · exact List.nodup_cons.mpr ⟨by simp, (hsorted.imp fun hlt => hlt.ne).filter _⟩
      · intro x hx
        obtain ⟨y, hy, rfl⟩ := List.mem_map.mp hx
        split_ifs with hgone
        · exact ⟨by simp, hfrom⟩
        · exact ⟨hgone, y, hy, rfl⟩

end Link

end Sys2Proof.Machine
end

section
/-! PROOF. Linking loses no cell of a line (R66 to R68, R71, R73, R82). -/
-- One proof at a time: elaborated side by side, the proofs take more stacks than the check's memory holds.
set_option Elab.async false
namespace Sys2Proof.Machine

/-! ### The area in the table -/

/-- The area of the piece in a slot, 0 while the slot is FREE. -/
def State.slotArea (s : State) (i : Slot) : Nat := ((s.piece i).map Piece.area).getD 0

theorem State.slotArea_of_piece {s : State} {i : Slot} {p : Piece} (h : s.piece i = some p) : s.slotArea i = p.area := by
  unfold State.slotArea
  rw [h]
  rfl

theorem State.slotArea_of_free {s : State} {i : Slot} (h : s.piece i = none) : s.slotArea i = 0 := by
  unfold State.slotArea
  rw [h]
  rfl

/-- Where one slot changes, the area in the table changes as the slot's. -/
theorem State.tableArea_change {s t : State} (i : Slot) (h : ∀ j, j ≠ i → t.piece j = s.piece j) :
    t.tableArea + s.slotArea i = s.tableArea + t.slotArea i := by
  have split (u : State) : u.tableArea = u.slotArea i + ∑ j ∈ Finset.univ.erase i, u.slotArea j := by
    rw [Finset.add_sum_erase _ _ (Finset.mem_univ i), Fin.sum_univ_def]
    rfl
  have hrest : ∑ j ∈ Finset.univ.erase i, t.slotArea j = ∑ j ∈ Finset.univ.erase i, s.slotArea j := by
    refine Finset.sum_congr rfl fun j hj => ?_
    unfold State.slotArea
    rw [h j (Finset.ne_of_mem_erase hj)]
  rw [split t, split s, hrest]
  omega

theorem State.tableArea_congr {s t : State} (h : t.seg = s.seg) : t.tableArea = s.tableArea := by
  unfold State.tableArea
  rw [State.piece_congr h]

/-! ### What a link does to it -/

/-- The cells that a segment of a line brings: none where the line is missing (R71, R73). -/
def Line.broughtBy (ln : Line) (g : Run) : Nat := if ln.samples = none then 0 else g.width

theorem Piece.receive_area {g : Run} (hg : g.right < 96) (ln : Line) (p : Piece) :
    (p.receive ln g).area = p.area + ln.broughtBy g := by
  unfold Line.broughtBy
  cases hs : ln.samples with
  | none =>
    rw [p.receive_missing hs]
    rfl
  | some sm =>
    rw [p.receive_samples hs hg, if_neg nofun]
    dsimp only
    rw [Piece.accumulateCells_area, Run.length_beltCells hg]

theorem State.tableArea_receive {s : State} {i : Slot} {g : Run} (hi : s.piece i ≠ none) (hg : g.right < 96)
    (ln : Line) : (s.updatePiece i (Piece.receive ln g)).tableArea = s.tableArea + ln.broughtBy g := by
  obtain ⟨p, hp⟩ := Option.ne_none_iff_exists'.mp hi
  have hafter : (s.updatePiece i (Piece.receive ln g)).slotArea i = p.area + ln.broughtBy g := by
    rw [State.slotArea_of_piece (p := p.receive ln g) (by rw [State.piece_updatePiece_self, hp]; rfl),
      Piece.receive_area hg]
  have hchange := State.tableArea_change (s := s) (t := s.updatePiece i (Piece.receive ln g)) i
    fun j hj => by rw [State.piece_updatePiece, if_neg hj.symm]
  rw [hafter, State.slotArea_of_piece hp] at hchange
  omega

/-- An absorption moves the area of the absorbed piece into the survivor. -/
theorem State.tableArea_absorb {s : State} {into i : Slot} (hne : into ≠ i) (hinto : s.piece into ≠ none) :
    (State.absorb into s i).tableArea = s.tableArea := by
  obtain ⟨p, hp⟩ := Option.ne_none_iff_exists'.mp hinto
  cases hq : s.piece i with
  | none => unfold State.absorb; rw [hq]
  | some q =>
    have hpiece := State.piece_absorb hne hp hq
    have hjoin := State.tableArea_change (s := s) (t := s.setSlot into (some (Piece.combine q p))) into
      fun j hj => by rw [State.piece_setSlot, if_neg hj.symm]
    have hfree := State.tableArea_change (s := s.setSlot into (some (Piece.combine q p))) (t := State.absorb into s i) i
      fun j hj => by rw [hpiece, if_neg hj.symm, State.piece_setSlot]
    rw [State.slotArea_of_piece hp, State.slotArea_of_piece (State.piece_setSlot_self _ _ _)] at hjoin
    rw [State.slotArea_of_piece (p := q) (by rw [State.piece_setSlot, if_neg hne, hq]),
      State.slotArea_of_free (by rw [hpiece, if_pos rfl])] at hfree
    have harea : (Piece.combine q p).area = p.area + q.area := rfl
    omega

theorem State.piece_absorb_of_ne {s : State} {into i j : Slot} (hne : into ≠ i) (hinto : s.piece into ≠ none)
    (hj : j ≠ i) (h : s.piece j ≠ none) : (State.absorb into s i).piece j ≠ none := by
  obtain ⟨p, hp⟩ := Option.ne_none_iff_exists'.mp hinto
  cases hq : s.piece i with
  | none => unfold State.absorb; rwa [hq]
  | some q =>
    rw [State.piece_absorb hne hp hq, if_neg hj.symm]
    split_ifs
    · exact nofun
    · exact h

theorem State.foldl_absorb {into : Slot} (gone : List Slot) (s : State) (hgone : into ∉ gone) (hinto : s.piece into ≠ none) :
    (gone.foldl (State.absorb into) s).tableArea = s.tableArea ∧
      ∀ j, j ∉ gone → s.piece j ≠ none → (gone.foldl (State.absorb into) s).piece j ≠ none := by
  induction gone generalizing s with
  | nil => exact ⟨rfl, fun _ _ h => h⟩
  | cons i gone ih =>
    obtain ⟨hi, hrest⟩ := not_or.mp (mt List.mem_cons.mpr hgone)
    obtain ⟨harea, hkeeps⟩ := ih (State.absorb into s i) hrest (State.piece_absorb_of_ne hi hinto hi hinto)
    refine ⟨harea.trans (State.tableArea_absorb hi hinto), fun j hj h => ?_⟩
    obtain ⟨hji, hjrest⟩ := not_or.mp (mt List.mem_cons.mpr hj)
    exact hkeeps j hjrest (State.piece_absorb_of_ne hi hinto hji h)

theorem State.tableArea_opening {s : State} {i : Slot} {front : List Run} {continued : Bool} {t : State}
    (h : s.openPiece front continued = some (i, t)) :
    t.tableArea = s.tableArea ∧ t.piece i ≠ none ∧ ∀ j, s.piece j ≠ none → t.piece j ≠ none := by
  obtain ⟨b, hi, -, -, ht⟩ := s.openPiece_eq_some.mp h
  have hfree := (s.freeSlot?_eq_some.mp hi).1
  have hpiece (j : Slot) : t.piece j = if i = j then some (Piece.opened s.seg.nextNumber b s.rcs.generation front continued)
      else s.piece j := by
    dsimp only at ht
    rw [ht]
    exact State.piece_setSlot s i j _
  have hchange := State.tableArea_change (s := s) (t := t) i fun j hj => by rw [hpiece, if_neg hj.symm]
  rw [State.slotArea_of_free hfree, State.slotArea_of_piece ((hpiece i).trans (if_pos rfl))] at hchange
  have hempty : (Piece.opened s.seg.nextNumber b s.rcs.generation front continued).area = 0 := rfl
  refine ⟨by omega, by rw [hpiece, if_pos rfl]; exact Option.some_ne_none _, fun j hj => ?_⟩
  rw [hpiece]
  split_ifs
  · exact nofun
  · exact hj

theorem State.piece_updatePiece_ne_none {s : State} {i j : Slot} {f : Piece → Piece} (h : s.piece j ≠ none) :
    (s.updatePiece i f).piece j ≠ none := by
  rw [State.piece_updatePiece]
  split_ifs with hij
  · subst hij
    simpa using h
  · exact h

/-- One segment linked: the match set stays grounded, and the segment's cells go to the table or are untracked. -/
theorem Linking.link_area (ln : Line) (eng : EngState) {k : Linking} {g : Run} (hk : k.grounded) (hg : g.right < 96) :
    (Linking.link ln eng k g).grounded ∧
    (ln.samples ≠ none → (Linking.link ln eng k g).state.tableArea + ((Linking.link ln eng k g).untracked.map Run.width).sum =
      k.state.tableArea + (k.untracked.map Run.width).sum + g.width) ∧
    (ln.samples = none → (Linking.link ln eng k g).state.tableArea = k.state.tableArea) := by
  have brought : (ln.samples ≠ none → ln.broughtBy g = g.width) ∧ (ln.samples = none → ln.broughtBy g = 0) :=
    ⟨fun h => if_neg h, fun h => if_pos h⟩
  obtain h | ⟨i, t, hs, ho, h⟩ | ⟨into, gone, ms, hnodup, ⟨x, hx, hxi⟩, hms, h⟩ := Linking.link_cases ln eng k g
  · rw [h]
    refine ⟨hk, fun _ => ?_, fun _ => rfl⟩
    show k.state.tableArea + ((k.untracked ++ [g]).map Run.width).sum = _
    simp
    omega
  · obtain ⟨harea, hin, hkeeps⟩ := State.tableArea_opening ho
    have hreceive := State.tableArea_receive hin hg ln
    rw [h]
    refine ⟨fun x hx => State.piece_updatePiece_ne_none (hkeeps _ (hk x hx)), fun hs => ?_, fun hn => absurd hn hs⟩
    rw [brought.1 hs] at hreceive
    dsimp only
    omega
  · obtain ⟨hinto, -⟩ := List.nodup_cons.mp hnodup
    have hfrom : k.state.piece into ≠ none := hxi ▸ hk x hx
    obtain ⟨harea, hkeeps⟩ := State.foldl_absorb gone k.state hinto hfrom
    have hreceive := State.tableArea_receive (hkeeps into hinto hfrom) hg ln
    rw [h]
    refine ⟨fun y hy => ?_, fun hs => ?_, fun hn => ?_⟩
    · obtain ⟨hy, z, hz, hzy⟩ := hms y hy
      exact State.piece_updatePiece_ne_none (hkeeps _ hy (hzy ▸ hk z hz))
    · rw [brought.1 hs] at hreceive
      dsimp only
      omega
    · rw [brought.2 hn] at hreceive
      dsimp only
      omega

theorem Linking.foldl_area (ln : Line) (eng : EngState) (gs : List Run) (hgs : ∀ g ∈ gs, g.right < 96) (k : Linking)
    (hk : k.grounded) :
    (ln.samples ≠ none → (gs.foldl (Linking.link ln eng) k).state.tableArea +
        ((gs.foldl (Linking.link ln eng) k).untracked.map Run.width).sum =
      k.state.tableArea + (k.untracked.map Run.width).sum + (gs.map Run.width).sum) ∧
    (ln.samples = none → (gs.foldl (Linking.link ln eng) k).state.tableArea = k.state.tableArea) := by
  induction gs generalizing k with
  | nil => exact ⟨fun _ => by simp, fun _ => rfl⟩
  | cons g gs ih =>
    obtain ⟨hg, hrest⟩ := List.forall_mem_cons.mp hgs
    obtain ⟨hgrounded, hframe, hmissing⟩ := Linking.link_area ln eng hk hg
    obtain ⟨ihframe, ihmissing⟩ := ih hrest _ hgrounded
    refine ⟨fun hs => (ihframe hs).trans ?_, fun hn => (ihmissing hn).trans (hmissing hn)⟩
    rw [hframe hs, List.map_cons, List.sum_cons]
    omega

theorem State.matchSet_grounded (s : State) (us : List Run) : Linking.grounded ⟨s, s.matchSet, us⟩ := fun x hx => by
  obtain ⟨p, hp, -⟩ := State.mem_matchSet.mp hx
  exact hp ▸ nofun

/-- Settles O19: each link keeps what is in the table and untracked together, but for the segment it brings. -/
theorem linkingLosesNoCell : Obligations.LinkingLosesNoCell := by
  intro s ln
  obtain ⟨hframe, hmissing⟩ := Linking.foldl_area ln s.eng.state (segmentsOf ln.marks)
    (fun g hg => (segmentsOf_occupied _ hg).2.1) ⟨s, s.matchSet, []⟩ (s.matchSet_grounded [])
  simp only [sum_width_segmentsOf, List.map_nil, List.sum_nil, Nat.add_zero] at hframe
  exact ⟨hframe, hmissing⟩

end Sys2Proof.Machine
end

section
/-! PROOF. SEG_TAKE_LINE: the segments linked, the line ended, the closing pieces disposed of, and what the segmenter does
not reach (R63 to R68, R74, R78, R82). -/
-- One proof at a time: elaborated side by side, the proofs take more stacks than the check's memory holds.
set_option Elab.async false
namespace Sys2Proof.Machine

/-! ### What the segmenter does not reach -/

/-- What stands beside the piece table, the link and the counts. -/
def State.aside (s : State) : Vector (List Entry) 48 × Vdr × Option Walk × Blt × FaultFlags :=
  (s.lsc.lanes, s.vdr, s.cls.walk, s.blt, s.eng.flags)

/-- What stands beside the piece table is left as it is, and so is the count of untracked cells. -/
def State.Beside (s t : State) : Prop := t.aside = s.aside ∧ t.sta.get .untracked = s.sta.get .untracked

/-- Every part but the count of untracked cells. -/
def Part.tracked (x : Part) : Prop := x ≠ .count .untracked

theorem Part.tracked_endings : Endings Part.tracked := fun c hc e => by cases e; cases hc

section Beside
variable (s : State)

theorem State.Beside.refl : s.Beside s := ⟨rfl, rfl⟩

theorem State.Beside.trans {s t u : State} (h : s.Beside t) (g : t.Beside u) : s.Beside u :=
  ⟨g.1.trans h.1, g.2.trans h.2⟩

theorem State.Beside.foldl {α : Type} {f : State → α → State} (h : ∀ t a, State.Beside t (f t a)) (as : List α)
    (s : State) : s.Beside (as.foldl f s) := by
  induction as generalizing s with
  | nil => exact .refl s
  | cons a as ih => exact (h s a).trans (ih _)

theorem State.count_beside {c : Counter} (hc : c ≠ .untracked) (n : Nat) : s.Beside (s.count c n) :=
  ⟨rfl, by rw [State.get_count, if_neg hc]⟩

theorem State.offer_beside (n : Notice) (hn : n.isPiece = false) : s.Beside (s.offer n) :=
  ⟨by rw [State.offer_eq]; rfl, (s.offer_life Part.tracked_endings n hn).count_eq fun h => h rfl⟩

theorem State.freeSlot_beside (i : Slot) : s.Beside (s.freeSlot i) := by
  refine ⟨?_, (s.freeSlot_life Part.tracked_endings i).count_eq fun h => h rfl⟩
  have hrelease : (s.releaseSlot i).aside = s.aside := by unfold State.releaseSlot; split <;> rfl
  rw [State.freeSlot, State.judgeDrained_eq]
  exact hrelease

theorem State.openPiece_beside {front : List Run} {continued : Bool} {x : Slot × State}
    (h : s.openPiece front continued = some x) : s.Beside x.2 := by
  obtain ⟨b, -, -, -, hx⟩ := s.openPiece_eq_some.mp h
  rw [hx]
  exact ⟨rfl, by rw [State.opening, State.get_count, if_neg nofun]⟩

theorem State.absorb_beside (into i : Slot) : s.Beside (State.absorb into s i) := by
  unfold State.absorb
  split
  · exact .refl s
  · next q _ =>
    have joined : s.Beside ((s.updatePiece into (Piece.combine q)).count .absorbed 1) :=
      State.count_beside (s.updatePiece into (Piece.combine q)) (c := .absorbed) nofun 1
    obtain ⟨haside, hcount⟩ := joined.trans (State.freeSlot_beside _ i)
    exact ⟨haside, hcount⟩

theorem State.fines_beside (i : Slot) (p : Piece) : s.Beside (s.fines i p) := by
  have freed := (s.freeSlot_beside i).trans (State.count_beside _ (c := .fines) nofun 1)
  unfold State.fines
  dsimp only
  split_ifs
  · exact freed.trans (State.offer_beside _ _ rfl)
  · exact freed.trans (State.count_beside _ (c := .finesSuppressed) nofun 1)

theorem State.closePiece_beside (i : Slot) (p : Piece) : s.Beside (s.closePiece i p) := by
  unfold State.closePiece
  split_ifs
  · exact s.fines_beside i p
  · exact .refl s
  · exact .refl s

theorem State.dispose_beside (eng : EngState) (i : Slot) : s.Beside (State.dispose eng s i) := by
  unfold State.dispose
  split
  · exact .refl s
  · next p _ =>
    have closed := s.closePiece_beside i p
    dsimp only
    split_ifs
    · split
      · next h => exact closed.trans (State.openPiece_beside _ h)
      · exact closed
    · exact closed

end Beside

/-! ### The untracked segments -/

/-- Linking the segments of a line: those left untracked stand in the order of the line, their cells are counted, and
what stands beside the piece table is left as it is (R82). -/
theorem Linking.foldl_untracked (ln : Line) (eng : EngState) (gs : List Run) (k : Linking) :
    ∃ us, us.Sublist gs ∧ (gs.foldl (Linking.link ln eng) k).untracked = k.untracked ++ us ∧
      (gs.foldl (Linking.link ln eng) k).state.aside = k.state.aside ∧
      (k.state.sta.get .untracked ≤ 4294967295 → (gs.foldl (Linking.link ln eng) k).state.sta.get .untracked =
        min 4294967295 (k.state.sta.get .untracked + (us.map Run.width).sum)) := by
  induction gs generalizing k with
  | nil => exact ⟨[], .slnil, by simp, rfl, fun h => by simpa using h⟩
  | cons g gs ih =>
    obtain ⟨us, hsub, huntracked, haside, hcount⟩ := ih (Linking.link ln eng k g)
    rw [List.foldl_cons]
    have tracks (hb : k.state.Beside (Linking.link ln eng k g).state)
        (hu : (Linking.link ln eng k g).untracked = k.untracked) : ∃ us, us.Sublist (g :: gs) ∧
          (gs.foldl (Linking.link ln eng) (Linking.link ln eng k g)).untracked = k.untracked ++ us ∧
          (gs.foldl (Linking.link ln eng) (Linking.link ln eng k g)).state.aside = k.state.aside ∧
          (k.state.sta.get .untracked ≤ 4294967295 →
            (gs.foldl (Linking.link ln eng) (Linking.link ln eng k g)).state.sta.get .untracked =
              min 4294967295 (k.state.sta.get .untracked + (us.map Run.width).sum)) := by
      rw [hu] at huntracked
      rw [hb.2] at hcount
      exact ⟨us, hsub.cons g, huntracked, haside.trans hb.1, hcount⟩
    obtain h | ⟨i, t, -, ho, h⟩ | ⟨into, gone, ms, -, -, -, h⟩ := Linking.link_cases ln eng k g
    · have hget : (k.leave g).state.sta.get .untracked = min 4294967295 (k.state.sta.get .untracked + g.width) :=
        (State.get_count _ _ _ _).trans (if_pos rfl)
      rw [h] at huntracked haside hcount ⊢
      rw [hget] at hcount
      refine ⟨g :: us, hsub.cons_cons g, huntracked.trans (List.append_assoc _ _ _), haside, fun _ => ?_⟩
      rw [hcount (Nat.min_le_left _ _), List.map_cons, List.sum_cons]
      omega
    · have hb := k.state.openPiece_beside ho
      exact tracks (by rw [h]; exact hb) (by rw [h])
    · have hb : k.state.Beside (gone.foldl (State.absorb into) k.state) :=
        .foldl (fun t i => t.absorb_beside into i) gone k.state
      exact tracks (by rw [h]; exact hb) (by rw [h])

/-! ### Every OPEN piece at the end of the line -/

theorem State.foldl_updatePiece (f : Piece → Piece) (is : List Slot) (hnodup : is.Nodup) (s : State) (i : Slot) :
    (is.foldl (fun t i => t.updatePiece i f) s).piece i = if i ∈ is then (s.piece i).map f else s.piece i := by
  induction is generalizing s with
  | nil => rfl
  | cons j is ih =>
    obtain ⟨hj, hrest⟩ := List.nodup_cons.mp hnodup
    rw [List.foldl_cons, ih hrest, State.piece_updatePiece]
    by_cases hij : j = i
    · subst hij
      simp [hj]
    · simp [hij, Ne.symm hij]

theorem State.foldl_updatePiece_eq (f : Piece → Piece) (is : List Slot) (s : State) :
    is.foldl (fun t i => t.updatePiece i f) s =
      { s with seg.slots := (is.foldl (fun t i => t.updatePiece i f) s).seg.slots } := by
  induction is generalizing s with
  | nil => rfl
  | cons j is ih => exact ih _

theorem State.endLineAll_eq (s : State) (ln : Line) :
    s.endLineAll ln = { s with seg.slots := (s.endLineAll ln).seg.slots } :=
  State.foldl_updatePiece_eq _ _ s

theorem State.piece_endLineAll (s : State) (ln : Line) (i : Slot) : (s.endLineAll ln).piece i =
    (s.piece i).map fun p => if p.phase = .openPiece then (p.endLine ln).1 else p := by
  refine (State.foldl_updatePiece _ _ (s.nodup_slotsIn .openPiece) s i).trans ?_
  simp only [State.mem_slotsIn]
  cases h : s.piece i with
  | none => simp
  | some p => by_cases hp : p.phase = .openPiece <;> simp [hp]

theorem exec_segTakeLine_running {s : State} {ln : Line} {rest : List Line} (h : s.segLines = ln :: rest)
    (hrun : s.eng.state = .sorting ∨ s.eng.state = .draining) :
    exec .segTakeLine s = .next (State.segmentLine ln { s with segLines := rest }) := by
  show execSegTakeLine s = _
  unfold execSegTakeLine
  rw [h]
  exact if_pos hrun

theorem exec_segTakeLine_resting {s : State} {ln : Line} {rest : List Line} (h : s.segLines = ln :: rest)
    (hrest : ¬ (s.eng.state = .sorting ∨ s.eng.state = .draining)) :
    exec .segTakeLine s = .next { s with segLines := rest } := by
  show execSegTakeLine s = _
  unfold execSegTakeLine
  rw [h]
  exact if_neg hrest

/-- Settles O18: segments, match set and links case by case, and the line as links, line end and disposals in turn. -/
theorem segmenterTakesLine : Obligations.SegmenterTakesLine := by
  refine ⟨fun m => ⟨fun r => mem_segmentsOf m, segmentsOf_apart m⟩, fun s m => State.mem_matchSet,
    fun g ms => ⟨touchedSlots_sorted g ms, fun i => mem_touchedSlots⟩, fun ln eng k g => ?link,
    fun s ln rest hln => ⟨fun hsort hdrain => ?resting, fun hrun => ?running⟩⟩
  case link =>
    exact ⟨fun h => ⟨fun i t => Linking.link_opens h, Linking.link_leaves h⟩, fun i => Linking.link_one,
      fun i j more => Linking.link_merges⟩
  case resting => exact exec_segTakeLine_resting hln (not_or.mpr ⟨hsort, hdrain⟩)
  case running =>
    intro u k e d
    obtain ⟨us, hsub, huntracked, hlinked, hcount⟩ :=
      Linking.foldl_untracked ln s.eng.state (segmentsOf ln.marks) ⟨u, u.matchSet, []⟩
    have hus : k.untracked = us := huntracked
    have disposed : e.Beside d := .foldl (fun t i => t.dispose_beside s.eng.state i) _ e
    have hended : e.aside = k.state.aside ∧ e.sta = k.state.sta := by
      rw [show e = _ from k.state.endLineAll_eq ln]
      exact ⟨rfl, rfl⟩
    have haside : d.aside = s.aside := (disposed.1.trans hended.1).trans hlinked
    have htotal : s.sta.get .untracked ≤ 4294967295 → d.sta.get .untracked =
        min 4294967295 (s.sta.get .untracked + (k.untracked.map Run.width).sum) := fun h => by
      rw [disposed.2, hended.2, hus]
      exact hcount h
    simp only [State.aside, Prod.mk.injEq] at haside
    obtain ⟨hlanes, hvdr, hwalk, hblt, hflags⟩ := haside
    refine ⟨k.state.endLineAll_eq ln, k.state.piece_endLineAll ln, hus ▸ hsub, u.segmentLine ln,
      exec_segTakeLine_running hln hrun, rfl, ?_, u.segmentLine_steady ln, ?_⟩
    · have hline : (u.segmentLine ln).sta = d.sta := by
        unfold State.segmentLine
        dsimp only
        split_ifs <;> rfl
      rw [hline]
      exact htotal
    · have hline : (u.segmentLine ln).aside = d.aside := by
        unfold State.segmentLine
        dsimp only
        split_ifs <;> rfl
      simp only [State.aside, Prod.mk.injEq] at hline
      obtain ⟨hlanes', hvdr', hwalk', hblt', hflags'⟩ := hline
      exact ⟨hlanes'.trans hlanes, hvdr'.trans hvdr, hwalk'.trans hwalk, hblt'.trans hblt, hflags'.trans hflags⟩

end Sys2Proof.Machine
end

section
/-! PROOF. Notices: their judgment when offered and the layout of their bodies (R79, R194, R195, spec/10 sections 10.8.2
and 10.8.6). -/
-- One proof at a time: elaborated side by side, the proofs take more stacks than the check's memory holds.
set_option Elab.async false
namespace Sys2Proof.Machine

/-! ### A notice offered -/

section Offer
variable {s : State}

theorem State.masked_iff (w : Nat) : s.masked w = true ↔ s.own .noticeMask / w % 2 = 1 := beq_iff_eq

theorem State.offer_suppressed {n : Notice} (h : s.suppresses n = true) : s.offer n = s.count .suppressed 1 := if_pos h

theorem State.offer_placed {n : Notice} (h : s.suppresses n ≠ true) (hroom : s.lnk.notices.length < 64) :
    s.offer n = { s with lnk.notices := s.lnk.notices ++ [n] } := by
  unfold State.offer
  rw [if_neg h]
  exact if_pos hroom

theorem State.offer_lost {n : Notice} (h : s.suppresses n ≠ true) (hfull : 64 ≤ s.lnk.notices.length) :
    s.offer n = s.count .noticesLost 1 := by
  unfold State.offer
  rw [if_neg h]
  exact if_neg (Nat.not_lt.mpr hfull)

variable {p : Piece} {o : PieceOutcome}

theorem State.offerPiece_suppressed (h : s.masked 1 = true) : s.offerPiece p o = s.count .suppressed 1 := if_pos h

theorem State.offerPiece_lost (h : s.masked 1 ≠ true) (hfull : 56 ≤ s.lnk.notices.length) : s.offerPiece p o =
    State.count .piecesLost 1 { s with lnk.pendingLost := min 65535 (s.lnk.pendingLost + 1) } := by
  unfold State.offerPiece
  rw [if_neg h]
  exact if_pos hfull

theorem State.offerPiece_placed (h : s.masked 1 ≠ true) (hroom : s.lnk.notices.length < 56) : s.offerPiece p o = { s with
    lnk.notices := s.lnk.notices ++
      [.piece (decide (s.lnk.notices.length < s.own .thinLevel)) p o s.lnk.pendingLost]
    lnk.pendingLost := 0 } := by
  unfold State.offerPiece
  rw [if_neg h]
  exact if_neg (Nat.not_le.mpr hroom)

end Offer

/-! ### Codes -/

theorem PieceClass.code_lt (c : PieceClass) : c.code < 256 := by
  cases c with
  | cls c => exact c.isLt.trans (by decide)
  | unresolved => decide
  | overflow => decide

theorem Dest.code_lt (d : Dest) : d.code < 256 := by cases d <;> decide

theorem PieceOutcome.code_lt (o : PieceOutcome) : o.code < 256 := by cases o <;> decide

theorem EngState.code_lt (e : EngState) : e.code < 256 := by cases e <;> decide

theorem EngCause.code_lt (c : EngCause) : c.code < 256 := by cases c <;> decide

theorem ResetKind.code_lt (k : ResetKind) : k.code < 256 := by cases k <;> decide

theorem SurveyStatus.code_lt (st : SurveyStatus) : st.code < 256 := by cases st <;> decide

theorem LoadState.code_lt (l : LoadState) : l.code < 256 := by cases l <;> decide

theorem FaultReport.code_lt (k : FaultReport) : k.code < 256 := by
  cases k with
  | raised k => cases k <;> decide
  | airRestored => decide

theorem bit_le (b : Bool) (w : Nat) : bit b w ≤ w := by cases b <;> simp [bit]

theorem FaultFlags.number_lt (g : FaultFlags) : g.number < 256 := by
  have h1 := bit_le g.sensorLost 1
  have h2 := bit_le g.beltReversed 2
  have h4 := bit_le g.positionExhausted 4
  have h8 := bit_le g.airLost 8
  have h16 := bit_le g.valveFault 16
  unfold FaultFlags.number
  omega

theorem PieceFlags.number_lt (g : PieceFlags) : g.number < 65536 := by
  have h1 := bit_le g.edge 1
  have h2 := bit_le g.disturbed 2
  have h4 := bit_le g.gapfill 4
  have h8 := bit_le g.merged 8
  have h16 := bit_le g.long 16
  have h32 := bit_le g.continued 32
  have h64 := bit_le g.clipped 64
  have h128 := bit_le g.limited 128
  have h256 := bit_le g.queueFull 256
  unfold PieceFlags.number
  omega

/-! ### Bodies without a piece -/

theorem engineBody_fields (old new : EngState) (cause : EngCause) (flags : FaultFlags) (pos : Nat) (kind : ResetKind) :
    let b := (Notice.engine old new cause flags pos kind).body
    b.length = 11 ∧ byteAt b 0 = old.code ∧ byteAt b 1 = new.code ∧ byteAt b 2 = cause.code ∧
      byteAt b 3 = flags.number ∧ field b 4 6 = pos % 256 ^ 6 ∧ byteAt b 10 = kind.code := by
  simp [Notice.body, byteAt, field_append_left, field_append_right, field_toBytes, Nat.mod_eq_of_lt old.code_lt,
    Nat.mod_eq_of_lt new.code_lt, Nat.mod_eq_of_lt cause.code_lt, Nat.mod_eq_of_lt flags.number_lt,
    Nat.mod_eq_of_lt kind.code_lt]

theorem faultBody_fields (k : FaultReport) (eng : EngState) (flags : FaultFlags) (pos : Nat) :
    let b := (Notice.fault k eng flags pos).body
    b.length = 9 ∧ byteAt b 0 = k.code ∧ byteAt b 1 = eng.code ∧ byteAt b 2 = flags.number ∧
      field b 3 6 = pos % 256 ^ 6 := by
  simp [Notice.body, byteAt, field_append_left, field_append_right, field_toBytes, Nat.mod_eq_of_lt k.code_lt,
    Nat.mod_eq_of_lt eng.code_lt, Nat.mod_eq_of_lt flags.number_lt]

theorem surveyEndBody_fields (st : SurveyStatus) (good : Nat) :
    let b := (Notice.surveyEnd st good).body
    b.length = 3 ∧ byteAt b 0 = st.code ∧ field b 1 2 = good % 65536 := by
  simp [Notice.body, byteAt, field_append_left, field_append_right, field_toBytes, Nat.mod_eq_of_lt st.code_lt]

theorem loadBody_fields (old new : LoadState) (permille merges : Nat) (seq : SeqNo) :
    let b := (Notice.load old new permille merges seq).body
    b.length = 8 ∧ byteAt b 0 = old.code ∧ byteAt b 1 = new.code ∧ field b 2 2 = permille % 65536 ∧
      field b 4 2 = merges % 65536 ∧ field b 6 2 = seq.toNat := by
  simp [Notice.body, byteAt, field_append_left, field_append_right, field_toBytes, Nat.mod_eq_of_lt old.code_lt,
    Nat.mod_eq_of_lt new.code_lt, Nat.mod_eq_of_lt seq.isLt]

theorem CapTrigger.classCode_lt (t : CapTrigger) : t.classCode < 256 := by
  cases t with
  | now => decide
  | onClass c => exact c.code_lt

theorem captureEndBody_fields (mode : CapMode) (trigger : CapTrigger) (records : Nat) (oldest newest : SeqNo)
    (piece : Option PieceNo) :
    let b := (Notice.captureEnd mode trigger records oldest newest piece).body
    b.length = 14 ∧ byteAt b 0 = mode.code ∧ byteAt b 1 = trigger.code ∧ byteAt b 2 = trigger.classCode ∧
      field b 3 2 = records % 65536 ∧ field b 5 2 = oldest.toNat ∧ field b 7 2 = newest.toNat ∧
      (∀ n, piece = some n → byteAt b 9 = 0 ∧ field b 10 4 = n.toNat) ∧
      (piece = none → byteAt b 9 = 1 ∧ field b 10 4 = 0) := by
  have hmode : mode.code % 256 = mode.code := by cases mode <;> rfl
  have htrigger : trigger.code % 256 = trigger.code := by cases trigger <;> rfl
  refine ⟨?_, ?_, ?_, ?_, ?_, ?_, ?_, ?some, ?none⟩
  case some =>
    rintro n rfl
    simp [Notice.body, byteAt, field_append_left, field_append_right, field_toBytes, bit, Nat.mod_eq_of_lt n.isLt]
  case none =>
    rintro rfl
    simp [Notice.body, byteAt, field_append_left, field_append_right, field_toBytes, bit]
  all_goals
    simp [Notice.body, byteAt, field_append_left, field_append_right, field_toBytes, hmode, htrigger,
      Nat.mod_eq_of_lt trigger.classCode_lt, Nat.mod_eq_of_lt oldest.isLt, Nat.mod_eq_of_lt newest.isLt]

/-! ### The body of a FINES notice -/

/-- Number and position of a line where the record has it, zeros where not. -/
theorem lineBytes_fields (x : Option (SeqNo × Nat)) :
    (∀ l, x = some l → field (lineBytes x) 0 2 = l.1.toNat ∧ field (lineBytes x) 2 6 = l.2 % 256 ^ 6) ∧
      (x = none → field (lineBytes x) 0 2 = 0 ∧ field (lineBytes x) 2 6 = 0) := by
  refine ⟨?_, ?_⟩
  · rintro l rfl
    simp [lineBytes, field_append_left, field_append_right, field_toBytes, Nat.mod_eq_of_lt l.1.isLt]
  · rintro rfl
    exact ⟨rfl, rfl⟩

/-- The mark of a record with first line, last line and extents (log entry 17). -/
theorem Piece.extents_mark (p : Piece) :
    bit p.extents?.isSome 4 = if p.first ≠ none ∧ p.last ≠ none ∧ p.extent ≠ none then 4 else 0 := by
  unfold Piece.extents?
  cases p.first <;> cases p.last <;> cases p.extent <;> simp [bit]

theorem finesBody_fields (p : Piece) :
    let b := (Notice.fines p).body
    b.length = 37 ∧ field b 0 4 = p.number.toNat ∧ field b 4 2 = p.gen.toNat ∧
    byteAt b 6 = (if p.first ≠ none ∧ p.last ≠ none ∧ p.extent ≠ none then 4 else 0) ∧
    field b 7 2 = field (lineBytes p.first) 0 2 ∧ field b 9 6 = field (lineBytes p.first) 2 6 ∧
    field b 15 2 = field (lineBytes p.last) 0 2 ∧ field b 17 6 = field (lineBytes p.last) 2 6 ∧
    field b 23 2 = p.spanned % 65536 ∧ field b 25 2 = p.contributed % 65536 ∧
    byteAt b 27 = (p.extent.map Run.left).getD 0 % 256 ∧ byteAt b 28 = (p.extent.map Run.right).getD 0 % 256 ∧
    field b 29 4 = p.area % 256 ^ 4 ∧ field b 33 2 = p.absorbed % 65536 ∧ field b 35 2 = p.flags.number := by
  have hmark : bit p.extents?.isSome 4 % 256 = bit p.extents?.isSome 4 :=
    Nat.mod_eq_of_lt ((bit_le _ 4).trans_lt (by decide))
  dsimp only
  rw [← p.extents_mark]
  simp [Notice.body, Piece.finesBody, byteAt, field_append_left, field_append_right, field_toBytes, length_lineBytes,
    Nat.mod_eq_of_lt p.number.isLt, Nat.mod_eq_of_lt p.gen.isLt, Nat.mod_eq_of_lt p.flags.number_lt, hmark]

end Sys2Proof.Machine
end

section
/-! PROOF. The body of a PIECE notice, and the settled statement on notices (R194, R195, spec/10 section 10.8.2). -/
-- One proof at a time: elaborated side by side, the proofs take more stacks than the check's memory holds.
set_option Elab.async false
namespace Sys2Proof.Machine

/-! ### The parts of the body -/

section Body
variable (p : Piece)

/-- The class byte and the destination byte, 255 each for a piece without a classification. -/
def Piece.classBytes : Nat × Nat := (p.classed.map fun c => (c.cls.code, c.dest.code)).getD (255, 255)

/-- The marks of a PIECE notice: chain fault, classification, extents. -/
def Piece.partMarks : Nat :=
  bit ((p.classed.map Classification.chainFault).getD false) 1 + bit p.classed.isSome 2 + bit p.extents?.isSome 4

/-- First and last position and the extents, or zeros. -/
def Piece.lineFields : List Byte :=
  (p.extents?.map fun y => toBytes 6 y.1.2 ++ (toBytes 6 y.2.1.2 ++ (toBytes 1 y.2.2.left ++ toBytes 1 y.2.2.right))).getD
    (toBytes 14 0)

/-- The fourteen features sent, or zeros. -/
def Piece.featureFields : List Byte :=
  (p.classed.map fun c =>
    (c.features.toList.take 12 ++ (c.features.toList.drop 13).take 2).flatMap (intBytes 2)).getD (toBytes 28 0)

/-- The twelve tallies, or zeros. -/
def Piece.tallyFields : List Byte := if p.classed.isSome then p.tallies.list.flatMap sat16 else toBytes 24 0

/-- The thirteen bytes of both forms. -/
def Piece.headFields (full : Bool) (o : PieceOutcome) (lost : Nat) : List Byte :=
  toBytes 1 (bit full 1) ++ (toBytes 4 p.number.toNat ++ (toBytes 1 p.classBytes.1 ++ (toBytes 1 p.classBytes.2 ++
    (toBytes 1 o.code ++ (toBytes 2 p.flags.number ++ (toBytes 1 p.partMarks ++ toBytes 2 lost))))))

@[simp] theorem Piece.length_headFields (full : Bool) (o : PieceOutcome) (lost : Nat) :
    (p.headFields full o lost).length = 13 := by simp [Piece.headFields]

@[simp] theorem Piece.length_lineFields : p.lineFields.length = 14 := by
  unfold Piece.lineFields
  cases p.extents? <;> simp

@[simp] theorem Piece.length_featureFields : p.featureFields.length = 28 := by
  unfold Piece.featureFields
  cases p.classed with
  | none => simp
  | some c =>
    rw [Option.map_some, Option.getD_some, length_flatMap_blocks (m := 2) fun _ _ => length_intBytes 2 _]
    simp

@[simp] theorem Piece.length_tallyFields : p.tallyFields.length = 24 := by
  unfold Piece.tallyFields
  split_ifs
  · exact length_flatMap_sat16 _
  · exact length_toBytes _ _

theorem Piece.noticeBody_eq (full : Bool) (o : PieceOutcome) (lost : Nat) : p.noticeBody full o lost =
    p.headFields full o lost ++ if full then
      toBytes 2 p.gen.toNat ++ (p.lineFields ++ (toBytes 4 p.area ++ (p.featureFields ++
        (toBytes 1 ((p.classed.map Classification.steps).getD 0) ++ (toBytes 2 p.absorbed ++ p.tallyFields)))))
      else [] := by
  have hlines : p.lineFields = match p.extents? with
      | some (f, l, x) => toBytes 6 f.2 ++ toBytes 6 l.2 ++ toBytes 1 x.left ++ toBytes 1 x.right
      | none => toBytes 14 0 := by
    unfold Piece.lineFields
    cases p.extents? with
    | none => rfl
    | some y => simp only [Option.map_some, Option.getD_some, List.append_assoc]
  unfold Piece.noticeBody Piece.headFields Piece.tallyFields Piece.classBytes Piece.featureFields Piece.partMarks
  rw [hlines]
  cases p.classed with
  | none => cases full <;> simp only [List.append_assoc] <;> rfl
  | some c => cases full <;> simp only [List.append_assoc] <;> rfl

/-! ### The head -/

theorem Piece.classBytes_lt : p.classBytes.1 < 256 ∧ p.classBytes.2 < 256 := by
  unfold Piece.classBytes
  cases p.classed with
  | none => exact ⟨by decide, by decide⟩
  | some c => exact ⟨c.cls.code_lt, c.dest.code_lt⟩

theorem Piece.partMarks_eq : p.partMarks =
    ((if ∃ c, p.classed = some c ∧ c.chainFault = true then 1 else 0) + if p.classed = none then 0 else 2) +
      if p.first ≠ none ∧ p.last ≠ none ∧ p.extent ≠ none then 4 else 0 := by
  unfold Piece.partMarks
  rw [p.extents_mark]
  cases h : p.classed with
  | none => simp [bit]
  | some c => simp [bit]

theorem Piece.partMarks_lt : p.partMarks < 256 := by
  have h1 := bit_le ((p.classed.map Classification.chainFault).getD false) 1
  have h2 := bit_le p.classed.isSome 2
  have h4 := bit_le p.extents?.isSome 4
  unfold Piece.partMarks
  omega

/-- The fields of both forms. -/
theorem Piece.noticeBody_head (full : Bool) (o : PieceOutcome) {lost : Nat} (hlost : lost ≤ 65535) :
    let b := p.noticeBody full o lost
    byteAt b 0 = bit full 1 ∧ field b 1 4 = p.number.toNat ∧ byteAt b 5 = p.classBytes.1 ∧ byteAt b 6 = p.classBytes.2 ∧
      byteAt b 7 = o.code ∧ field b 8 2 = p.flags.number ∧ byteAt b 10 = p.partMarks ∧ field b 11 2 = lost := by
  dsimp only
  rw [p.noticeBody_eq]
  simp [Piece.headFields, byteAt, field_append_left, field_append_right, field_toBytes, Nat.mod_eq_of_lt p.number.isLt,
    Nat.mod_eq_of_lt p.classBytes_lt.1, Nat.mod_eq_of_lt p.classBytes_lt.2, Nat.mod_eq_of_lt o.code_lt,
    Nat.mod_eq_of_lt p.flags.number_lt, Nat.mod_eq_of_lt p.partMarks_lt, Nat.mod_eq_of_lt (Nat.lt_succ_of_le hlost),
    Nat.mod_eq_of_lt ((bit_le full 1).trans_lt (by decide : 1 < 256))]

/-! ### The full form -/

/-- The fields of the full form, part by part. -/
theorem Piece.noticeBody_full (o : PieceOutcome) (lost : Nat) :
    let b := p.noticeBody true o lost
    field b 13 2 = p.gen.toNat ∧ field b 29 4 = p.area % 256 ^ 4 ∧ field b 62 2 = p.absorbed % 65536 ∧
      byteAt b 61 = (p.classed.map Classification.steps).getD 0 % 256 ∧
      (∀ j n, j + n ≤ 14 → field b (15 + j) n = field p.lineFields j n) ∧
      (∀ j n, j + n ≤ 28 → field b (33 + j) n = field p.featureFields j n) ∧
      (∀ j n, field b (64 + j) n = field p.tallyFields j n) := by
  have hsub (k j m : Nat) (h : m ≤ k) : k + j - m = k - m + j := by omega
  dsimp only
  rw [p.noticeBody_eq]
  refine ⟨?_, ?_, ?_, ?_, fun j n h => ?lines, fun j n h => ?features, fun j n => ?tallies⟩
  case lines =>
    rw [if_pos rfl, field_append_right _ _ (by simp; omega), field_append_right _ _ (by simp; omega),
      field_append_left _ (by simp; omega)]
    simp [hsub]
  case features =>
    rw [if_pos rfl, field_append_right _ _ (by simp; omega), field_append_right _ _ (by simp; omega),
      field_append_right _ _ (by simp; omega), field_append_right _ _ (by simp; omega),
      field_append_left _ (by simp; omega)]
    simp [hsub]
  case tallies =>
    rw [if_pos rfl, field_append_right _ _ (by simp; omega), field_append_right _ _ (by simp; omega),
      field_append_right _ _ (by simp; omega), field_append_right _ _ (by simp; omega),
      field_append_right _ _ (by simp; omega), field_append_right _ _ (by simp; omega),
      field_append_right _ _ (by simp; omega)]
    simp [hsub]
  all_goals simp [byteAt, field_append_left, field_append_right, field_toBytes, Nat.mod_eq_of_lt p.gen.isLt]

theorem Piece.extents?_eq_none (h : ¬ (p.first ≠ none ∧ p.last ≠ none ∧ p.extent ≠ none)) : p.extents? = none := by
  unfold Piece.extents?
  cases hf : p.first <;> cases hl : p.last <;> cases hx : p.extent <;> simp [hf, hl, hx] at h ⊢

theorem Piece.lineFields_fields {f l : SeqNo × Nat} {x : Run} (hf : p.first = some f) (hl : p.last = some l)
    (hx : p.extent = some x) : field p.lineFields 0 6 = f.2 % 256 ^ 6 ∧ field p.lineFields 6 6 = l.2 % 256 ^ 6 ∧
      byteAt p.lineFields 12 = x.left % 256 ∧ byteAt p.lineFields 13 = x.right % 256 := by
  simp [Piece.lineFields, Piece.extents?, hf, hl, hx, byteAt, field_append_left, field_append_right, field_toBytes]

/-- A feature at its place among those sent: the twelve first, then CLIPS and RATIO_IV. -/
theorem Piece.featureFields_field {c : Classification} (hc : p.classed = some c) {j : Nat} {i : Fin 16}
    (hj : (c.features.toList.take 12 ++ (c.features.toList.drop 13).take 2)[j]? = some (look c.features i)) :
    (field p.featureFields (2 * j) 2 : Int) = look c.features i % 65536 := by
  have hpos : 0 ≤ look c.features i % 65536 := Int.emod_nonneg _ (by decide)
  have hlt : look c.features i % 65536 < 65536 := Int.emod_lt_of_pos _ (by decide)
  have hfield : field p.featureFields (2 * j) 2 = (look c.features i % 65536).toNat % 256 ^ 2 := by
    unfold Piece.featureFields
    rw [hc, Option.map_some, Option.getD_some]
    exact (field_flatMap_blocks (i := 0) (fun _ _ => length_intBytes 2 _) hj le_rfl).trans (field_toBytes 2 _)
  rw [hfield]
  omega

/-- A tally at its place. -/
theorem Piece.tallyFields_field {c : Classification} (hc : p.classed = some c) {j n : Nat}
    (hj : p.tallies.list[j]? = some n) : field p.tallyFields (2 * j) 2 = min 65535 n := by
  have hfield : field p.tallyFields (2 * j) 2 = min n 65535 % 256 ^ 2 := by
    unfold Piece.tallyFields
    rw [hc, if_pos Option.isSome_some]
    exact (field_flatMap_blocks (i := 0) (fun _ _ => length_toBytes 2 _) hj le_rfl).trans (field_toBytes 2 _)
  rw [hfield]
  omega

/-- The features of the full form, each at its place (spec/10 section 10.8.2). -/
theorem Piece.noticeBody_features {c : Classification} (hc : p.classed = some c) (o : PieceOutcome) (lost : Nat) :
    let b := p.noticeBody true o lost
    (∀ i : Fin 16, i.val < 12 → (field b (33 + 2 * i.val) 2 : Int) = look c.features i % 65536) ∧
      (field b 57 2 : Int) = look c.features 13 % 65536 ∧ (field b 59 2 : Int) = look c.features 14 % 65536 := by
  obtain ⟨-, -, -, -, -, hfeatures, -⟩ := p.noticeBody_full o lost
  have sent (j : Nat) (hj : j < 14) {i : Fin 16}
      (hi : (c.features.toList.take 12 ++ (c.features.toList.drop 13).take 2)[j]? = some (look c.features i)) :
      (field (p.noticeBody true o lost) (33 + 2 * j) 2 : Int) = look c.features i % 65536 := by
    rw [hfeatures (2 * j) 2 (by omega)]
    exact p.featureFields_field hc hi
  refine ⟨fun i hi => sent i.val (by omega) ?_, sent 12 (by decide) (by simp [look]), sent 13 (by decide) (by simp [look])⟩
  rw [List.getElem?_append_left (by simpa using hi), List.getElem?_take_of_lt hi]
  simp [look]

/-- The tallies of the full form, each at its place. -/
theorem Piece.noticeBody_tally {c : Classification} (hc : p.classed = some c) (o : PieceOutcome) (lost j : Nat) {n : Nat}
    (hj : p.tallies.list[j]? = some n) : field (p.noticeBody true o lost) (64 + 2 * j) 2 = min 65535 n := by
  obtain ⟨-, -, -, -, -, -, htallies⟩ := p.noticeBody_full o lost
  exact (htallies (2 * j) 2).trans (p.tallyFields_field hc hj)

/-- The parts marked absent are zeros. -/
theorem Piece.noticeBody_zeros (o : PieceOutcome) (lost : Nat) :
    let b := p.noticeBody true o lost
    (¬ (p.first ≠ none ∧ p.last ≠ none ∧ p.extent ≠ none) → ∀ j, 15 ≤ j → j < 29 → byteAt b j = 0) ∧
      (p.classed = none → ∀ j, (33 ≤ j ∧ j < 62) ∨ (64 ≤ j ∧ j < 88) → byteAt b j = 0) := by
  obtain ⟨-, -, -, hsteps, hlines, hfeatures, htallies⟩ := p.noticeBody_full o lost
  refine ⟨fun hno j hlow hhigh => ?_, fun hc j hj => ?_⟩
  · obtain ⟨k, rfl⟩ := Nat.exists_eq_add_of_le hlow
    refine (hlines k 1 (by omega)).trans ?_
    unfold Piece.lineFields
    rw [p.extents?_eq_none hno]
    exact byteAt_toBytes_zero 14 k
  · rw [hc] at hsteps
    obtain ⟨hlow, hhigh⟩ | ⟨hlow, hhigh⟩ := hj
    · obtain ⟨k, rfl⟩ := Nat.exists_eq_add_of_le hlow
      by_cases hk : k = 28
      · exact hk ▸ hsteps
      · refine (hfeatures k 1 (by omega)).trans ?_
        unfold Piece.featureFields
        rw [hc]
        exact byteAt_toBytes_zero 28 k
    · obtain ⟨k, rfl⟩ := Nat.exists_eq_add_of_le hlow
      refine (htallies k 1).trans ?_
      unfold Piece.tallyFields
      rw [hc]
      exact byteAt_toBytes_zero 24 k

theorem Piece.spanned_of_none (h : p.first = none ∨ p.last = none) : p.spanned = 0 := by
  unfold Piece.spanned
  obtain h | h := h
  · rw [h]
  · rw [h]
    cases p.first <;> rfl

end Body

/-- Settles O53: the judgment of R194 and R195, and each body as its parts one after another. -/
theorem noticesAreJudgedAndLaidOut : Obligations.NoticesAreJudgedAndLaidOut := by
  refine ⟨fun s => ⟨fun n hn => ?offer, fun p o => ?piece⟩, fun full p o lost hlost => ?body, fun p => ?fines,
    engineBody_fields, faultBody_fields, surveyEndBody_fields, loadBody_fields,
    fun mode trigger records oldest newest piece => ?capture, rfl, rfl, rfl, rfl, rfl, rfl, rfl, rfl, rfl, fun _ => rfl,
    fun _ => rfl, rfl, rfl, rfl, rfl, fun _ => rfl, fun _ => rfl⟩
  case offer =>
    intro off
    have hoff : off ↔ s.suppresses n = true := by
      cases n <;> simp [off, State.suppresses, State.masked_iff]
    rw [hoff]
    exact ⟨State.offer_suppressed, State.offer_placed, State.offer_lost⟩
  case piece =>
    have hmask := State.masked_iff (s := s) 1
    exact ⟨fun h => State.offerPiece_suppressed (hmask.mpr h), fun h => State.offerPiece_lost (mt hmask.mp h),
      fun h => State.offerPiece_placed (mt hmask.mp h)⟩
  case body =>
    intro b
    obtain ⟨hform, hnumber, hclass, hdest, hcode, hflags, hmarks, hpending⟩ := p.noticeBody_head full o hlost
    refine ⟨p.length_noticeBody full o lost, hform, hnumber, hcode, hflags, hpending, ?_⟩
    intro whole
    refine ⟨hmarks.trans p.partMarks_eq, fun hc => ?absent, fun c hc => ?present, fun hfull => ?full⟩
    case absent =>
      have hbytes : p.classBytes = (255, 255) := by unfold Piece.classBytes; rw [hc]; rfl
      rw [hbytes] at hclass hdest
      exact ⟨hclass, hdest⟩
    case present =>
      have hbytes : p.classBytes = (c.cls.code, c.dest.code) := by unfold Piece.classBytes; rw [hc]; rfl
      rw [hbytes] at hclass hdest
      exact ⟨hclass, hdest⟩
    case full =>
      subst hfull
      obtain ⟨hgen, harea, habsorbed, hsteps, hlines, -, -⟩ := p.noticeBody_full o lost
      obtain ⟨hnoLines, hnoClass⟩ := p.noticeBody_zeros o lost
      refine ⟨hgen, harea, habsorbed, fun f l x hf hl hx => ?_, hnoLines, hnoClass, fun c hc => ?_⟩
      · obtain ⟨hfirst, hlast, hleft, hright⟩ := p.lineFields_fields hf hl hx
        exact ⟨(hlines 0 6 (by decide)).trans hfirst, (hlines 6 6 (by decide)).trans hlast,
          (hlines 12 1 (by decide)).trans hleft, (hlines 13 1 (by decide)).trans hright⟩
      · rw [hc] at hsteps
        obtain ⟨htwelve, hclips, hratio⟩ := p.noticeBody_features hc o lost
        have tally (j : Nat) {n : Nat} := p.noticeBody_tally hc o lost j (n := n)
        exact ⟨hsteps, htwelve, hclips, hratio, tally 0 rfl, tally 1 rfl, tally 2 rfl, tally 3 rfl, tally 4 rfl,
          tally 5 rfl, tally 6 rfl, tally 7 rfl, tally 8 rfl, tally 9 rfl, tally 10 rfl, tally 11 rfl⟩
  case fines =>
    obtain ⟨hlen, hnumber, hgen, hmark, hfirst, hfirstPos, hlast, hlastPos, hspan, hcontributed, hleft, hright, harea,
      habsorbed, hflags⟩ := finesBody_fields p
    obtain ⟨hfirstSome, hfirstNone⟩ := lineBytes_fields p.first
    obtain ⟨hlastSome, hlastNone⟩ := lineBytes_fields p.last
    refine ⟨hlen, hnumber, hgen, hmark, ?_, ?_, ?_, ?_, fun f l hf hl => ?_, fun hno => ?_, hcontributed, fun x hx => ?_,
      fun hx => ?_, harea, habsorbed, hflags⟩
    · rw [hfirst, hfirstPos]; exact hfirstSome
    · rw [hfirst, hfirstPos]; exact hfirstNone
    · rw [hlast, hlastPos]; exact hlastSome
    · rw [hlast, hlastPos]; exact hlastNone
    · rw [hspan, Piece.spanned, hf, hl]
    · rw [hspan, p.spanned_of_none hno]
    · rw [hleft, hright, hx]; exact ⟨rfl, rfl⟩
    · rw [hleft, hright, hx]; exact ⟨rfl, rfl⟩
  case capture =>
    obtain ⟨hlen, hmode, htrigger, hclass, hfields⟩ :=
      captureEndBody_fields mode trigger records oldest newest piece
    exact ⟨hlen, hmode, htrigger, hclass.trans (by cases trigger <;> rfl), hfields⟩

end Sys2Proof.Machine
end

section
/-! SUPPORT. Pieces ended one after another (R83, R84, R103, R104): the slots freed, the outcome counted for each, and
what stands as it is. -/
-- One proof at a time: elaborated side by side, the proofs take more stacks than the check's memory holds.
set_option Elab.async false
namespace Sys2Proof.Machine

/-! ### The engine state and the outcomes -/

section Engine
variable (s : State)

theorem State.setEngine_of_ne {new : EngState} (h : s.eng.state ≠ new) (cause : EngCause) : s.setEngine new cause =
    State.offer (.engine s.eng.state new cause s.eng.flags s.bpu.pos .none) { s with eng.state := new } := if_neg h

theorem State.judgeDrained_of_ne {s : State} (h : s.eng.state ≠ .draining) : s.judgeDrained = s := if_neg fun g => h g.1

/-- The engine state after a freeing (R173). -/
theorem State.judgeDrained_state : s.judgeDrained.eng.state =
    if s.eng.state = .draining ∧ s.occupied = 0 then .idle else s.eng.state := by
  unfold State.judgeDrained
  split_ifs
  · rw [State.setEngine_eng]
  · rfl

theorem State.offer_outcome (n : Notice) (o : PieceOutcome) :
    (s.offer n).sta.get (.ofOutcome o) = s.sta.get (.ofOutcome o) := by
  unfold State.offer
  split_ifs
  · rw [State.get_count, if_neg nofun]
  · rfl
  · rw [State.get_count, if_neg nofun]

theorem State.offerPiece_outcome (p : Piece) (x o : PieceOutcome) :
    (s.offerPiece p x).sta.get (.ofOutcome o) = s.sta.get (.ofOutcome o) := by
  unfold State.offerPiece
  split_ifs
  · rw [State.get_count, if_neg nofun]
  · exact (State.get_count s .piecesLost _ 1).trans (if_neg nofun)
  · rfl

theorem State.setEngine_outcome (new : EngState) (c : EngCause) (o : PieceOutcome) :
    (s.setEngine new c).sta.get (.ofOutcome o) = s.sta.get (.ofOutcome o) := by
  unfold State.setEngine
  split_ifs
  · rfl
  · exact State.offer_outcome _ _ o

theorem State.judgeDrained_outcome (o : PieceOutcome) :
    s.judgeDrained.sta.get (.ofOutcome o) = s.sta.get (.ofOutcome o) := by
  unfold State.judgeDrained
  split_ifs
  · exact s.setEngine_outcome _ _ o
  · rfl

theorem State.releaseSlot_sta (i : Slot) : (s.releaseSlot i).sta = s.sta := by
  unfold State.releaseSlot
  split <;> rfl

theorem State.slotsIn_congr {s t : State} (h : t.seg = s.seg) : t.slotsIn = s.slotsIn := by
  funext ph
  unfold State.slotsIn State.slotIs
  rw [State.piece_congr h]

end Engine

/-! ### One piece ended -/

section One
variable (s : State) (o : PieceOutcome) (i : Slot)

/-- The end of a piece reaches its slot, its bank's pins, the notices and the counts. -/
theorem State.endPiece_eq : s.endPiece o i = { s with
    seg := (s.endPiece o i).seg, rcs := (s.endPiece o i).rcs, lnk := (s.endPiece o i).lnk
    sta := (s.endPiece o i).sta } := by
  cases h : s.piece i with
  | none => rw [State.endPiece_of_free h]
  | some p =>
    have hslot : ((s.count (.ofOutcome o) 1).offerPiece p o).piece i = some p := by
      rw [State.piece_congr (State.offerPiece_seg _ p o)]
      exact h
    rw [State.endPiece_of_piece h, State.releaseSlot_of_piece hslot, State.offerPiece_eq]
    rfl

@[simp] theorem State.endPiece_cls : (s.endPiece o i).cls = s.cls := by rw [State.endPiece_eq]
@[simp] theorem State.endPiece_lsc : (s.endPiece o i).lsc = s.lsc := by rw [State.endPiece_eq]
@[simp] theorem State.endPiece_vdr : (s.endPiece o i).vdr = s.vdr := by rw [State.endPiece_eq]
@[simp] theorem State.endPiece_eng : (s.endPiece o i).eng = s.eng := by rw [State.endPiece_eq]

theorem State.endPiece_outcome : (s.endPiece o i).sta.get (.ofOutcome o) =
    if s.piece i = none then s.sta.get (.ofOutcome o) else min 4294967295 (s.sta.get (.ofOutcome o) + 1) := by
  cases h : s.piece i with
  | none => rw [State.endPiece_of_free h, if_pos rfl]
  | some p =>
    rw [State.endPiece_of_piece h, State.releaseSlot_sta, State.offerPiece_outcome, State.get_count, if_pos rfl,
      if_neg nofun]

/-- One occupied slot less, where a piece ended. -/
theorem State.endPiece_occupied :
    (s.endPiece o i).occupied + (if s.piece i = none then 0 else 1) = s.occupied := by
  cases h : s.piece i with
  | none => rw [State.endPiece_of_free h, if_pos rfl]; rfl
  | some p =>
    have hmem : i ∈ (List.finRange 256).filter fun j => (s.piece j).isSome := by simp [h]
    have herase : ((List.finRange 256).filter fun j => ((s.endPiece o i).piece j).isSome) =
        ((List.finRange 256).filter fun j => (s.piece j).isSome).erase i := by
      rw [((List.nodup_finRange 256).filter _).erase_eq_filter, List.filter_filter]
      refine List.filter_congr fun j _ => ?_
      rw [State.piece_endPiece]
      by_cases hij : i = j
      · simp [hij]
      · simp [hij, Ne.symm hij]
    have hpos := List.length_pos_of_mem hmem
    unfold State.occupied
    rw [herase, List.length_erase_of_mem hmem, if_neg nofun]
    omega

/-- The notices placed before stand before those of the ended pieces. -/
theorem State.endPiece_notices : s.lnk.notices <+: (s.endPiece o i).lnk.notices := by
  cases h : s.piece i with
  | none => rw [State.endPiece_of_free h]
  | some p =>
    have hrelease (t : State) : (t.releaseSlot i).lnk = t.lnk := by unfold State.releaseSlot; split <;> rfl
    rw [State.endPiece_of_piece h, hrelease]
    unfold State.offerPiece
    split_ifs
    · exact List.prefix_rfl
    · exact List.prefix_rfl
    · exact List.prefix_append _ _

end One

/-! ### Several pieces ended -/

/-- One piece ended, and where it is to be judged, the freeing judged (R83, R104, R166, R173). -/
def State.endStep (o : PieceOutcome) (judged : Bool) (t : State) (i : Slot) : State :=
  bif judged then (t.endPiece o i).judgeDrained else t.endPiece o i

theorem State.abandonAll_eq (is : List Slot) (s : State) : s.abandonAll is = is.foldl (State.endStep .abandoned true) s := rfl

theorem State.flushAll_eq (is : List Slot) (s : State) : s.flushAll is = is.foldl (State.endStep .flushed false) s := rfl

section Several
variable (o : PieceOutcome) (judged : Bool)

/-- What the judgment of a freeing does not reach. -/
theorem State.endStep_parts (s : State) (i : Slot) :
    (s.endStep o judged i).seg = (s.endPiece o i).seg ∧ (s.endStep o judged i).cls = s.cls ∧
      (s.endStep o judged i).lsc = s.lsc ∧ (s.endStep o judged i).vdr = s.vdr ∧
      (s.endStep o judged i).eng.flags = s.eng.flags ∧ (s.endStep o judged i).steady = s.steady ∧
      (s.endStep o judged i).sta.get (.ofOutcome o) = (s.endPiece o i).sta.get (.ofOutcome o) := by
  cases judged
  · simp [State.endStep]
  · simp [State.endStep, State.judgeDrained_outcome]

/-- Pieces ended one after another: what stands as it is. -/
theorem State.foldl_endStep_parts (is : List Slot) (s : State) :
    let t := is.foldl (State.endStep o judged) s
    t.cls = s.cls ∧ t.lsc = s.lsc ∧ t.vdr = s.vdr ∧ t.eng.flags = s.eng.flags ∧ t.steady = s.steady := by
  induction is generalizing s with
  | nil => exact ⟨rfl, rfl, rfl, rfl, rfl⟩
  | cons i is ih =>
    obtain ⟨hcls, hlsc, hvdr, hflags, hsteady⟩ := ih (s.endStep o judged i)
    obtain ⟨-, hcls', hlsc', hvdr', hflags', hsteady', -⟩ := s.endStep_parts o judged i
    exact ⟨hcls.trans hcls', hlsc.trans hlsc', hvdr.trans hvdr', hflags.trans hflags', hsteady.trans hsteady'⟩

/-- The slots listed are FREE at the end, the others as they were. -/
theorem State.foldl_endStep_piece (is : List Slot) (s : State) (j : Slot) :
    (is.foldl (State.endStep o judged) s).piece j = if j ∈ is then none else s.piece j := by
  induction is generalizing s with
  | nil => rfl
  | cons i is ih =>
    rw [List.foldl_cons, ih, State.piece_congr (s.endStep_parts o judged i).1, State.piece_endPiece]
    by_cases hij : j = i
    · simp [hij]
    · simp [hij, Ne.symm hij]

/-- Each slot that became FREE raised the count of the outcome. -/
theorem State.foldl_endStep_count (is : List Slot) (s : State) (h : s.sta.get (.ofOutcome o) ≤ 4294967295) :
    let t := is.foldl (State.endStep o judged) s
    t.occupied ≤ s.occupied ∧
      t.sta.get (.ofOutcome o) = min 4294967295 (s.sta.get (.ofOutcome o) + (s.occupied - t.occupied)) := by
  induction is generalizing s with
  | nil => exact ⟨le_rfl, by simpa using h⟩
  | cons i is ih =>
    obtain ⟨hseg, -, -, -, -, -, hsta⟩ := s.endStep_parts o judged i
    have hocc := s.endPiece_occupied o i
    have hcount := s.endPiece_outcome o i
    rw [← State.occupied_congr hseg] at hocc
    rw [← hsta] at hcount
    obtain ⟨hle, htotal⟩ := ih (s.endStep o judged i) (by rw [hcount]; split_ifs <;> omega)
    rw [List.foldl_cons]
    dsimp only
    rw [htotal, hcount]
    split_ifs at hocc ⊢ <;> omega

end Several

/-! ### The classifier's pieces -/

theorem Cls.held_eq (c : Cls) : (match c.walk with | some w => [w.slot] | none => []) ++ c.queue = c.held := by
  unfold Cls.held
  cases c.walk <;> rfl

theorem Cls.mem_held {c : Cls} {i : Slot} : i ∈ c.held ↔ i ∈ c.queue ∨ ∃ w, c.walk = some w ∧ w.slot = i := by
  unfold Cls.held
  cases c.walk <;> simp [or_comm, eq_comm]

/-- The classifier holding nothing. -/
def State.emptied (s : State) : State := { s with cls := { queue := [], walk := none } }

theorem State.emptied_piece (s : State) : s.emptied.piece = s.piece := State.piece_congr rfl

theorem State.emptied_occupied (s : State) : s.emptied.occupied = s.occupied := State.occupied_congr rfl

theorem State.emptied_sta (s : State) : s.emptied.sta = s.sta := rfl

/-- The OPEN pieces and those of the classifier ended, and the classifier empty (R83, R84, R103, R104). -/
def State.endHeld (o : PieceOutcome) (judged : Bool) (s : State) : State :=
  s.cls.held.foldl (State.endStep o judged) ((s.slotsIn .openPiece).foldl (State.endStep o judged) s).emptied

theorem State.abandon_eq (s : State) : s.abandonOpen.abandonClassifier = s.endHeld .abandoned true := by
  have hcls : s.abandonOpen.cls = s.cls := (State.foldl_endStep_parts .abandoned true _ s).1
  unfold State.abandonClassifier
  rw [hcls]
  rfl

theorem State.flush_eq (s : State) : s.flushOpen.flushClassifier = s.endHeld .flushed false := by
  have hcls : s.flushOpen.cls = s.cls := (State.foldl_endStep_parts .flushed false _ s).1
  unfold State.flushClassifier
  rw [hcls]
  rfl

section Held
variable (o : PieceOutcome) (judged : Bool) (s : State)

theorem State.endHeld_parts : (s.endHeld o judged).cls = { queue := [], walk := none } ∧
    (s.endHeld o judged).lsc = s.lsc ∧ (s.endHeld o judged).vdr = s.vdr ∧
    (s.endHeld o judged).eng.flags = s.eng.flags ∧ (s.endHeld o judged).steady = s.steady := by
  obtain ⟨-, hlsc, hvdr, hflags, hsteady⟩ := State.foldl_endStep_parts o judged (s.slotsIn .openPiece) s
  obtain ⟨hcls', hlsc', hvdr', hflags', hsteady'⟩ := State.foldl_endStep_parts o judged s.cls.held
    ((s.slotsIn .openPiece).foldl (State.endStep o judged) s).emptied
  exact ⟨hcls', hlsc'.trans hlsc, hvdr'.trans hvdr, hflags'.trans hflags, hsteady'.trans hsteady⟩

/-- The SCHEDULED pieces stay; the others are gone (R83, R104). -/
theorem State.piece_endHeld (i : Slot) : (s.endHeld o judged).piece i =
    if s.slotIs .openPiece i = true ∨ i ∈ s.cls.queue ∨ (∃ w, s.cls.walk = some w ∧ w.slot = i) then none
    else s.piece i := by
  have hopen : i ∈ s.slotsIn .openPiece ↔ s.slotIs .openPiece i = true := by simp [State.slotsIn]
  rw [State.endHeld, State.foldl_endStep_piece, State.emptied_piece, State.foldl_endStep_piece]
  simp only [hopen, ← Cls.mem_held]
  by_cases hheld : i ∈ s.cls.held <;> simp [hheld]

theorem State.endHeld_count (h : s.sta.get (.ofOutcome o) ≤ 4294967295) :
    (s.endHeld o judged).occupied ≤ s.occupied ∧ (s.endHeld o judged).sta.get (.ofOutcome o) =
      min 4294967295 (s.sta.get (.ofOutcome o) + (s.occupied - (s.endHeld o judged).occupied)) := by
  obtain ⟨hle, hcount⟩ := State.foldl_endStep_count o judged (s.slotsIn .openPiece) s h
  unfold State.endHeld
  generalize (s.slotsIn .openPiece).foldl (State.endStep o judged) s = b at hle hcount
  obtain ⟨hle', hcount'⟩ := State.foldl_endStep_count o judged s.cls.held b.emptied
    (by rw [State.emptied_sta, hcount]; exact Nat.min_le_left _ _)
  rw [State.emptied_occupied] at hle' hcount'
  rw [State.emptied_sta] at hcount'
  omega

end Held

end Sys2Proof.Machine
end

section
/-! PROOF. Changes of engine state, the raise of faults, CLEAR and RESET (R169, R174 to R178, R180). -/
-- One proof at a time: elaborated side by side, the proofs take more stacks than the check's memory holds.
set_option Elab.async false
namespace Sys2Proof.Machine

/-! ### Pieces ended outside DRAINING -/

section Unjudged
variable (o : PieceOutcome)

theorem State.foldl_endPiece_eng (is : List Slot) (s : State) : (is.foldl (State.endStep o false) s).eng = s.eng := by
  induction is generalizing s with
  | nil => rfl
  | cons i is ih => exact (ih _).trans (s.endPiece_eng o i)

theorem State.foldl_endPiece_notices (is : List Slot) (s : State) :
    s.lnk.notices <+: (is.foldl (State.endStep o false) s).lnk.notices := by
  induction is generalizing s with
  | nil => exact List.prefix_rfl
  | cons i is ih => exact (s.endPiece_notices o i).trans (ih _)

/-- Outside DRAINING a freeing has nothing to end. -/
theorem State.foldl_endStep_unjudged (is : List Slot) {s : State} (h : s.eng.state ≠ .draining) :
    is.foldl (State.endStep o true) s = is.foldl (State.endStep o false) s := by
  induction is generalizing s with
  | nil => rfl
  | cons i is ih =>
    have hstate : (s.endPiece o i).eng.state ≠ .draining := by rwa [State.endPiece_eng]
    have hstep : s.endStep o true i = s.endPiece o i := State.judgeDrained_of_ne hstate
    rw [List.foldl_cons, hstep]
    exact ih hstate

theorem State.endHeld_unjudged {s : State} (h : s.eng.state ≠ .draining) : s.endHeld o true = s.endHeld o false := by
  unfold State.endHeld
  rw [State.foldl_endStep_unjudged o _ h]
  refine State.foldl_endStep_unjudged o _ ?_
  show (List.foldl (State.endStep o false) s (s.slotsIn .openPiece)).eng.state ≠ _
  rwa [State.foldl_endPiece_eng]

theorem State.endHeld_eng (s : State) : (s.endHeld o false).eng = s.eng :=
  (State.foldl_endPiece_eng o _ _).trans (State.foldl_endPiece_eng o _ s)

theorem State.endHeld_notices (s : State) : s.lnk.notices <+: (s.endHeld o false).lnk.notices :=
  (State.foldl_endPiece_notices o (s.slotsIn .openPiece) s).trans
    (State.foldl_endPiece_notices o s.cls.held (State.emptied _))

end Unjudged

/-! ### The raise of a fault -/

section Raise
variable {s : State} {k : FaultKind}

theorem FaultKind.halting_iff (k : FaultKind) :
    k.halting = true ↔ k = .sensorLost ∨ k = .beltReversed ∨ k = .positionExhausted := by
  cases k <;> decide

theorem State.setEngine_of_eng {t : State} {e : Eng} {pos : Nat} (he : t.eng = e) (hpos : t.bpu.pos = pos) {new : EngState}
    (h : e.state ≠ new) (cause : EngCause) : t.setEngine new cause =
      State.offer (.engine e.state new cause e.flags pos .none) { t with eng.state := new } := by
  subst he hpos
  exact t.setEngine_of_ne h cause

theorem State.offer_notices {n : Notice} (h : s.suppresses n = false) (hroom : s.lnk.notices.length < 64) :
    (s.offer n).lnk.notices = s.lnk.notices ++ [n] := by
  rw [State.offer_placed (by simp [h]) hroom]

/-- A fault that neither halts nor aborts sets its flag and is reported (R174, R177). -/
theorem State.raiseFault_reported (hno : ¬ (k.halting = true ∧ (s.eng.state = .sorting ∨ s.eng.state = .draining)))
    (hsurvey : ¬ (k = .sensorLost ∧ s.eng.state = .survey)) : s.raiseFault k =
      (s.flag k).offer (.fault (.raised k) s.eng.state (s.eng.flags.raise k) s.bpu.pos) := by
  unfold State.raiseFault
  rw [if_neg hno, if_neg hsurvey]
  rfl

/-- SENSOR_LOST in SURVEY aborts the survey (R176, log entry 12). -/
theorem State.raiseFault_survey (hstate : s.eng.state = .survey) : s.raiseFault .sensorLost =
    State.setEngine .idle .sensorLost (State.offer (.surveyEnd .aborted s.blt.acc.good) (State.stopSurvey .aborted
      (State.offer (.fault (.raised .sensorLost) .idle (s.eng.flags.raise .sensorLost) s.bpu.pos) (s.flag .sensorLost)))) := by
  unfold State.raiseFault
  rw [if_neg (by simp [hstate]), if_pos ⟨rfl, hstate⟩]
  unfold State.abortSurvey
  dsimp only
  rw [State.offer_blt]
  rfl

/-- The state after the two notices of a halt and before the pieces are abandoned (R175). -/
def State.halting (s : State) (k : FaultKind) : State :=
  State.offer (.engine s.eng.state .halted k.cause (s.eng.flags.raise k) s.bpu.pos .none)
    { State.offer (.fault (.raised k) .halted (s.eng.flags.raise k) s.bpu.pos) (s.flag k) with eng.state := .halted }

theorem State.raiseFault_halts (hhalts : k.halting = true) (hrun : s.eng.state = .sorting ∨ s.eng.state = .draining) :
    s.raiseFault k = (s.halting k).endHeld .abandoned false := by
  have htold : State.setEngine .halted k.cause
      (State.offer (.fault (.raised k) .halted (s.eng.flags.raise k) s.bpu.pos) (s.flag k)) = s.halting k :=
    State.setEngine_of_eng (State.offer_eng (s.flag k) _) (congrArg Bpu.pos (State.offer_bpu (s.flag k) _))
      (show s.eng.state ≠ .halted by obtain h | h := hrun <;> simp [h]) _
  have hstate : (s.halting k).eng.state ≠ .draining := by
    unfold State.halting
    rw [State.offer_eng]
    exact nofun
  unfold State.raiseFault
  rw [if_pos ⟨hhalts, hrun⟩]
  show (State.setEngine .halted k.cause (State.offer (.fault (.raised k) .halted (s.eng.flags.raise k) s.bpu.pos)
    (s.flag k))).abandonOpen.abandonClassifier = _
  rw [htold, State.abandon_eq, State.endHeld_unjudged _ hstate]

/-- What the two notices of a halt leave as it is. -/
theorem State.halting_parts (s : State) (k : FaultKind) : (s.halting k).seg = s.seg ∧ (s.halting k).cls = s.cls ∧
    (s.halting k).lsc = s.lsc ∧ (s.halting k).vdr = s.vdr ∧ (s.halting k).steady = s.steady ∧
    (s.halting k).eng = { s.eng with state := .halted, flags := s.eng.flags.raise k } ∧
    ∀ o, (s.halting k).sta.get (.ofOutcome o) = s.sta.get (.ofOutcome o) := by
  unfold State.halting
  refine ⟨?_, ?_, ?_, ?_, ?_, ?_, fun o => ?_⟩
  · rw [State.offer_seg]; exact State.offer_seg _ _
  · rw [State.offer_cls]; exact State.offer_cls _ _
  · rw [State.offer_lsc]; exact State.offer_lsc _ _
  · rw [State.offer_vdr]; exact State.offer_vdr _ _
  · rw [State.offer_steady]; exact State.offer_steady _ _
  · rw [State.offer_eng]
    exact congrArg (fun e : Eng => { e with state := .halted }) (State.offer_eng (s.flag k) _)
  · rw [State.offer_outcome]
    exact State.offer_outcome (s.flag k) _ o

/-- Where there is room, the notices of a halt are the two. -/
theorem State.halting_notices (h : s.lnk.notices.length + 2 ≤ 64) : (s.halting k).lnk.notices = s.lnk.notices ++
    [.fault (.raised k) .halted (s.eng.flags.raise k) s.bpu.pos,
     .engine s.eng.state .halted k.cause (s.eng.flags.raise k) s.bpu.pos .none] := by
  have hfault : (State.offer (.fault (.raised k) .halted (s.eng.flags.raise k) s.bpu.pos) (s.flag k)).lnk.notices =
      s.lnk.notices ++ [.fault (.raised k) .halted (s.eng.flags.raise k) s.bpu.pos] :=
    State.offer_notices rfl (show s.lnk.notices.length < 64 by omega)
  refine (State.offer_notices rfl ?_).trans ?_
  · rw [hfault]
    simp
    omega
  · rw [hfault, List.append_assoc]
    rfl

/-- What a halt comes to (R83, R104, R175). -/
theorem State.raiseFault_halts_spec (hhalts : k.halting = true)
    (hrun : s.eng.state = .sorting ∨ s.eng.state = .draining) :
    let t := s.raiseFault k
    t.eng = { s.eng with state := .halted, flags := s.eng.flags.raise k } ∧ t.steady = s.steady ∧ t.lsc = s.lsc ∧
      t.vdr = s.vdr ∧ t.cls = { queue := [], walk := none } ∧
      (∀ i, t.piece i = if s.slotIs .openPiece i = true ∨ i ∈ s.cls.queue ∨
        (∃ w, s.cls.walk = some w ∧ w.slot = i) then none else s.piece i) ∧
      t = s.cls.held.foldl (State.endStep .abandoned false)
        ((s.slotsIn .openPiece).foldl (State.endStep .abandoned false) (s.halting k)).emptied ∧
      (s.sta.get (.ofOutcome .abandoned) ≤ 4294967295 → t.sta.get (.ofOutcome .abandoned) =
        min 4294967295 (s.sta.get (.ofOutcome .abandoned) + (s.occupied - t.occupied))) ∧
      (s.lnk.notices.length + 2 ≤ 64 → t.lnk.notices.take (s.lnk.notices.length + 2) = s.lnk.notices ++
        [.fault (.raised k) .halted (s.eng.flags.raise k) s.bpu.pos,
         .engine s.eng.state .halted k.cause (s.eng.flags.raise k) s.bpu.pos .none]) := by
  obtain ⟨hseg, hcls, hlsc, hvdr, hsteady, heng, houtcome⟩ := s.halting_parts k
  obtain ⟨hcls', hlsc', hvdr', -, hsteady'⟩ := (s.halting k).endHeld_parts .abandoned false
  have hslotIs (i : Slot) : (s.halting k).slotIs .openPiece i = s.slotIs .openPiece i := by
    unfold State.slotIs
    rw [State.piece_congr hseg]
  dsimp only
  rw [State.raiseFault_halts hhalts hrun]
  refine ⟨((s.halting k).endHeld_eng .abandoned).trans heng, hsteady'.trans hsteady, hlsc'.trans hlsc, hvdr'.trans hvdr,
    hcls', fun i => ?_, ?_, fun h => ?_, fun h => ?_⟩
  · rw [State.piece_endHeld, State.piece_congr hseg, hcls, hslotIs]
  · unfold State.endHeld
    rw [hcls, State.slotsIn_congr hseg]
  · have hcount := ((s.halting k).endHeld_count .abandoned false (by rwa [houtcome])).2
    rwa [houtcome, State.occupied_congr hseg] at hcount
  · have hprefix := (s.halting k).endHeld_notices .abandoned
    rw [State.halting_notices h, List.prefix_iff_eq_take] at hprefix
    rw [hprefix]
    congr 1
    simp

end Raise

/-! ### CLEAR and RESET -/

section Requests
variable {s : State} {f : Frame} {rest : List Frame}

theorem exec_clear_running (h : s.asked 0x0A f rest) (hbody : f.body = []) (hstate : s.eng.state ≠ .halted) :
    exec .clear s = .next (State.answered { s with eng.flags := {} } f rest .ok []) := by
  have hact : (s.unqueued rest).clear = _ := if_neg hstate
  refine (State.takeRequest_asked h rfl (by rw [hbody]; rfl)).trans ?_
  rw [hact]
  rfl

theorem State.clear_halted (hstate : s.eng.state = .halted) : s.clear =
    if s.occupied = 0 then (State.setEngine .idle .clear { s with eng.flags := {} }).accept []
    else s.refuse .busy (toBytes 2 s.occupied) := if_pos hstate

theorem exec_clear_busy (h : s.asked 0x0A f rest) (hbody : f.body = []) (hstate : s.eng.state = .halted)
    (hocc : 0 < s.occupied) : exec .clear s = .next (s.answered f rest .busy (toBytes 2 s.occupied)) := by
  refine State.takeRequest_bodiless h hbody rfl ?_
  refine (State.clear_halted (s := s.unqueued rest) hstate).trans (if_neg ?_)
  exact hocc.ne'

theorem exec_clear_halted (h : s.asked 0x0A f rest) (hbody : f.body = []) (hstate : s.eng.state = .halted)
    (hocc : s.occupied = 0) : exec .clear s = .next (State.answered
      (State.offer (.engine .halted .idle .clear {} s.bpu.pos .none) { s with eng.flags := {}, eng.state := .idle })
      f rest .ok []) := by
  have hact : (s.unqueued rest).clear = _ := (State.clear_halted (s := s.unqueued rest) hstate).trans (if_pos hocc)
  have hnotice : State.setEngine .idle .clear ({ s with eng.flags := {} } : State) =
      State.offer (.engine .halted .idle .clear {} s.bpu.pos .none) { s with eng.flags := {}, eng.state := .idle } := by
    rw [State.setEngine_of_ne _ (by show s.eng.state ≠ .idle; simp [hstate]), hstate]
  refine (State.takeRequest_asked h rfl (by rw [hbody]; rfl)).trans ?_
  rw [hact, ← hnotice]
  exact congrArg (fun t : State => Host.Outcome.next (t.replied f .ok []))
    (State.setEngine_unqueued { s with eng.flags := {} } rest .idle .clear)

theorem exec_reset (h : s.asked 0x0B f rest) (hbody : f.body = []) : exec .reset s = .next (State.answered
    { s with eng.resetPending := true, eng.resetReplySent := false } f rest .ok []) :=
  State.takeRequest_asked h rfl (by rw [hbody]; rfl)

end Requests

/-- Settles O46: each raise of a fault by the engine state it meets, and the requests CLEAR and RESET. -/
theorem faultsAndClearAct : Obligations.FaultsAndClearAct := by
  refine ⟨⟨fun s new cause h => s.setEngine_of_ne h cause, fun s k => ?raise⟩, fun s f rest hbody =>
    ⟨fun h => ⟨exec_clear_running h hbody, exec_clear_busy h hbody, exec_clear_halted h hbody⟩,
      fun h => exec_reset h hbody⟩⟩
  case raise =>
    intro halts running flags u
    have hhalts : k.halting = true ↔ halts := k.halting_iff
    have hflags : flags = s.eng.flags.raise k := by cases k <;> rfl
    have hflagged : u = s.flag k := by
      dsimp only [u]
      rw [hflags]
      rfl
    rw [hflags, hflagged]
    refine ⟨fun hno => State.raiseFault_reported (by rwa [hhalts]), ?survey, fun hh hrun => ?halt⟩
    case survey =>
      rintro rfl hstate
      exact State.raiseFault_survey hstate
    case halt =>
      obtain ⟨heng, hsteady, hlsc, hvdr, hcls, hpiece, hends, hcount, hnotices⟩ :=
        State.raiseFault_halts_spec (hhalts.mpr hh) hrun
      refine ⟨heng, hsteady, hlsc, hvdr, hcls, hpiece, ?_, hcount, hnotices⟩
      intro held
      have hheld : held = s.cls.held := s.cls.held_eq
      rw [hheld]
      exact hends

end Sys2Proof.Machine
end

section
/-! SUPPORT. What a placement keeps of the machine (R123 to R150): the classifier, the flushed pieces counted, the
valves out of service, the state of each piece; the engine moves at most from DRAINING to IDLE. -/
-- One proof at a time: elaborated side by side, the proofs take more stacks than the check's memory holds.
set_option Elab.async false
namespace Sys2Proof.Machine

/-! ### Pieces and their states -/

theorem State.slotIs_iff {s : State} {ph : Phase} {i : Slot} :
    s.slotIs ph i = true ↔ ∃ p, s.piece i = some p ∧ p.phase = ph := by
  unfold State.slotIs
  cases s.piece i <;> simp

theorem State.slotIs_congr {s t : State} (h : t.seg = s.seg) (ph : Phase) (i : Slot) :
    t.slotIs ph i = s.slotIs ph i := by
  unfold State.slotIs
  rw [State.piece_congr h]

/-- A change of records that keeps their states keeps who is in which state. -/
theorem State.slotIs_updatePiece (s : State) (j : Slot) {f : Piece → Piece} (hf : ∀ p, (f p).phase = p.phase)
    (ph : Phase) (i : Slot) : (s.updatePiece j f).slotIs ph i = s.slotIs ph i := by
  unfold State.slotIs
  rw [State.piece_updatePiece]
  split_ifs with hij
  · subst hij
    cases s.piece j <;> simp [hf]
  · rfl

theorem State.slotIs_of_freed {s t : State} {j : Slot} (h : ∀ i, t.piece i = if j = i then none else s.piece i)
    {ph : Phase} {i : Slot} (ht : t.slotIs ph i = true) : s.slotIs ph i = true := by
  obtain ⟨p, hp, hph⟩ := State.slotIs_iff.mp ht
  rw [h] at hp
  split_ifs at hp
  exact State.slotIs_iff.mpr ⟨p, hp, hph⟩

/-! ### What is kept -/

/-- From `s` to `t` the classifier, the flushed count, the valves out of service and the fault flags stand; pieces leave
the table and change no state; DRAINING may have ended. -/
structure State.Calm (s t : State) : Prop where
  cls : t.cls = s.cls
  flushed : t.sta.get (.ofOutcome .flushed) = s.sta.get (.ofOutcome .flushed)
  flags : t.eng.flags = s.eng.flags
  state : t.eng.state = s.eng.state ∨ (s.eng.state = .draining ∧ t.eng.state = .idle)
  valve : ∀ l r, (s.valve l r).available = false → t.valve l r = s.valve l r
  slots : ∀ ph i, t.slotIs ph i = true → s.slotIs ph i = true

section Calm
variable {s t u : State}

theorem State.Calm.refl (s : State) : s.Calm s :=
  ⟨rfl, rfl, rfl, .inl rfl, fun _ _ _ => rfl, fun _ _ h => h⟩

theorem State.Calm.trans (h : s.Calm t) (g : t.Calm u) : s.Calm u where
  cls := g.cls.trans h.cls
  flushed := g.flushed.trans h.flushed
  flags := g.flags.trans h.flags
  state := by
    obtain hs | ⟨hs, ht⟩ := h.state
    · rw [← hs]
      exact g.state
    · obtain hu | ⟨hd, -⟩ := g.state
      · exact .inr ⟨hs, hu.trans ht⟩
      · rw [ht] at hd
        cases hd
  valve l r hv := by
    have ht := h.valve l r hv
    exact (g.valve l r (ht ▸ hv)).trans ht
  slots ph i hu := h.slots ph i (g.slots ph i hu)

theorem State.Calm.foldl {α : Type} {f : State → α → State} (h : ∀ t a, State.Calm t (f t a)) (as : List α)
    (s : State) : s.Calm (as.foldl f s) := by
  induction as generalizing s with
  | nil => exact .refl s
  | cons a as ih => exact (h s a).trans (ih _)

/-- A change of other parts of the machine. -/
theorem State.Calm.of_parts (hcls : t.cls = s.cls)
    (hsta : t.sta.get (.ofOutcome .flushed) = s.sta.get (.ofOutcome .flushed)) (heng : t.eng = s.eng)
    (hvdr : t.vdr = s.vdr) (hseg : t.seg = s.seg) : s.Calm t where
  cls := hcls
  flushed := hsta
  flags := by rw [heng]
  state := .inl (by rw [heng])
  valve l r _ := by simp only [State.valve, hvdr]
  slots ph i h := by rwa [State.slotIs_congr hseg] at h

end Calm

/-! ### Counts, notices and the end of a piece -/

section Ops
variable (s : State)

theorem State.count_calm (c : Counter) (n : Nat) (hc : c ≠ .ofOutcome .flushed) : s.Calm (s.count c n) :=
  .of_parts rfl (by rw [State.get_count, if_neg hc]) rfl rfl rfl

theorem State.offerPiece_calm (p : Piece) (o : PieceOutcome) : s.Calm (s.offerPiece p o) :=
  .of_parts (s.offerPiece_cls p o) (s.offerPiece_outcome p o _) (s.offerPiece_eng p o) (s.offerPiece_vdr p o)
    (s.offerPiece_seg p o)

theorem State.judgeDrained_calm : s.Calm s.judgeDrained where
  cls := s.judgeDrained_cls
  flushed := s.judgeDrained_outcome _
  flags := s.judgeDrained_flags
  state := by
    rw [State.judgeDrained_state]
    split_ifs with h
    · exact .inr ⟨h.1, rfl⟩
    · exact .inl rfl
  valve l r _ := by simp only [State.valve, State.judgeDrained_vdr]
  slots ph i h := by rwa [State.slotIs_congr s.judgeDrained_seg] at h

/-- The freeing of a slot reaches the slot and its bank's pins. -/
theorem State.releaseSlot_parts (i : Slot) : (s.releaseSlot i).cls = s.cls ∧ (s.releaseSlot i).eng = s.eng ∧
    (s.releaseSlot i).vdr = s.vdr ∧ (s.releaseSlot i).lnk = s.lnk := by
  unfold State.releaseSlot
  split <;> exact ⟨rfl, rfl, rfl, rfl⟩

theorem State.releaseSlot_calm (i : Slot) : s.Calm (s.releaseSlot i) := by
  obtain ⟨hcls, heng, hvdr, -⟩ := s.releaseSlot_parts i
  exact ⟨hcls, by rw [State.releaseSlot_sta], by rw [heng], .inl (by rw [heng]),
    fun l r _ => by simp only [State.valve, hvdr],
    fun ph j h => State.slotIs_of_freed (State.piece_releaseSlot s i) h⟩

theorem Tallies.outcome_ne_flushed (t : Tallies) (d : Dest) : t.outcome d ≠ .flushed := by
  unfold Tallies.outcome
  split_ifs <;> nofun

theorem State.complete_calm (i : Slot) : s.Calm (s.complete i) := by
  unfold State.complete
  split
  · exact .refl s
  · next p _ =>
    split
    · exact .refl s
    · next c _ =>
      have report : s.Calm (if c.terms.report then s.offerPiece p (p.tallies.outcome c.dest)
          else s.count .suppressed 1) := by
        split_ifs
        · exact s.offerPiece_calm _ _
        · exact s.count_calm .suppressed 1 nofun
      have houtcome : Counter.ofOutcome (p.tallies.outcome c.dest) ≠ .ofOutcome .flushed :=
        fun h => Tallies.outcome_ne_flushed _ _ (Counter.ofOutcome.inj h)
      exact (((report.trans (State.count_calm _ (.ofClass c.cls) 1 nofun)).trans
        (State.count_calm _ _ 1 houtcome)).trans (State.releaseSlot_calm _ i)).trans (State.judgeDrained_calm _)

theorem State.completeIfDone_calm (i : Slot) : s.Calm (s.completeIfDone i) := by
  unfold State.completeIfDone
  split
  · split_ifs
    · exact s.complete_calm i
    · exact .refl s
  · exact .refl s

/-! ### Entries and valves -/

theorem State.updatePiece_calm (i : Slot) (f : Piece → Piece) (hf : ∀ p, (f p).phase = p.phase) :
    s.Calm (s.updatePiece i f) :=
  ⟨rfl, rfl, rfl, .inl rfl, fun _ _ _ => rfl, fun ph j h => by rwa [State.slotIs_updatePiece s i hf] at h⟩

theorem State.tallyOwner_calm (o : Option (Slot × PieceNo)) (f : Piece → Piece) (hf : ∀ p, (f p).phase = p.phase) :
    s.Calm (s.tallyOwner o f) := by
  unfold State.tallyOwner
  split
  · exact s.updatePiece_calm _ f hf
  · exact .refl s

theorem State.ownerDone_calm (o : Option (Slot × PieceNo)) : s.Calm (s.ownerDone o) := by
  unfold State.ownerDone
  split
  · exact s.completeIfDone_calm _
  · exact .refl s

theorem State.setLane_calm (l : Lane) (es : List Entry) : s.Calm (s.setLane l es) := .of_parts rfl rfl rfl rfl rfl

theorem State.retire_calm (l : Lane) (e : Entry) (r : RetireReason) : s.Calm (s.retire l e r) :=
  (((s.setLane_calm l _).trans (State.count_calm _ (.ofRetire r) 1 nofun)).trans
    (State.tallyOwner_calm _ e.owner (Piece.retireOne r) fun _ => rfl)).trans (State.ownerDone_calm _ e.owner)

theorem State.setValve_calm (l : Lane) (r : Row) (v : Valve) (h : (s.valve l r).available = true) :
    s.Calm (s.setValve l r v) where
  cls := s.setValve_cls l r v
  flushed := by rw [State.setValve_sta]
  flags := by rw [State.setValve_eng]
  state := .inl (by rw [State.setValve_eng])
  valve m q hv := by
    rw [State.valve_setValve, if_neg]
    rintro ⟨rfl, rfl⟩
    rw [h] at hv
    cases hv
  slots ph i hi := by rwa [State.slotIs_congr (s.setValve_seg l r v)] at hi

theorem Valve.available_of_opened {v : Valve} (h : v.state = .opened) : v.available = true := by
  simp [Valve.available, h]

theorem State.openFor_calm (l : Lane) (r : Row) (e : Entry) (late : Bool) (h : (s.valve l r).state = .closed) :
    s.Calm (s.openFor l r e late) :=
  (s.setValve_calm l r _ (by simp [Valve.available, h])).trans (State.setLane_calm _ l _)

theorem State.enterRecover_calm (l : Lane) (r : Row) (h : (s.valve l r).state = .opened) :
    s.Calm (s.enterRecover l r) :=
  s.setValve_calm l r _ (Valve.available_of_opened h)

theorem State.closeEntry_calm (l : Lane) (r : Row) (e : Entry) (h : (s.valve l r).state = .opened) :
    s.Calm (s.closeEntry l r e) := by
  unfold State.closeEntry
  dsimp only
  generalize (if e.lateStart then RetireReason.firedLate else .fired) = reason
  have retired := s.retire_calm l e reason
  have recovers := (s.retire l e reason).enterRecover_calm l r (by rwa [State.retire_valve])
  split
  · split_ifs
    · exact retired.trans (State.setLane_calm _ l _)
    · exact retired.trans recovers
  · exact retired.trans recovers

theorem State.judgeStep_calm {l : Lane} {r : Row} {o : Opening} {p : Bool} {x : State × Bool}
    (h : s.judgeStep l r o p = some x) : s.Calm x.1 := by
  obtain ⟨e, reason, -, hx, -, -⟩ | ⟨e, -, hx, hv⟩ | ⟨e, late, -, hx, hv⟩ := s.judgeStep_cases h
  · exact hx ▸ s.retire_calm l e reason
  · exact hx ▸ s.closeEntry_calm l r e hv
  · exact hx ▸ s.openFor_calm l r e late hv

theorem State.judgeLoop_calm (l : Lane) (r : Row) (o : Opening) (n : Nat) (p : Bool) :
    s.Calm (s.judgeLoop l r o n p) := by
  induction n generalizing s p with
  | zero => exact .refl s
  | succ n ih =>
    unfold State.judgeLoop
    split
    · next t q h => exact (s.judgeStep_calm h).trans (ih t q)
    · exact .refl s

theorem State.judgeChanged_calm (b : State) : s.Calm (b.judgeChanged s) :=
  .foldl (fun t v => by
    split_ifs
    · exact .refl t
    · exact t.judgeLoop_calm _ _ _ _ _) _ s

/-! ### Placing an entry -/

/-- A tally of an owner and a count. -/
theorem State.tallyCount_calm (o : Option (Slot × PieceNo)) (f : Piece → Piece) (hf : ∀ p, (f p).phase = p.phase)
    (c : Counter) (n : Nat) (hc : c ≠ .ofOutcome .flushed) : s.Calm ((s.tallyOwner o f).count c n) :=
  (s.tallyOwner_calm o f hf).trans (State.count_calm _ c n hc)

theorem State.cutEntry_calm (l : Lane) (e : Entry) (fs : List Fragment) : s.Calm (s.cutEntry l e fs) := by
  have tallied := s.tallyCount_calm e.owner Piece.tallyTrimmed (fun _ => rfl) .trimmed 1 nofun
  unfold State.cutEntry
  dsimp only
  generalize (s.tallyOwner e.owner Piece.tallyTrimmed).count .trimmed 1 = t at tallied
  split
  · exact ((tallied.trans (t.setLane_calm l _)).trans
      (State.tallyOwner_calm _ e.owner Piece.loseEntry fun _ => rfl)).trans (State.ownerDone_calm _ e.owner)
  · exact tallied.trans (t.setLane_calm l _)
  · split_ifs
    · exact (tallied.trans (t.setLane_calm l _)).trans (State.tallyOwner_calm _ e.owner Piece.gainEntry fun _ => rfl)
    · exact (tallied.trans (t.setLane_calm l _)).trans
        (State.tallyCount_calm _ e.owner Piece.tallyFull (fun _ => rfl) .droppedFull 1 nofun)

theorem State.meetEntry_calm (l : Lane) (n : Proposal) (e : Entry) (fs : List Fragment) :
    s.Calm (s.meetEntry l n e fs).2 := by
  unfold State.meetEntry
  split_ifs
  · exact s.tallyOwner_calm n.owner Piece.tallyShared fun _ => rfl
  · exact s.tallyCount_calm n.owner Piece.tallyTrimmed (fun _ => rfl) .trimmed 1 nofun
  · exact s.cutEntry_calm l e fs

theorem State.meetEntries_calm (l : Lane) (n : Proposal) (es : List Entry) (fs : List Fragment) :
    s.Calm (s.meetEntries l n es fs).2 := by
  induction es generalizing s fs with
  | nil => exact .refl s
  | cons e es ih => exact (s.meetEntry_calm l n e fs).trans (ih _ _)

theorem State.insertFragment_calm (l : Lane) (n : Proposal) (f : Fragment) : s.Calm (s.insertFragment l n f) := by
  unfold State.insertFragment
  dsimp only
  split_ifs
  · exact ((s.setLane_calm l _).trans
      (State.tallyCount_calm _ n.owner Piece.gainEntry (fun _ => rfl) .placed 1 nofun)).trans
      (State.count_calm _ .anonymous 1 nofun)
  · exact (s.setLane_calm l _).trans
      (State.tallyCount_calm _ n.owner Piece.gainEntry (fun _ => rfl) .placed 1 nofun)
  · exact s.tallyCount_calm n.owner Piece.tallyFull (fun _ => rfl) .droppedFull 1 nofun

theorem State.settleFragment_calm (l : Lane) (n : Proposal) (rd : Reading) (f : Fragment) :
    s.Calm (s.settleFragment l n rd f) := by
  unfold State.settleFragment
  split
  · exact s.insertFragment_calm l n _
  · exact s.tallyCount_calm n.owner Piece.tallyLate (fun _ => rfl) .droppedLate 1 nofun

theorem State.propose_calm (l : Lane) (n : Proposal) (rd : Reading) : s.Calm (s.propose l n rd) :=
  (s.meetEntries_calm l n _ _).trans (.foldl (fun t f => t.settleFragment_calm l n rd f) _ _)

/-! ### Placing pieces and untracked runs -/

theorem State.proposeOrLate_calm (l : Lane) (n : Proposal) (rd : Reading) : s.Calm (s.proposeOrLate l n rd) := by
  unfold State.proposeOrLate
  split_ifs
  · exact (s.tallyOwner_calm n.owner Piece.tallyPlanned fun _ => rfl).trans (State.propose_calm _ l n rd)
  · exact s.tallyCount_calm n.owner Piece.tallyLate (fun _ => rfl) .droppedLate 1 nofun

theorem State.proposeBlow_calm (l : Lane) (r : Row) (n : Proposal) (rd : Reading) :
    s.Calm (s.proposeBlow l r n rd) := by
  unfold State.proposeBlow
  split_ifs
  · exact s.proposeOrLate_calm l n rd
  · exact s.tallyOwner_calm n.owner Piece.tallyUnavailable fun _ => rfl

theorem State.placePiece_calm (i : Slot) (p : Piece) (c : Classification) (a b : Nat) (x : Run) :
    s.Calm (s.placePiece i p c a b x) := by
  have fresh : s.Calm (s.updatePiece i fun q => { q with tallies := {}, pendingEntries := 0 }) :=
    s.updatePiece_calm i _ fun _ => rfl
  unfold State.placePiece
  dsimp only
  refine State.Calm.trans (State.Calm.trans ?placed (State.completeIfDone_calm _ i)) (State.judgeChanged_calm _ s)
  case placed =>
    split
    · exact fresh.trans (.foldl (fun t l => t.proposeBlow_calm l _ _ _) _ _)
    · split_ifs
      · exact fresh
      · exact fresh.trans (.foldl (fun t l => t.proposeOrLate_calm l _ _) _ _)

theorem State.placeOverflow_calm (l : Lane) (r : Row) (a b : Nat) (rd : Reading) :
    s.Calm (s.placeOverflow l r a b rd) := by
  unfold State.placeOverflow
  dsimp only
  split
  · split_ifs
    · exact (s.setLane_calm l _).trans (State.propose_calm _ l _ rd)
    · exact s.setLane_calm l _
  · exact s.propose_calm l _ rd

theorem State.placeUntracked_calm (a b : Nat) (rs : List Run) : s.Calm (s.placeUntracked a b rs) := by
  unfold State.placeUntracked
  split
  · exact .refl s
  · refine State.Calm.trans (.foldl (fun t l => ?_) _ s) (State.judgeChanged_calm _ s)
    split_ifs
    · exact t.placeOverflow_calm l _ _ _ _
    · exact t.count_calm .droppedLate 1 nofun
    · exact .refl t

theorem State.placeHandoff_calm (h : Handoff) : s.Calm (s.placeHandoff h) := by
  unfold State.placeHandoff
  split
  · exact s.placeUntracked_calm _ _ _
  · split
    · split
      · split_ifs
        · exact s.placePiece_calm _ _ _ _ _ _
        · exact .refl s
      · exact .refl s
    · exact .refl s

theorem State.placeAllHandoffs_calm : s.Calm s.placeAllHandoffs :=
  State.Calm.trans (t := { s with lsc.handoffs := [] }) (.of_parts rfl rfl rfl rfl rfl)
    (.foldl (fun t h => t.placeHandoff_calm h) _ _)

end Ops

end Sys2Proof.Machine
end

section
/-! SUPPORT. The end of one piece, the hand-offs placed by their own commands and the requests SORT_START and SORT_STOP
(R83, R84, R123, R170 to R173). -/
-- One proof at a time: elaborated side by side, the proofs take more stacks than the check's memory holds.
set_option Elab.async false
namespace Sys2Proof.Machine

/-! ### The end of one piece -/

section One
variable (s : State) (p : Piece) (o : PieceOutcome)

theorem State.get_count_of_ne {c d : Counter} (hc : c ≠ d) (n : Nat) : (s.count d n).sta.get c = s.sta.get c :=
  (State.get_count s d c n).trans (if_neg hc.symm)

theorem State.get_count_count {c d : Counter} (hc : c ≠ d) (n m : Nat) (e : Counter) :
    ((s.count d n).count e m).sta.get c = (s.count e m).sta.get c := by
  have hd := s.get_count_of_ne hc n
  rw [State.get_count _ e c, State.get_count s e c]
  split_ifs with he
  · rw [he, hd]
  · exact hd

/-- A count beforehand changes neither the notice of a piece nor the other counts it raises. -/
theorem State.offerPiece_count (d : Counter) (n : Nat) : ((s.count d n).offerPiece p o).lnk = (s.offerPiece p o).lnk ∧
    ∀ c, c ≠ d → ((s.count d n).offerPiece p o).sta.get c = (s.offerPiece p o).sta.get c := by
  have hmasked : (s.count d n).masked 1 = s.masked 1 := rfl
  unfold State.offerPiece
  rw [hmasked, State.count_lnk]
  split_ifs
  · exact ⟨rfl, fun c hc => s.get_count_count hc n 1 .suppressed⟩
  · exact ⟨rfl, fun c hc => s.get_count_count hc n 1 .piecesLost⟩
  · exact ⟨rfl, fun c hc => s.get_count_of_ne hc n⟩

/-- A piece ended: its outcome counted, its notice offered, its slot freed and its pin released (R83, R84, R103, R104,
R166). -/
theorem State.endPiece_spec {s : State} {i : Slot} {p : Piece} (h : s.piece i = some p) (o : PieceOutcome) :
    let t := s.endPiece o i
    t.rcs.banks = put s.rcs.banks p.bank (s.bank p.bank).unpin ∧ t.lnk = (s.offerPiece p o).lnk ∧
      ∀ c, t.sta.get c =
        if c = .ofOutcome o then min 4294967295 (s.sta.get c + 1) else (s.offerPiece p o).sta.get c := by
  obtain ⟨hlnk, hcounts⟩ := s.offerPiece_count p o (.ofOutcome o) 1
  have hslot : ((s.count (.ofOutcome o) 1).offerPiece p o).piece i = some p := by
    rw [State.piece_congr (State.offerPiece_seg _ p o)]
    exact h
  have hrcs : ((s.count (.ofOutcome o) 1).offerPiece p o).rcs = s.rcs := State.offerPiece_rcs _ p o
  refine ⟨?_, ?_, fun c => ?_⟩
  · rw [State.endPiece_of_piece h, State.releaseSlot_of_piece hslot]
    simp only [State.bank, hrcs]
  · obtain ⟨-, -, -, hrelease⟩ := State.releaseSlot_parts ((s.count (.ofOutcome o) 1).offerPiece p o) i
    rw [State.endPiece_of_piece h, hrelease, hlnk]
  · split_ifs with hc
    · rw [hc, State.endPiece_outcome, if_neg (by simp [h])]
    · rw [State.endPiece_of_piece h, State.releaseSlot_sta, hcounts c hc]

end One

/-! ### Hand-offs placed by their own commands -/

section Handoffs
variable {t r : State}

/-- The only hand-off that waits leaves an empty list behind. -/
theorem State.dropHandoff_only (h : t.lsc.handoffs = []) (x : Handoff) :
    State.dropHandoff x { t with lsc.handoffs := [x] } = t := by
  have herase : [x].erase x = t.lsc.handoffs := by rw [h, List.erase_cons_head]
  unfold State.dropHandoff
  dsimp only
  rw [herase]

theorem exec_placePiece_only (src : HandoffSource) (i : Slot) (h : t.lsc.handoffs = [])
    (hr : exec (.placePiece src) { t with lsc.handoffs := [.piece src i] } = .next r) :
    t.placeHandoff (.piece src i) = r := by
  have hfirst : State.oldestHandoff { t with lsc.handoffs := [.piece src i] } src = some (.piece src i) :=
    List.find?_cons_of_pos (beq_self_eq_true src)
  have hdrop := State.dropHandoff_only h (.piece src i)
  change execPlacePiece src _ = _ at hr
  unfold execPlacePiece at hr
  rw [hfirst] at hr
  dsimp only at hr
  rw [hdrop] at hr
  have hpiece : State.piece { t with lsc.handoffs := [.piece src i] } i = t.piece i := rfl
  rw [hpiece] at hr
  unfold State.placeHandoff
  dsimp only
  cases hp : t.piece i with
  | none => rw [hp] at hr; cases hr
  | some p =>
    rw [hp] at hr
    dsimp only at hr ⊢
    cases hg : p.ground with
    | none => rw [hg] at hr; cases hr
    | some g =>
      rw [hg] at hr
      dsimp only at hr ⊢
      split_ifs at hr ⊢
      cases hr
      rfl

theorem exec_placeUntracked_only (q : SeqNo) (a b : Nat) (runs : List Run) (h : t.lsc.handoffs = [])
    (hr : exec .placeUntracked { t with lsc.handoffs := [.untracked q a b runs] } = .next r) :
    t.placeHandoff (.untracked q a b runs) = r := by
  have hnext : exec .placeUntracked { t with lsc.handoffs := [.untracked q a b runs] } =
      .next ((State.dropHandoff (.untracked q a b runs)
        { t with lsc.handoffs := [.untracked q a b runs] }).placeUntracked a b runs) := rfl
  rw [hnext, State.dropHandoff_only h] at hr
  cases hr
  rfl

end Handoffs

/-! ### SORT_START -/

section Start
variable {s : State} {f : Frame} {rest : List Frame}

theorem State.hasActive_iff (s : State) : s.hasActive = true ↔ ∃ b, (s.bank b).state = .active := by
  simp [State.hasActive, State.bankIn, List.find?_isSome, Fin.exists_fin_two]

theorem exec_sortStart_state (h : s.asked 0x07 f rest) (hbody : f.body = []) (hstate : s.eng.state ≠ .idle) :
    exec .sortStart s = .next (s.answered f rest .state (toBytes 1 s.eng.state.code)) :=
  State.takeRequest_bodiless h hbody rfl (if_pos hstate)

theorem exec_sortStart_notReady (h : s.asked 0x07 f rest) (hbody : f.body = []) (hstate : s.eng.state = .idle)
    (hnot : s.blt.valid = false ∨ s.hasActive = false) : exec .sortStart s =
      .next (s.answered f rest .notReady (toBytes 1 (bit (!s.blt.valid) 1 + bit (!s.hasActive) 2))) :=
  State.takeRequest_bodiless h hbody rfl ((if_neg (not_not_intro hstate)).trans (if_pos hnot))

theorem exec_sortStart (h : s.asked 0x07 f rest) (hbody : f.body = []) (hstate : s.eng.state = .idle)
    (hvalid : s.blt.valid = true) (hactive : s.hasActive = true) :
    exec .sortStart s = .next (State.answered (State.setEngine .sorting .sortStart s) f rest .ok []) := by
  have hact : (s.unqueued rest).sortStart = (State.setEngine .sorting .sortStart (s.unqueued rest)).accept [] :=
    (if_neg (not_not_intro hstate)).trans (if_neg (by
      show ¬ (s.blt.valid = false ∨ s.hasActive = false)
      simp [hvalid, hactive]))
  refine (State.takeRequest_asked h rfl (by rw [hbody]; rfl)).trans ?_
  rw [hact, State.setEngine_unqueued]
  rfl

end Start

/-! ### SORT_STOP -/

theorem EngState.running_iff (e : EngState) : e.running = true ↔ e = .sorting ∨ e = .draining := by
  cases e <;> decide

section Stop
variable {s : State} {body : List Byte}

theorem State.sortStop_range (h : 1 < byteAt body 0) : s.sortStop body = s.refuse .range [] := if_pos h

theorem State.sortStop_state (hmode : byteAt body 0 ≤ 1)
    (h : ¬ (s.eng.state = .sorting ∨ s.eng.state = .draining)) : s.sortStop body = s.refuse .state [] := by
  rw [← EngState.running_iff, Bool.not_eq_true] at h
  exact (if_neg (Nat.not_lt.mpr hmode)).trans (if_pos h)

theorem State.sortStop_running (hmode : byteAt body 0 ≤ 1) (h : s.eng.state = .sorting ∨ s.eng.state = .draining) :
    s.sortStop body = if byteAt body 0 = 0 then s.stopDrain.accept [] else
      s.stopAbandon.accept (toBytes 2 s.unscheduled) := by
  rw [← EngState.running_iff, ← Bool.not_eq_false] at h
  exact (if_neg (Nat.not_lt.mpr hmode)).trans (if_neg h)

/-- DRAIN from SORTING: DRAINING, and IDLE at once where no slot is occupied (R171, R173). -/
theorem State.stopDrain_sorting (h : s.eng.state = .sorting) : s.stopDrain =
    if s.occupied = 0 then State.setEngine .idle .drained (State.setEngine .draining .stopDrain s)
    else State.setEngine .draining .stopDrain s := by
  have hstate : (State.setEngine .draining .stopDrain s).eng.state = .draining := by rw [State.setEngine_eng]
  unfold State.stopDrain
  rw [if_pos h]
  unfold State.judgeDrained
  simp only [hstate, State.occupied_congr (s.setEngine_seg .draining .stopDrain), true_and]

theorem State.stopDrain_unqueued (rest : List Frame) (h : s.eng.state = .sorting) :
    (s.unqueued rest).stopDrain = s.stopDrain.unqueued rest := by
  have hocc : (s.unqueued rest).occupied = s.occupied := State.occupied_congr rfl
  rw [State.stopDrain_sorting h, State.stopDrain_sorting (s := s.unqueued rest) h, hocc, State.setEngine_unqueued,
    State.setEngine_unqueued]
  split_ifs <;> rfl

end Stop

section StopRequests
variable {s : State} {f : Frame} {rest : List Frame} (h : s.asked 0x08 f rest) (hlen : f.body.length = 1)
include h hlen

theorem exec_sortStop_range (hmode : 1 < byteAt f.body 0) :
    exec .sortStopDrain s = .next (s.answered f rest .range []) ∧
      exec .sortStopAbandon s = .next (s.answered f rest .range []) :=
  ⟨State.takeRequest_answered h (notOther_of_ne (by omega)) (by rw [hlen]; rfl) (State.sortStop_range hmode),
    State.takeRequest_answered h (notOther_of_ne (by omega)) (by rw [hlen]; rfl) (State.sortStop_range hmode)⟩

theorem exec_sortStopDrain_state (hmode : byteAt f.body 0 = 0)
    (hstate : ¬ (s.eng.state = .sorting ∨ s.eng.state = .draining)) :
    exec .sortStopDrain s = .next (s.answered f rest .state []) :=
  State.takeRequest_answered h (notOther_of_ne (by omega)) (by rw [hlen]; rfl)
    (State.sortStop_state (s := s.unqueued rest) (by omega) hstate)

theorem exec_sortStopDrain_draining (hmode : byteAt f.body 0 = 0) (hstate : s.eng.state = .draining) :
    exec .sortStopDrain s = .next (s.answered f rest .ok []) := by
  have hstand : (s.unqueued rest).stopDrain = s.unqueued rest :=
    if_neg (show s.eng.state ≠ .sorting by rw [hstate]; nofun)
  refine State.takeRequest_answered h (notOther_of_ne (by omega)) (by rw [hlen]; rfl) ?_
  rw [State.sortStop_running (s := s.unqueued rest) (by omega) (.inr hstate), if_pos hmode, hstand]
  rfl

theorem exec_sortStopDrain_sorting (hmode : byteAt f.body 0 = 0) (hstate : s.eng.state = .sorting) :
    exec .sortStopDrain s = .next (State.answered
      (if s.occupied = 0 then State.setEngine .idle .drained (State.setEngine .draining .stopDrain s)
       else State.setEngine .draining .stopDrain s) f rest .ok []) := by
  refine (State.takeRequest_asked h (notOther_of_ne (by omega)) (by rw [hlen]; rfl)).trans ?_
  rw [State.sortStop_running (s := s.unqueued rest) (by omega) (.inl hstate), if_pos hmode,
    State.stopDrain_unqueued rest hstate, State.stopDrain_sorting hstate]
  rfl

theorem exec_sortStopAbandon_state (hmode : byteAt f.body 0 = 1)
    (hstate : ¬ (s.eng.state = .sorting ∨ s.eng.state = .draining)) :
    exec .sortStopAbandon s = .next (s.answered f rest .state []) :=
  State.takeRequest_answered h (notOther_of_ne (by omega)) (by rw [hlen]; rfl)
    (State.sortStop_state (s := s.unqueued rest) (by omega) hstate)

theorem exec_sortStopAbandon (hmode : byteAt f.body 0 = 1)
    (hstate : s.eng.state = .sorting ∨ s.eng.state = .draining) :
    exec .sortStopAbandon s =
      .next ((s.unqueued rest).stopAbandon.replied f .ok (toBytes 2 (s.unqueued rest).unscheduled)) := by
  refine (State.takeRequest_asked h (notOther_of_ne (by omega)) (by rw [hlen]; rfl)).trans ?_
  rw [State.sortStop_running (s := s.unqueued rest) (by omega) hstate, if_neg (by omega)]
  rfl

end StopRequests

/-! ### An abandon -/

/-- An abandon has begun: DRAINING, or IDLE already with no slot occupied (R172, R173). -/
def State.ending (s : State) : Prop := s.eng.state = .draining ∨ (s.eng.state = .idle ∧ s.occupied = 0)

section Abandon
variable {s : State}

theorem State.judgeDrained_ending (h : s.ending) :
    s.judgeDrained.eng.state = if s.occupied = 0 then .idle else .draining := by
  rw [State.judgeDrained_state]
  obtain hd | ⟨hi, hocc⟩ := h
  · simp [hd]
  · simp [hi, hocc]

theorem State.ending_judgeDrained (h : s.ending) : s.judgeDrained.ending := by
  have hocc : s.judgeDrained.occupied = s.occupied := State.occupied_congr s.judgeDrained_seg
  unfold State.ending
  rw [State.judgeDrained_ending h, hocc]
  split_ifs with h0
  · exact .inr ⟨rfl, h0⟩
  · exact .inl rfl

theorem State.ending_endStep (h : s.ending) (o : PieceOutcome) (i : Slot) : (s.endStep o true i).ending := by
  refine State.ending_judgeDrained ?_
  unfold State.ending
  rw [State.endPiece_eng]
  refine h.imp_right fun ⟨hi, hocc⟩ => ⟨hi, ?_⟩
  rwa [State.endPiece_of_free (State.occupied_eq_zero.mp hocc i)]

theorem State.ending_foldl (o : PieceOutcome) (is : List Slot) (h : s.ending) :
    (is.foldl (State.endStep o true) s).ending := by
  induction is generalizing s with
  | nil => exact h
  | cons i is ih => exact ih (State.ending_endStep h o i)

theorem State.ending_endHeld (o : PieceOutcome) (h : s.ending) : (s.endHeld o true).ending :=
  State.ending_foldl o _ (s := State.emptied _) (State.ending_foldl o _ h)

/-- The state in which an abandon begins to end pieces (R172). -/
def State.abandoning (s : State) : State :=
  if s.eng.state = .sorting then s.setEngine .draining .stopAbandon else s

theorem State.stopAbandon_eq (s : State) : s.stopAbandon = (s.abandoning.endHeld .abandoned true).judgeDrained :=
  congrArg State.judgeDrained s.abandoning.abandon_eq

theorem State.abandoning_parts (s : State) : s.abandoning.seg = s.seg ∧ s.abandoning.cls = s.cls ∧
    s.abandoning.lsc = s.lsc ∧ s.abandoning.vdr = s.vdr ∧ s.abandoning.eng.flags = s.eng.flags ∧
    ∀ o, s.abandoning.sta.get (.ofOutcome o) = s.sta.get (.ofOutcome o) := by
  unfold State.abandoning
  split_ifs
  · exact ⟨s.setEngine_seg _ _, s.setEngine_cls _ _, s.setEngine_lsc _ _, s.setEngine_vdr _ _,
      by rw [State.setEngine_eng], s.setEngine_outcome _ _⟩
  · exact ⟨rfl, rfl, rfl, rfl, rfl, fun _ => rfl⟩

theorem State.ending_abandoning (h : s.eng.state = .sorting ∨ s.eng.state = .draining) : s.abandoning.ending := by
  refine .inl ?_
  unfold State.abandoning
  split_ifs with hs
  · rw [State.setEngine_eng]
  · exact h.resolve_left hs

/-- What an abandon comes to (R172, R173). -/
theorem State.stopAbandon_spec (h : s.eng.state = .sorting ∨ s.eng.state = .draining) :
    let t := s.stopAbandon
    t.steady = s.steady ∧ t.lsc = s.lsc ∧ t.vdr = s.vdr ∧ t.cls = { queue := [], walk := none } ∧
      (∀ i, t.piece i = if s.slotIs .openPiece i = true ∨ i ∈ s.cls.queue ∨
        (∃ w, s.cls.walk = some w ∧ w.slot = i) then none else s.piece i) ∧
      (s.sta.get (.ofOutcome .abandoned) ≤ 4294967295 → t.sta.get (.ofOutcome .abandoned) =
        min 4294967295 (s.sta.get (.ofOutcome .abandoned) + (s.occupied - t.occupied))) ∧
      t.eng.flags = s.eng.flags ∧ t.eng.state = (if t.occupied = 0 then .idle else .draining) := by
  obtain ⟨hseg, hcls, hlsc, hvdr, hflags, houtcome⟩ := s.abandoning_parts
  obtain ⟨hcls', hlsc', hvdr', hflags', -⟩ := s.abandoning.endHeld_parts .abandoned true
  have hpiece := s.abandoning.piece_endHeld .abandoned true
  have hcount := s.abandoning.endHeld_count .abandoned true
  have hending := State.ending_endHeld .abandoned (State.ending_abandoning h)
  dsimp only
  refine ⟨s.stopAbandon_steady, ?_⟩
  rw [State.stopAbandon_eq]
  generalize s.abandoning.endHeld .abandoned true = b at *
  have hocc : b.judgeDrained.occupied = b.occupied := State.occupied_congr b.judgeDrained_seg
  refine ⟨b.judgeDrained_lsc.trans (hlsc'.trans hlsc), b.judgeDrained_vdr.trans (hvdr'.trans hvdr),
    b.judgeDrained_cls.trans hcls', fun i => ?_, fun hmax => ?_,
    b.judgeDrained_flags.trans (hflags'.trans hflags), ?_⟩
  · rw [State.piece_congr b.judgeDrained_seg, hpiece, hcls, State.slotIs_congr hseg, State.piece_congr hseg]
  · rw [State.judgeDrained_outcome, hocc, (hcount (by rwa [houtcome])).2, houtcome, State.occupied_congr hseg]
  · rw [State.judgeDrained_ending hending, hocc]

theorem State.unscheduled_eq (s : State) :
    s.unscheduled = s.openCount + (s.cls.queue.length + if s.cls.walk = none then 0 else 1) := by
  unfold State.unscheduled Cls.held
  cases s.cls.walk <;> simp [Nat.add_comm]

end Abandon

end Sys2Proof.Machine
end

section
/-! SUPPORT. A flush (R84, R103, R146, R166, R179): the valves closed, the SCHEDULED pieces ended and the engine
state. -/
-- One proof at a time: elaborated side by side, the proofs take more stacks than the check's memory holds.
set_option Elab.async false
namespace Sys2Proof.Machine

/-! ### The valves -/

theorem Valve.recovering_ne_opened (v : Valve) (n : Nat) : (v.recovering n).state ≠ .opened := by
  unfold Valve.recovering
  split_ifs <;> nofun

/-- What a valve comes to at a flush (R166). -/
def Valve.flushed (v : Valve) (minOff : Nat) : Valve := if v.state = .opened then v.recovering minOff else v

theorem Valve.flushed_ne_opened (v : Valve) (n : Nat) : (v.flushed n).state ≠ .opened := by
  unfold Valve.flushed
  split_ifs with h
  · exact v.recovering_ne_opened n
  · exact h

theorem Valve.flushed_of_not_opened {v : Valve} (h : v.state ≠ .opened) (n : Nat) : v.flushed n = v := if_neg h

theorem State.own_congr {s t : State} (h : t.steady = s.steady) : t.own = s.own := by
  have hcdu : t.cdu = s.cdu := congrArg Steady.cdu h
  funext i
  simp only [State.own, hcdu]

section Valves
variable (s : State)

theorem State.flushValve_parts (l : Lane) (r : Row) : (s.flushValve l r).lsc = s.lsc ∧
    (s.flushValve l r).eng = s.eng ∧ (s.flushValve l r).seg = s.seg ∧ (s.flushValve l r).cls = s.cls ∧
    (s.flushValve l r).sta = s.sta := by
  unfold State.flushValve
  split_ifs
  · exact ⟨s.setValve_lsc l r _, s.setValve_eng l r _, s.setValve_seg l r _, s.setValve_cls l r _,
      s.setValve_sta l r _⟩
  · exact ⟨rfl, rfl, rfl, rfl, rfl⟩

theorem State.valve_flushValve (l m : Lane) (r q : Row) : (s.flushValve l r).valve m q =
    if l = m ∧ r = q then (s.valve m q).flushed (s.own .minOff) else s.valve m q := by
  unfold State.flushValve Valve.flushed
  split_ifs with hopen heq hm heq hm
  · obtain ⟨rfl, rfl⟩ := heq
    exact (State.valve_setValve l l r r _).trans (if_pos ⟨rfl, rfl⟩)
  · obtain ⟨rfl, rfl⟩ := heq
    exact absurd hopen hm
  · exact (State.valve_setValve l m r q _).trans (if_neg heq)
  · obtain ⟨rfl, rfl⟩ := heq
    exact absurd hm hopen
  all_goals rfl

/-- Valves flushed one after another: what stands as it is. -/
theorem State.foldl_flushValve_parts (vs : List (Lane × Row)) (s : State) :
    let t := vs.foldl (fun u v => u.flushValve v.1 v.2) s
    t.lsc = s.lsc ∧ t.eng = s.eng ∧ t.seg = s.seg ∧ t.cls = s.cls ∧ t.sta = s.sta := by
  induction vs generalizing s with
  | nil => exact ⟨rfl, rfl, rfl, rfl, rfl⟩
  | cons v vs ih =>
    obtain ⟨hlsc, heng, hseg, hcls, hsta⟩ := ih (s.flushValve v.1 v.2)
    obtain ⟨hlsc', heng', hseg', hcls', hsta'⟩ := s.flushValve_parts v.1 v.2
    exact ⟨hlsc.trans hlsc', heng.trans heng', hseg.trans hseg', hcls.trans hcls', hsta.trans hsta'⟩

theorem State.valve_foldl_flushValve (vs : List (Lane × Row)) (s : State) (l : Lane) (r : Row) :
    (vs.foldl (fun u v => u.flushValve v.1 v.2) s).valve l r =
      if (l, r) ∈ vs then (s.valve l r).flushed (s.own .minOff) else s.valve l r := by
  induction vs generalizing s with
  | nil => rfl
  | cons v vs ih =>
    obtain ⟨m, q⟩ := v
    rw [List.foldl_cons, ih, State.own_congr (s.flushValve_steady m q), State.valve_flushValve]
    by_cases hv : m = l ∧ q = r
    · obtain ⟨rfl, rfl⟩ := hv
      simp [Valve.flushed_of_not_opened (Valve.flushed_ne_opened _ _)]
    · have hne : (l, r) ≠ (m, q) := fun h => hv (by cases h; exact ⟨rfl, rfl⟩)
      simp [hv, hne]

/-- With MIN_OFF_US read once. -/
theorem State.foldl_flushValve_eq (vs : List (Lane × Row)) {s : State} {n : Nat} (hn : s.own .minOff = n) :
    vs.foldl (fun u v => u.flushValve v.1 v.2) s = vs.foldl (fun t v =>
      if (t.valve v.1 v.2).state = .opened then t.setValve v.1 v.2 ((t.valve v.1 v.2).recovering n) else t) s := by
  induction vs generalizing s with
  | nil => rfl
  | cons v vs ih =>
    rw [List.foldl_cons, List.foldl_cons, ih (by rw [State.own_congr (s.flushValve_steady v.1 v.2), hn])]
    subst hn
    rfl

end Valves

/-! ### The SCHEDULED pieces -/

/-- The SCHEDULED pieces ended FLUSHED, none of them with entries any more (R146, R166). -/
def State.endScheduled (s : State) : State :=
  (s.slotsIn .scheduled).foldl (State.endStep .flushed false)
    ((s.slotsIn .scheduled).foldl (fun t i => t.updatePiece i Piece.withoutEntries) s)

theorem State.flushValves_eq (s : State) :
    s.flushValves = (valveOrder.foldl (fun u v => u.flushValve v.1 v.2) s).endScheduled := rfl

section Scheduled
variable (s : State)

theorem State.foldl_withoutEntries_piece (is : List Slot) (hnodup : is.Nodup) (i : Slot) (s : State) :
    (is.foldl (fun t j => t.updatePiece j Piece.withoutEntries) s).piece i = none ↔ s.piece i = none := by
  rw [State.foldl_updatePiece _ is hnodup]
  split_ifs <;> simp

theorem State.endScheduled_parts : s.endScheduled.cls = s.cls ∧ s.endScheduled.lsc = s.lsc ∧
    s.endScheduled.vdr = s.vdr ∧ s.endScheduled.eng = s.eng := by
  unfold State.endScheduled
  obtain ⟨hcls, hlsc, hvdr, -, -⟩ := State.foldl_endStep_parts .flushed false (s.slotsIn .scheduled)
    ((s.slotsIn .scheduled).foldl (fun t i => t.updatePiece i Piece.withoutEntries) s)
  rw [hcls, hlsc, hvdr, State.foldl_endPiece_eng, State.foldl_updatePiece_eq]
  exact ⟨rfl, rfl, rfl, rfl⟩

theorem State.endScheduled_piece {i : Slot} (h : s.piece i ≠ none → s.slotIs .scheduled i = true) :
    s.endScheduled.piece i = none := by
  unfold State.endScheduled
  rw [State.foldl_endStep_piece]
  split_ifs with hi
  · rfl
  · rw [State.foldl_withoutEntries_piece _ (s.nodup_slotsIn _)]
    by_contra hp
    exact hi (List.mem_filter.mpr ⟨List.mem_finRange i, h hp⟩)

theorem State.endScheduled_count (h : s.sta.get (.ofOutcome .flushed) ≤ 4294967295) :
    s.endScheduled.sta.get (.ofOutcome .flushed) =
      min 4294967295 (s.sta.get (.ofOutcome .flushed) + (s.occupied - s.endScheduled.occupied)) := by
  have hpieces := State.foldl_withoutEntries_piece (s.slotsIn .scheduled) (s.nodup_slotsIn _)
  have hsta : ((s.slotsIn .scheduled).foldl (fun t i => t.updatePiece i Piece.withoutEntries) s).sta = s.sta := by
    rw [State.foldl_updatePiece_eq]
  have hocc : ((s.slotsIn .scheduled).foldl (fun t i => t.updatePiece i Piece.withoutEntries) s).occupied =
      s.occupied := by
    unfold State.occupied
    refine congrArg List.length (List.filter_congr fun i _ => ?_)
    rw [Bool.eq_iff_iff, Option.isSome_iff_ne_none, Option.isSome_iff_ne_none]
    exact not_congr (hpieces i s)
  have hcount := (State.foldl_endStep_count .flushed false (s.slotsIn .scheduled)
    ((s.slotsIn .scheduled).foldl (fun t i => t.updatePiece i Piece.withoutEntries) s) (by rwa [hsta])).2
  rwa [hsta, hocc] at hcount

end Scheduled

/-! ### The whole flush -/

section Draining
variable (s : State)

theorem State.endDraining_parts : s.endDraining.cls = s.cls ∧ s.endDraining.lsc = s.lsc ∧
    s.endDraining.vdr = s.vdr ∧ s.endDraining.seg = s.seg ∧ s.endDraining.eng.flags = s.eng.flags ∧
    s.endDraining.eng.state = (if s.eng.state = .draining then .idle else s.eng.state) ∧
    s.endDraining.sta.get (.ofOutcome .flushed) = s.sta.get (.ofOutcome .flushed) := by
  unfold State.endDraining
  split_ifs
  · exact ⟨s.setEngine_cls _ _, s.setEngine_lsc _ _, s.setEngine_vdr _ _, s.setEngine_seg _ _,
      by rw [State.setEngine_eng], by rw [State.setEngine_eng], s.setEngine_outcome _ _ _⟩
  · exact ⟨rfl, rfl, rfl, rfl, rfl, rfl, rfl⟩

end Draining

/-- A flush after the hand-offs that waited are placed. -/
def State.flushedOf (a : State) : State :=
  (valveOrder.foldl (fun u v => u.flushValve v.1 v.2)
    (a.endHeld .flushed false).flushLanes).endScheduled.endDraining

theorem State.flushed_eq (s : State) : s.flushed = s.placeAllHandoffs.flushedOf := by
  unfold State.flushed State.flushedOf
  rw [State.flush_eq, State.flushValves_eq]

section Flushed
variable (a : State)

/-- What stands, and what is emptied, at the end of a flush (R146, R166, R179). -/
theorem State.flushedOf_parts :
    a.flushedOf.lsc = { lanes := Vector.replicate 48 [], handoffs := [] } ∧
      a.flushedOf.cls = { queue := [], walk := none } ∧ a.flushedOf.eng.flags = a.eng.flags ∧
      a.flushedOf.eng.state = (if a.eng.state = .draining then .idle else a.eng.state) ∧
      ∀ l r, a.flushedOf.valve l r = (a.valve l r).flushed (a.own .minOff) := by
  obtain ⟨hcls, -, hvdr, -, hsteady⟩ := a.endHeld_parts .flushed false
  have heng := a.endHeld_eng .flushed
  unfold State.flushedOf
  generalize a.endHeld .flushed false = c at *
  have hvalve := State.valve_foldl_flushValve valveOrder c.flushLanes
  obtain ⟨hlsc₁, heng₁, -, hcls₁, -⟩ := State.foldl_flushValve_parts valveOrder c.flushLanes
  generalize valveOrder.foldl (fun u v => u.flushValve v.1 v.2) c.flushLanes = e at *
  obtain ⟨hcls₂, hlsc₂, hvdr₂, heng₂⟩ := e.endScheduled_parts
  obtain ⟨hcls₃, hlsc₃, hvdr₃, -, hflags₃, hstate₃, -⟩ := e.endScheduled.endDraining_parts
  refine ⟨hlsc₃.trans (hlsc₂.trans hlsc₁), hcls₃.trans (hcls₂.trans (hcls₁.trans hcls)), ?_, ?_,
    fun l r => ?_⟩
  · rw [hflags₃, heng₂, heng₁]
    exact congrArg Eng.flags heng
  · rw [hstate₃, heng₂, heng₁]
    show (if c.eng.state = .draining then _ else c.eng.state) = _
    rw [heng]
  · have hown : c.flushLanes.own = a.own := State.own_congr (c.flushLanes_steady.trans hsteady)
    have hsame : c.flushLanes.valve l r = a.valve l r := by
      show (look c.vdr.valves l).get r = _
      rw [hvdr]
      rfl
    have hlast : e.endScheduled.endDraining.valve l r = e.valve l r := by simp only [State.valve, hvdr₃, hvdr₂]
    rw [hlast, hvalve, if_pos (mem_valveOrder l r), hown, hsame]

variable (hheld : ∀ i p, a.piece i = some p → p.phase = .queued ∨ p.phase = .walking → i ∈ a.cls.held)
include hheld

/-- Every piece ends at a flush where the classifier holds those that are QUEUED or WALKING (R179). -/
theorem State.flushedOf_piece (i : Slot) : a.flushedOf.piece i = none := by
  unfold State.flushedOf
  have hpiece := a.piece_endHeld .flushed false
  generalize a.endHeld .flushed false = c at hpiece
  obtain ⟨-, -, hseg, -, -⟩ := State.foldl_flushValve_parts valveOrder c.flushLanes
  obtain ⟨-, -, -, hseg₃, -⟩ :=
    (valveOrder.foldl (fun u v => u.flushValve v.1 v.2) c.flushLanes).endScheduled.endDraining_parts
  rw [State.piece_congr hseg₃]
  refine State.endScheduled_piece _ fun hne => ?_
  rw [State.slotIs_congr hseg]
  rw [State.piece_congr hseg] at hne
  change c.piece i ≠ none at hne
  show c.slotIs .scheduled i = true
  rw [hpiece] at hne
  split_ifs at hne with hended
  · exact absurd rfl hne
  · obtain ⟨p, hp⟩ := Option.ne_none_iff_exists'.mp hne
    refine State.slotIs_iff.mpr ⟨p, by rw [hpiece, if_neg hended, hp], ?_⟩
    have hmem := hheld i p hp
    rw [Cls.mem_held] at hmem
    rw [not_or] at hended
    cases hphase : p.phase with
    | openPiece => exact absurd (State.slotIs_iff.mpr ⟨p, hp, hphase⟩) hended.1
    | queued => exact absurd (hmem (.inl hphase)) hended.2
    | walking => exact absurd (hmem (.inr hphase)) hended.2
    | scheduled => rfl

/-- Each of them is counted. -/
theorem State.flushedOf_count (h : a.sta.get (.ofOutcome .flushed) ≤ 4294967295) :
    a.flushedOf.sta.get (.ofOutcome .flushed) =
      min 4294967295 (a.sta.get (.ofOutcome .flushed) + a.occupied) := by
  have hnone : a.flushedOf.occupied = 0 := State.occupied_eq_zero.mpr (a.flushedOf_piece hheld)
  obtain ⟨hle, hcount⟩ := a.endHeld_count .flushed false h
  unfold State.flushedOf at hnone ⊢
  generalize a.endHeld .flushed false = c at *
  obtain ⟨-, -, hseg, -, hsta⟩ := State.foldl_flushValve_parts valveOrder c.flushLanes
  generalize valveOrder.foldl (fun u v => u.flushValve v.1 v.2) c.flushLanes = e at *
  obtain ⟨-, -, -, hseg₃, -, -, hsta₃⟩ := e.endScheduled.endDraining_parts
  have hocc : e.occupied = c.occupied := State.occupied_congr hseg
  have hget : e.sta.get (.ofOutcome .flushed) = c.sta.get (.ofOutcome .flushed) := by rw [hsta]; rfl
  have hends := e.endScheduled_count (by rw [hget, hcount]; exact Nat.min_le_left _ _)
  rw [State.occupied_congr hseg₃] at hnone
  rw [hsta₃, hends, hget, hcount, hnone, hocc]
  omega

end Flushed

/-! ### The request -/

section Request
variable {s : State} {f : Frame} {rest : List Frame}

theorem exec_flush (h : s.asked 0x09 f rest) (hbody : f.body = []) : exec .flush s =
    .next ((s.unqueued rest).flushed.replied f .ok (toBytes 2 (s.unqueued rest).placeAllHandoffs.occupied)) := by
  have hact : (s.unqueued rest).flush = _ := State.flush.eq_1 _
  refine (State.takeRequest_asked h rfl (by rw [hbody]; rfl)).trans ?_
  rw [hact]
  generalize (s.unqueued rest).flushed = t
  rfl

/-- Without hand-offs that wait there is nothing to place. -/
theorem State.placeAllHandoffs_nil (h : s.lsc.handoffs = []) : s.placeAllHandoffs = s := by
  have hsame : ({ s with lsc.handoffs := [] } : State) = s := by rw [← h]
  unfold State.placeAllHandoffs
  rw [h]
  exact hsame

end Request

end Sys2Proof.Machine
end

section
/-! PROOF. SORT_START, SORT_STOP and FLUSH, and the pieces they end (R83, R84, R103, R104, R146, R166, R170 to R173,
R179). -/
-- One proof at a time: elaborated side by side, the proofs take more stacks than the check's memory holds.
set_option Elab.async false
namespace Sys2Proof.Machine

/-- The folds of the abandon as a reader writes them out. -/
theorem State.stopAbandon_folds (s : State) : s.stopAbandon =
    (s.cls.held.foldl (State.endStep .abandoned true)
      ((s.slotsIn .openPiece).foldl (State.endStep .abandoned true) s.abandoning).emptied).judgeDrained := by
  obtain ⟨hseg, hcls, -⟩ := s.abandoning_parts
  rw [State.stopAbandon_eq]
  unfold State.endHeld
  rw [hcls, State.slotsIn_congr hseg]

/-- What FLUSH comes to, with the hand-offs placed in `a` (R146, R166, R179). -/
theorem State.flushed_spec (s : State) :
    let a := s.placeAllHandoffs
    let t := s.flushed
    t.steady = s.steady ∧ (∀ l, t.lane l = []) ∧ t.lsc.handoffs = [] ∧ t.cls = { queue := [], walk := none } ∧
      t.eng.flags = s.eng.flags ∧ t.eng.state = (if s.eng.state = .draining then .idle else s.eng.state) ∧
      (∀ l r, (t.valve l r).state ≠ .opened) ∧
      (∀ l r, (s.valve l r).available = false → t.valve l r = s.valve l r) ∧
      (s.lsc.handoffs = [] → ∀ l r, t.valve l r = (s.valve l r).flushed (s.own .minOff)) ∧
      ((∀ i p, s.piece i = some p → p.phase = .queued ∨ p.phase = .walking → i ∈ s.cls.held) →
        (∀ i, t.piece i = none) ∧
        (s.sta.get (.ofOutcome .flushed) ≤ 4294967295 → t.sta.get (.ofOutcome .flushed) =
          min 4294967295 (s.sta.get (.ofOutcome .flushed) + a.occupied))) := by
  have hcalm := s.placeAllHandoffs_calm
  obtain ⟨hlsc, hcls, hflags, hstate, hvalve⟩ := s.placeAllHandoffs.flushedOf_parts
  dsimp only
  refine ⟨s.flushed_steady, ?_⟩
  rw [State.flushed_eq]
  refine ⟨fun l => ?lane, by rw [hlsc], hcls, hflags.trans hcalm.flags, ?state, fun l r => ?closed,
    fun l r hout => ?out, fun hnil l r => ?valve, fun hheld => ?pieces⟩
  case lane => simp [State.lane, hlsc]
  case state =>
    rw [hstate]
    obtain hsame | ⟨hdraining, hidle⟩ := hcalm.state
    · rw [hsame]
    · simp [hdraining, hidle]
  case closed =>
    rw [hvalve]
    exact Valve.flushed_ne_opened _ _
  case out =>
    have hclosed : (s.valve l r).state ≠ .opened := fun h => by simp [Valve.available_of_opened h] at hout
    rw [hvalve, hcalm.valve l r hout, Valve.flushed_of_not_opened hclosed]
  case valve => rw [hvalve, State.placeAllHandoffs_nil hnil]
  case pieces =>
    have hheld' : ∀ i p, s.placeAllHandoffs.piece i = some p → p.phase = .queued ∨ p.phase = .walking →
        i ∈ s.placeAllHandoffs.cls.held := by
      intro i p hp hphase
      obtain ⟨q, hq, hsame⟩ := State.slotIs_iff.mp (hcalm.slots p.phase i (State.slotIs_iff.mpr ⟨p, hp, rfl⟩))
      rw [hcalm.cls]
      exact hheld i q hq (hsame ▸ hphase)
    refine ⟨State.flushedOf_piece _ hheld', fun hmax => ?_⟩
    rw [State.flushedOf_count _ hheld' (by rwa [hcalm.flushed]), hcalm.flushed]

/-- The folds of the flush as a reader writes them out, with the settings and the classifier's pieces of its start. -/
theorem State.flushed_folds (s : State) :
    let a := s.placeAllHandoffs
    let c := s.cls.held.foldl (State.endStep .flushed false)
      ((a.slotsIn .openPiece).foldl (State.endStep .flushed false) a).emptied
    let e := valveOrder.foldl (fun t v => if (t.valve v.1 v.2).state = .opened then
        t.setValve v.1 v.2 ((t.valve v.1 v.2).recovering (s.own .minOff)) else t) c.flushLanes
    s.flushed = e.endScheduled.endDraining := by
  have hcalm := s.placeAllHandoffs_calm
  obtain ⟨-, -, -, -, hsteady⟩ := s.placeAllHandoffs.endHeld_parts .flushed false
  have hends : s.cls.held.foldl (State.endStep .flushed false)
      ((s.placeAllHandoffs.slotsIn .openPiece).foldl (State.endStep .flushed false) s.placeAllHandoffs).emptied =
      s.placeAllHandoffs.endHeld .flushed false := by
    unfold State.endHeld
    rw [hcalm.cls]
  dsimp only
  rw [hends, ← State.foldl_flushValve_eq valveOrder (n := s.own .minOff), State.flushed_eq]
  · rfl
  · rw [State.own_congr]
    exact (State.flushLanes_steady _).trans (hsteady.trans s.placeAllHandoffs_steady)

/-- Settles O45: the end of one piece, the hand-offs by their own commands, and the three requests. -/
theorem startsStopsAndFlushAct : Obligations.StartsStopsAndFlushAct := by
  refine ⟨fun s o i p hp => ?ends, fun t r src i => exec_placePiece_only src i,
    fun t r q a b runs => exec_placeUntracked_only q a b runs, fun s f rest => ?requests⟩
  case ends =>
    obtain ⟨hbanks, hlnk, hcounts⟩ := State.endPiece_spec hp o
    have hpiece := s.piece_endPiece o i
    exact ⟨by rw [hpiece, if_pos rfl], fun j hj => by rw [hpiece, if_neg hj.symm], hbanks, hlnk, hcounts,
      s.endPiece_steady o i, s.endPiece_lsc o i, s.endPiece_vdr o i, s.endPiece_cls o i, s.endPiece_eng o i⟩
  case requests =>
    intro u running held inPhase
    have hheld : held = s.cls.held := s.cls.held_eq
    clear_value held
    subst hheld
    refine ⟨fun h hbody => ?start, fun h hlen => ?stop, fun h hbody => ?flush⟩
    case start =>
      intro active
      have hactive : s.hasActive = true ↔ active := s.hasActive_iff
      refine ⟨exec_sortStart_state h hbody, fun hs hv ha => exec_sortStart h hbody hs hv (hactive.mpr ha),
        fun hs hv ha => ?_, fun hs hv ha => ?_, fun hs hv ha => ?_⟩
      · simpa [hv, hactive.mpr ha, bit] using exec_sortStart_notReady h hbody hs (.inl hv)
      · have hno : s.hasActive = false := Bool.eq_false_iff.mpr fun g => ha (hactive.mp g)
        simpa [hv, hno, bit] using exec_sortStart_notReady h hbody hs (.inr hno)
      · have hno : s.hasActive = false := Bool.eq_false_iff.mpr fun g => ha (hactive.mp g)
        simpa [hv, hno, bit] using exec_sortStart_notReady h hbody hs (.inl hv)
    case stop =>
      intro mode
      refine ⟨exec_sortStop_range h hlen, fun hmode => ⟨exec_sortStopDrain_state h hlen hmode,
        exec_sortStopDrain_draining h hlen hmode, exec_sortStopDrain_sorting h hlen hmode⟩,
        fun hmode => ⟨exec_sortStopAbandon_state h hlen hmode, fun hrun => ?abandon⟩⟩
      case abandon =>
        intro drained ended a b t
        have ht : t = u.stopAbandon := u.stopAbandon_folds.symm
        rw [ht]
        refine ⟨?_, State.stopAbandon_spec (s := u) hrun⟩
        refine (exec_sortStopAbandon h hlen hmode hrun).trans ?_
        rw [State.unscheduled_eq]
        rfl
    case flush =>
      intro a b c e g t
      have ha : a = u.placeAllHandoffs := rfl
      have hb : b = (a.slotsIn .openPiece).foldl (State.endStep .flushed false) a := rfl
      have hc : c = s.cls.held.foldl (State.endStep .flushed false) b.emptied := rfl
      have he : e = valveOrder.foldl (fun t v => if (t.valve v.1 v.2).state = .opened then
        t.setValve v.1 v.2 ((t.valve v.1 v.2).recovering (u.own .minOff)) else t) c.flushLanes := rfl
      have hg : g = e.endScheduled := rfl
      have ht : t = g.endDraining := rfl
      rw [hg, he, hc, hb, ha] at ht
      have hflushed : t = u.flushed := ht.trans u.flushed_folds.symm
      obtain ⟨hsteady, hlane, hhandoffs, hcls, hflags, hstate, hclosed, hout, hvalve, hpieces⟩ := u.flushed_spec
      rw [hflushed]
      exact ⟨exec_flush h hbody, hsteady, hlane, hhandoffs, hcls, hflags, hstate, hclosed, hout,
        fun hnil => ⟨State.placeAllHandoffs_nil (s := u) hnil, hvalve hnil⟩, hpieces⟩

end Sys2Proof.Machine
end

section
/-! PROOF. The sixteen features by their formulas and within their ranges (R90 to R95). -/
-- One proof at a time: elaborated side by side, the proofs take more stacks than the check's memory holds.
set_option Elab.async false
namespace Sys2Proof.Machine

/-! ### Quotients within bounds -/

/-- A mean rounded to nearest lies where the values it is the mean of lie. -/
theorem roundNear_mem {n lo hi : Int} {d : Nat} (hd : 0 < d) (hlo : lo * d ≤ n) (hhi : n ≤ hi * d) :
    lo ≤ roundNear n d ∧ roundNear n d ≤ hi := by
  obtain ⟨hnear, -⟩ := roundNear_spec n hd
  obtain ⟨hover, hunder⟩ := abs_le.mp (show |(d : Int) * roundNear n d - n| ≤ d - 1 by omega)
  have hd' : (0 : Int) < d := Int.natCast_pos.mpr hd
  constructor
  · refine Int.le_of_sub_one_lt (lt_of_mul_lt_mul_left ?_ hd'.le)
    linarith
  · refine Int.lt_add_one_iff.mp (lt_of_mul_lt_mul_left ?_ hd'.le)
    linarith

/-- A quotient rounded toward zero stays below a bound that its magnitude stays below. -/
theorem truncDiv_mem {n : Int} {d b : Nat} (h : |n| < (b + 1) * d) :
    -(b : Int) ≤ truncDiv n d ∧ truncDiv n d ≤ b := by
  obtain ⟨-, habs⟩ := truncDiv_toward n d
  have hd : (0 : Int) < d := pos_of_mul_pos_right ((abs_nonneg n).trans_lt h) (by omega)
  rw [← abs_le, habs]
  exact Int.lt_add_one_iff.mp (Int.ediv_lt_of_lt_mul hd h)

/-- A share in 256ths is at most 256. -/
theorem share_le {n d : Nat} (h : n ≤ d) : n * 256 / d ≤ 256 :=
  Nat.div_le_of_le_mul (Nat.mul_le_mul_right 256 h)

theorem clampFeature_eq (v : Int) : clampFeature v = max (-32768) (min 32767 v) := clamp_eq (by decide) v

theorem clampFeature_mem (v : Int) : -32768 ≤ clampFeature v ∧ clampFeature v ≤ 32767 := by
  rw [clampFeature_eq]
  omega

/-- The nine weights add up to 511 (R95). -/
theorem PieceFlags.number_le (f : PieceFlags) : f.number ≤ 511 := by
  have hbit (b : Bool) (w : Nat) : bit b w ≤ w := by cases b <;> simp [bit]
  calc f.number ≤ 1 + 2 + 4 + 8 + 16 + 32 + 64 + 128 + 256 := by
        unfold PieceFlags.number
        gcongr <;> exact hbit _ _
    _ = 511 := rfl

/-! ### The features of a record -/

section Record
variable {p : Piece}

theorem Piece.spanned_eq {f l : SeqNo × Nat} (hf : p.first = some f) (hl : p.last = some l) :
    p.spanned = (l.1 - f.1).toNat + 1 := by
  rw [Piece.spanned, hf, hl]

theorem Piece.widthCells_eq {x : Run} (hx : p.extent = some x) : p.widthCells = x.right + 1 - x.left := by
  rw [Piece.widthCells, hx]
  rfl

theorem Piece.ndi_eq :
    p.ndi = truncDiv ((p.mean .na - p.mean .nb) * 256) (|p.mean .na| + |p.mean .nb| + 1) := by
  unfold Piece.ndi
  push_cast
  rfl

/-- FILL cannot pass 256 where the area fits the lines and cells it is set against (R91). -/
theorem Piece.fill_le (h : p.area ≤ p.spanned * p.widthCells) : p.fill ≤ 256 :=
  share_le ((Nat.min_le_left _ _).trans h)

theorem Piece.mean_mem {k : Chan} (harea : 1 ≤ p.area)
    (h : -2048 * (p.area : Int) ≤ p.sums.get k ∧ p.sums.get k ≤ 2047 * p.area) :
    -2048 ≤ p.mean k ∧ p.mean k ≤ 2047 := roundNear_mem harea h.1 h.2

/-- NDI's divisor passes the difference it divides, so its magnitude stays below 256 (R93). -/
theorem Piece.ndi_mem : -255 ≤ p.ndi ∧ p.ndi ≤ 255 := by
  refine truncDiv_mem (b := 255) ?_
  simp only [Int.abs_eq_natAbs]
  omega

/-- With LIMITED set where a clamp acts, the flags of a record (R90). -/
theorem Piece.limit_flags (shift : Nat) :
    (p.limit shift).flags = { p.flags with limited := p.flags.limited || p.clampActs shift } := rfl

end Record

/-- Settles O25: each feature by its definition's own equation, then each in its range. -/
theorem featuresAreComputedAsStated : Obligations.FeaturesAreComputedAsStated := by
  refine ⟨fun p shift f l x hf hl hx => ?formulas,
    fun p shift f l x peak hf hl hx hpeak hleft hright hlines harea hfit hmetal hsums hlow hhigh => ?ranges⟩
  case formulas =>
    intro mean length width area ratio sum limited
    have hlength : p.spanned = length := Piece.spanned_eq hf hl
    have hwidth : p.widthCells = width := Piece.widthCells_eq hx
    have hsum : p.sumInd shift = sum := p.sumInd_eq shift
    have hratio : p.ratioIv = ratio := p.ratioIv_eq
    have hlimited : p.clampActs shift = decide limited := by
      rw [Bool.eq_iff_iff, Piece.clampActs_iff, decide_eq_true_eq, hsum, hratio]
    unfold Piece.features Piece.fill
    rw [hlength, hwidth, hsum, hratio, Piece.ndi_eq, Piece.limit_flags, hlimited, clampFeature_eq, clampFeature_eq]
    rfl
  case ranges =>
    have hlength : p.spanned = (l.1 - f.1).toNat + 1 := Piece.spanned_eq hf hl
    have hwidth : p.widthCells = x.right + 1 - x.left := Piece.widthCells_eq hx
    have hfill : p.fill ≤ 256 := Piece.fill_le (by rwa [hlength, hwidth])
    have hmfrac : p.mfrac ≤ 256 := share_le hmetal
    have hcap (n : Nat) : capCount n ≤ 32767 := Nat.min_le_right _ _
    have harea' : 1 ≤ capCount p.area := Nat.le_min.mpr ⟨harea, by decide⟩
    have hflags : (p.limit shift).flags.number ≤ 511 := PieceFlags.number_le _
    have hmean (k : Chan) : -2048 ≤ p.mean k ∧ p.mean k ≤ 2047 := Piece.mean_mem harea (hsums k)
    have hpeak' : -2048 ≤ p.indPeak.getD 0 ∧ p.indPeak.getD 0 ≤ 2047 := by rw [hpeak]; exact ⟨hlow, hhigh⟩
    have hcast {a lo hi : Nat} (h₁ : lo ≤ a) (h₂ : a ≤ hi) : (lo : Int) ≤ a ∧ (a : Int) ≤ hi :=
      ⟨Int.ofNat_le.mpr h₁, Int.ofNat_le.mpr h₂⟩
    intro i
    fin_cases i
    · exact hcast harea' (hcap p.area)
    · exact hcast (a := p.spanned) (lo := 1) (hi := 2051) (by omega) (by omega)
    · exact hcast (a := p.widthCells) (lo := 1) (hi := 96) (by omega) (by omega)
    · exact hcast (Nat.zero_le p.fill) hfill
    · exact hmean .ind
    · exact hmean .vis
    · exact hmean .na
    · exact hmean .nb
    · exact hpeak'
    · exact hcast (Nat.zero_le p.mfrac) hmfrac
    · exact Piece.ndi_mem
    · exact clampFeature_mem (p.sumInd shift)
    · exact hcast (Nat.zero_le _) hflags
    · exact hcast (Nat.zero_le _) (hcap p.clipped)
    · exact clampFeature_mem p.ratioIv
    · exact ⟨le_rfl, le_rfl⟩

end Sys2Proof.Machine
end

section
/-! PROOF. The operators of a test, the start of a walk and one step of it (R88, R90, R97 to R99). -/
-- One proof at a time: elaborated side by side, the proofs take more stacks than the check's memory holds.
set_option Elab.async false
namespace Sys2Proof.Machine

/-! ### The operators of a test -/

/-- Below a bit's place, what a number loses to a modulus above it does not reach the bit. -/
theorem emod_two_pow_bit (v : Int) {n w : Nat} (h : n < w) :
    (v % 2 ^ w) / 2 ^ n % 2 = v / 2 ^ n % 2 := by
  obtain ⟨k, rfl⟩ := Nat.exists_eq_add_of_lt h
  have hsplit : (2 : Int) ^ (n + k + 1) = 2 ^ n * (2 * 2 ^ k) := by ring
  have hpos : (2 : Int) ^ n ≠ 0 := by positivity
  conv_rhs =>
    rw [← Int.emod_add_mul_ediv v (2 ^ (n + k + 1)), hsplit, Int.mul_assoc, Int.add_mul_ediv_left _ _ hpos,
      Int.mul_assoc, Int.add_mul_emod_self_left, ← hsplit]

/-- The pattern of a value spells the value's bits in two's complement (R97). -/
theorem getLsbD_pattern (v : Int) {n : Nat} (hn : n < 16) :
    (pattern v).getLsbD n = true ↔ v / 2 ^ n % 2 = 1 := by
  rw [pattern, BitVec.getLsbD, BitVec.toNat_ofInt, Nat.testBit_eq_decide_div_mod_eq, decide_eq_true_eq,
    ← emod_two_pow_bit v hn]
  have hnonneg : 0 ≤ v % 2 ^ 16 := Int.emod_nonneg v (by decide)
  zify
  rw [Int.toNat_of_nonneg (by exact_mod_cast hnonneg)]

theorem bitVec_and_ne_zero_iff {w : Nat} (x y : BitVec w) :
    x &&& y ≠ 0 ↔ ∃ n < w, y.getLsbD n = true ∧ x.getLsbD n = true := by
  rw [Ne, BitVec.eq_of_getLsbD_eq_iff]
  simp only [BitVec.getLsbD_and, BitVec.ofNat_eq_ofNat, BitVec.getLsbD_zero, Bool.and_eq_false_iff, not_forall,
    not_or, Bool.not_eq_false, exists_prop, and_comm]

/-- Settles O27, by the operator. -/
theorem testOperatorsHold : Obligations.TestOperatorsHold := by
  intro r f _ _
  unfold TestRecord.holds
  cases r.op with
  | ge => exact decide_eq_true_iff
  | lt => exact decide_eq_true_iff
  | inside => simp only [Bool.and_eq_true, decide_eq_true_eq]
  | outside => simp only [Bool.or_eq_true, decide_eq_true_eq]
  | anyBit =>
    rw [bne_iff_ne, bitVec_and_ne_zero_iff]
    exact exists_congr fun n => and_congr_right fun hn => and_congr_right fun _ => getLsbD_pattern f hn

/-! ### The start of a walk and one step of it -/

section Walk
variable {s : State}

theorem exec_walkStart {i : Slot} {rest : List Slot} {p : Piece} (hw : s.cls.walk = none)
    (hq : s.cls.queue = i :: rest) (hp : s.piece i = some p) :
    exec .walkStart s = .next { s with
      seg.slots := put s.seg.slots i (some { p.limit (s.own .reportShift) with phase := .walking })
      cls := { queue := rest, walk := some (Walk.begun i p (s.bank p.bank).root (s.own .reportShift)) } } := by
  simp only [exec, execWalkStart, hw, hq, hp]
  rfl

theorem exec_testEvaluate {w : Walk} {i : Fin 256} {r : TestRecord} (hw : s.cls.walk = some w)
    (hi : w.point = .record i) (hr : look (s.bank w.bank).records i = some r) :
    exec .testEvaluate s = .next { s with cls.walk := some (w.tested r) } := by
  simp only [exec, execTestEvaluate, hw, hi, hr]

end Walk

/-- Settles O26, by the two commands. -/
theorem walkStartsAndTests : Obligations.WalkStartsAndTests := by
  refine ⟨fun s i rest p root hw hq hp hroot => ?start, fun s w i r hw hi hr => ?test⟩
  case start =>
    intro w
    have hbegun : Walk.begun i p (s.bank p.bank).root (s.own .reportShift) = w := by
      rw [Walk.begun, hroot, Fin.ofNat_val_eq_self]
    refine ⟨{ p.limit (s.own .reportShift) with phase := .walking }, ?_, rfl, rfl⟩
    rw [exec_walkStart hw hq hp, hbegun]
  case test =>
    intro target
    rw [exec_testEvaluate hw hi hr]
    rfl

end Sys2Proof.Machine
end

section
/-! PROOF. The end of a walk, and the line capture it is announced to (R99 to R101, R203). -/
-- One proof at a time: elaborated side by side, the proofs take more stacks than the check's memory holds.
set_option Elab.async false
namespace Sys2Proof.Machine

/-! ### What the line capture makes of a class announced -/

section Capture
variable {s : State}

theorem State.completeCapture_of_ring {a b : LineRecord} (ha : s.cap.ring.head? = some a)
    (hb : s.cap.ring.getLast? = some b) :
    s.completeCapture = State.offer (.captureEnd s.cap.mode s.cap.trigger s.cap.ring.length a.seq b.seq s.cap.piece)
      { s with cap.state := .full } := by
  unfold State.completeCapture
  rw [ha, hb]

/-- The two numbers of an empty ring are the free values drawn next (log entry 15). -/
theorem State.completeCapture_of_empty (h : s.cap.ring = []) :
    s.completeCapture = State.offer
      (.captureEnd s.cap.mode s.cap.trigger s.cap.ring.length (Config.emptyRingSeq s.freeIndex)
        (Config.emptyRingSeq (s.freeIndex + 1)) s.cap.piece)
      { s with cap.state := .full, freeIndex := s.freeIndex + 2 } := by
  unfold State.completeCapture
  rw [h]
  rfl

variable {number : PieceNo} {c : PieceClass}

theorem State.announce_unheard (h : s.cap.state ≠ .ringing ∨ s.cap.trigger ≠ .onClass c) : s.announce number c = s :=
  if_neg (not_and_or.mpr h)

theorem State.announce_post (hstate : s.cap.state = .ringing) (htrigger : s.cap.trigger = .onClass c)
    (hpost : s.cap.post ≠ 0) :
    s.announce number c = { s with cap := { s.cap with state := .post, piece := some number } } :=
  (if_pos ⟨hstate, htrigger⟩).trans (if_neg hpost)

theorem State.announce_full (hstate : s.cap.state = .ringing) (htrigger : s.cap.trigger = .onClass c)
    (hpost : s.cap.post = 0) : s.announce number c = State.completeCapture { s with cap.piece := some number } :=
  (if_pos ⟨hstate, htrigger⟩).trans (if_pos hpost)

theorem State.announce_full_of_ring {a b : LineRecord} (hstate : s.cap.state = .ringing)
    (htrigger : s.cap.trigger = .onClass c) (hpost : s.cap.post = 0) (ha : s.cap.ring.head? = some a)
    (hb : s.cap.ring.getLast? = some b) :
    s.announce number c = State.offer
      (.captureEnd s.cap.mode s.cap.trigger s.cap.ring.length a.seq b.seq (some number))
      { s with cap := { s.cap with state := .full, piece := some number } } :=
  (State.announce_full hstate htrigger hpost).trans
    (State.completeCapture_of_ring (s := { s with cap.piece := some number }) ha hb)

theorem State.announce_full_of_empty (hstate : s.cap.state = .ringing) (htrigger : s.cap.trigger = .onClass c)
    (hpost : s.cap.post = 0) (hring : s.cap.ring = []) :
    s.announce number c = State.offer
      (.captureEnd s.cap.mode s.cap.trigger s.cap.ring.length (Config.emptyRingSeq s.freeIndex)
        (Config.emptyRingSeq (s.freeIndex + 1)) (some number))
      { s with cap := { s.cap with state := .full, piece := some number }, freeIndex := s.freeIndex + 2 } :=
  (State.announce_full hstate htrigger hpost).trans
    (State.completeCapture_of_empty (s := { s with cap.piece := some number }) hring)

end Capture

/-! ### The end of a walk -/

/-- The walk record discarded (R101). -/
def State.walkDropped (s : State) : State := { s with cls.walk := none }

/-- The piece of a walk SCHEDULED with its classification, handed on, and the walk discarded (R101). -/
def State.walkClosed (s : State) (i : Slot) (q : Piece) : State :=
  { s with
    seg.slots := put s.seg.slots i (some q), cls.walk := none
    lsc.handoffs := s.lsc.handoffs ++ [.piece .classifier i] }

section Dropped
variable (s : State)

theorem State.offer_walkDropped (n : Notice) : s.walkDropped.offer n = (s.offer n).walkDropped := by
  have hsuppress : s.walkDropped.suppresses n = s.suppresses n := by cases n <;> rfl
  unfold State.offer
  rw [hsuppress, apply_ite State.walkDropped, apply_ite State.walkDropped]
  rfl

theorem State.completeCapture_walkDropped : s.walkDropped.completeCapture = s.completeCapture.walkDropped := by
  by_cases hring : s.cap.ring = []
  · rw [State.completeCapture_of_empty hring, State.completeCapture_of_empty (s := s.walkDropped) hring]
    exact State.offer_walkDropped { s with cap.state := .full, freeIndex := s.freeIndex + 2 } _
  · have hhead := List.head?_eq_some_head hring
    have hlast := List.getLast?_eq_some_getLast hring
    rw [State.completeCapture_of_ring hhead hlast, State.completeCapture_of_ring (s := s.walkDropped) hhead hlast]
    exact State.offer_walkDropped { s with cap.state := .full } _

theorem State.announce_walkDropped (number : PieceNo) (c : PieceClass) :
    s.walkDropped.announce number c = (s.announce number c).walkDropped := by
  unfold State.announce
  rw [apply_ite State.walkDropped, apply_ite State.walkDropped, ← State.completeCapture_walkDropped]
  rfl

/-- No part of a walk's end reads the walk record, so it may go first. -/
theorem State.finishWalk_eq (w : Walk) (p : Piece) (c : PieceClass) (fault : Bool) (m : Dest × Terms) :
    s.finishWalk w p c fault m =
      (let t := (s.walkClosed w.slot
        { p with phase := .scheduled, classed := some (w.classification c fault m) }).announce p.number c
       if fault then t.count .chainFaults 1 else t) := by
  have hfirst := State.announce_walkDropped ((s.setSlot w.slot
    (some { p with phase := .scheduled, classed := some (w.classification c fault m) })).handOff
      (.piece .classifier w.slot)) p.number c
  cases fault with
  | false => exact hfirst.symm
  | true => exact congrArg (State.count .chainFaults 1) hfirst.symm

end Dropped

theorem exec_walkEnd {s : State} {w : Walk} {p : Piece} {c : PieceClass} {fault : Bool} {m : Dest × Terms}
    (hw : s.cls.walk = some w) (hend : w.point = .ended c fault) (hp : s.piece w.slot = some p)
    (hm : (s.bank w.bank).mapped c = some m) : exec .walkEnd s = .next (s.finishWalk w p c fault m) := by
  simp only [exec, execWalkEnd, hw, hend, hp, hm]

/-- Settles O28, by what the line capture makes of the announced class. -/
theorem walkEndSchedulesThePiece : Obligations.WalkEndSchedulesThePiece := by
  intro s w p c fault dest terms hw hend hp hclass part q u v
  have hmapped : (s.bank w.bank).mapped c = some (dest, terms) := by
    obtain ⟨k, e, rfl, he, rfl, rfl⟩ | ⟨rfl, rfl, rfl⟩ := hclass
    · rw [Bank.mapped, he]
      rfl
    · rfl
  have hnext : exec .walkEnd s =
      .next (if fault then (u.announce p.number c).count .chainFaults 1 else u.announce p.number c) := by
    rw [exec_walkEnd hw hend hp hmapped, State.finishWalk_eq]
    rfl
  rw [hnext]
  refine ⟨fun hunheard => ?_, fun hstate htrigger hpost => ?_, fun hstate htrigger hpost => ?_⟩
  · rw [State.announce_unheard (s := u) hunheard]
  · rw [State.announce_post (s := u) hstate htrigger hpost]
    cases fault <;> rfl
  · intro full note counted
    refine ⟨fun a b ha hb => ?_, fun hring => ⟨Config.emptyRingSeq s.freeIndex, Config.emptyRingSeq (s.freeIndex + 1),
      s.freeIndex + 2, ?_⟩⟩
    · rw [State.announce_full_of_ring (s := u) hstate htrigger hpost ha hb]
    · rw [State.announce_full_of_empty (s := u) hstate htrigger hpost hring]

end Sys2Proof.Machine
end

section
/-! SUPPORT. Recipe banks and the pieces pinned to them (R108, R116, R117): what the pin counts come to when one slot or
one bank changes, and the relation `State.Tracks`, that the pins follow the pieces and the recipes stand. -/
-- One proof at a time: elaborated side by side, the proofs take more stacks than the check's memory holds.
set_option Elab.async false
namespace Sys2Proof.Machine

/-! ### Two banks -/

theorem otherBank_ne (b : BankId) : otherBank b ≠ b := by revert b; decide

theorem otherBank_otherBank (b : BankId) : otherBank (otherBank b) = b := by revert b; decide

theorem eq_or_eq_otherBank (b c : BankId) : c = b ∨ c = otherBank b := by revert b c; decide

theorem legalPair_comm {x y : BankState} (h : legalPair x y) : legalPair y x := by
  cases x <;> cases y <;> exact h

/-- A bank that holds no recipe stands beside any bank but a RETIRING one, and not both are LOADING (R108). -/
theorem legalPair_of_no_recipe {x y : BankState} (hx : x = .empty ∨ x = .loading) :
    legalPair x y ↔ y ≠ .retiring ∧ ¬ (x = .loading ∧ y = .loading) := by
  obtain rfl | rfl := hx
  · cases y <;> simp [legalPair]
  · cases y <;> simp [legalPair]

/-- The pin count of a bank is the number of its pieces, only a recipe in use has pins, a RETIRING one at least one
(R116, R117). -/
def Bank.pinsSound (b : Bank) (n : Nat) : Prop :=
  b.pins = n ∧ (b.state = .empty ∨ b.state = .loading → b.pins = 0) ∧ (b.state = .retiring → 0 < b.pins)

theorem State.recipesSound_iff (s : State) (b : BankId) : s.recipesSound ↔
    legalPair (s.bank b).state (s.bank (otherBank b)).state ∧ ∀ c, (s.bank c).pinsSound (s.pinned c) := by
  refine and_congr_left' ?_
  obtain rfl | rfl := eq_or_eq_otherBank 0 b
  · rfl
  · exact ⟨legalPair_comm, legalPair_comm⟩

/-- A change of one bank and its pieces keeps the banks sound where the bank ends in a legal state with its pins true. -/
theorem State.recipesSound_of_bank {s t : State} (h : s.recipesSound) (b : BankId)
    (hother : t.bank (otherBank b) = s.bank (otherBank b)) (hpinned : t.pinned (otherBank b) = s.pinned (otherBank b))
    (hlegal : legalPair (t.bank b).state (s.bank (otherBank b)).state) (hb : (t.bank b).pinsSound (t.pinned b)) :
    t.recipesSound := by
  refine (t.recipesSound_iff b).mpr ⟨hother ▸ hlegal, fun c => ?_⟩
  obtain rfl | rfl := eq_or_eq_otherBank b c
  · exact hb
  · rw [hother, hpinned]
    exact ((s.recipesSound_iff b).mp h).2 _

theorem State.state_of_bankIn {s : State} {st : BankState} {b : BankId} (h : s.bankIn st = some b) :
    (s.bank b).state = st := by
  simpa using List.find?_some h

/-! ### Pinned slots -/

/-- The bank to which the piece in a slot is pinned. -/
def State.tenant (s : State) (i : Slot) : Option BankId := (s.piece i).map Piece.bank

theorem State.pinned_eq_countP (s : State) (b : BankId) :
    s.pinned b = (List.finRange 256).countP fun i => s.tenant i == some b :=
  List.countP_eq_length_filter.symm

theorem State.pinned_congr {s t : State} (h : ∀ i, t.tenant i = s.tenant i) (b : BankId) : t.pinned b = s.pinned b := by
  simp only [State.pinned_eq_countP, h]

/-- Where the piece of one slot alone changes, the pin counts change by that piece. -/
theorem State.pinned_of_slot {s t : State} (i : Slot) (h : ∀ j, i ≠ j → t.tenant j = s.tenant j) (b : BankId) :
    t.pinned b + (if s.tenant i = some b then 1 else 0) = s.pinned b + (if t.tenant i = some b then 1 else 0) := by
  have split (u : State) : u.pinned b =
      ((List.finRange 256).erase i).countP (fun j => u.tenant j == some b) + if u.tenant i = some b then 1 else 0 := by
    rw [u.pinned_eq_countP, (List.perm_cons_erase (List.mem_finRange i)).countP_eq, List.countP_cons]
    simp only [beq_iff_eq]
  have rest : ((List.finRange 256).erase i).countP (fun j => t.tenant j == some b) =
      ((List.finRange 256).erase i).countP (fun j => s.tenant j == some b) :=
    List.countP_congr fun j hj => by
      rw [h j fun hij => (List.nodup_finRange 256).not_mem_erase (hij ▸ hj)]
  rw [split s, split t, rest]
  omega

/-- A piece more on a bank, in a slot that was FREE. -/
theorem State.pinned_of_added {s t : State} {i : Slot} {b : BankId} (h : ∀ j, i ≠ j → t.tenant j = s.tenant j)
    (hs : s.tenant i = none) (ht : t.tenant i = some b) :
    t.pinned b = s.pinned b + 1 ∧ t.pinned (otherBank b) = s.pinned (otherBank b) := by
  have hcount := State.pinned_of_slot i h
  have hself := hcount b
  have hother := hcount (otherBank b)
  rw [hs, ht, if_neg nofun, if_pos rfl] at hself
  rw [hs, ht, if_neg nofun, if_neg fun hb => otherBank_ne b (Option.some.inj hb).symm] at hother
  exact ⟨hself, hother⟩

/-! ### What the life of pieces keeps of the banks -/

/-- What a bank may become as pieces come and go: its recipe stands, or it retires with its last pin (R115, R117). -/
def Bank.mayBecome (x y : Bank) : Prop :=
  y = { x with pins := y.pins } ∨ (x.state = .retiring ∧ y = Bank.blank)

/-- From `s` to `t` the pins follow the pieces, and no bank changes but as its pins do. -/
structure State.Tracks (s t : State) : Prop where
  sound : s.recipesSound → t.recipesSound
  banks : s.recipesSound → ∀ b, (s.bank b).mayBecome (t.bank b)

section Tracks
variable {s t u : State}

/-- Every piece stands pinned where it was, and every bank stands. -/
theorem State.Tracks.of_tenants (ht : ∀ i, t.tenant i = s.tenant i) (hb : ∀ b, t.bank b = s.bank b) : s.Tracks t where
  sound h := by
    unfold State.recipesSound
    simp only [hb, State.pinned_congr ht]
    exact h
  banks _ b := .inl (by rw [hb])

/-- A change of other parts of the machine. -/
theorem State.Tracks.of_parts (hseg : t.seg = s.seg := by rfl) (hrcs : t.rcs = s.rcs := by rfl) : s.Tracks t :=
  .of_tenants (fun i => by simp only [State.tenant, State.piece, hseg]) fun b => by simp only [State.bank, hrcs]

/-- A change of one bank and its pieces. -/
theorem State.Tracks.of_bank (b : BankId) (hother : t.bank (otherBank b) = s.bank (otherBank b))
    (hpinned : t.pinned (otherBank b) = s.pinned (otherBank b)) (hb : (s.bank b).mayBecome (t.bank b))
    (hsound : s.recipesSound →
      legalPair (t.bank b).state (s.bank (otherBank b)).state ∧ (t.bank b).pinsSound (t.pinned b)) : s.Tracks t where
  sound hs := State.recipesSound_of_bank hs b hother hpinned (hsound hs).1 (hsound hs).2
  banks _ c := by
    obtain rfl | rfl := eq_or_eq_otherBank b c
    · exact hb
    · exact .inl (by rw [hother])

theorem State.Tracks.refl (s : State) : s.Tracks s := .of_parts

theorem State.Tracks.trans (h : s.Tracks t) (g : t.Tracks u) : s.Tracks u where
  sound hs := g.sound (h.sound hs)
  banks hs b := by
    have ht := h.sound hs
    obtain hst | ⟨hretiring, hblank⟩ := h.banks hs b
    · obtain htu | ⟨hretiring, hblank⟩ := g.banks ht b
      · exact .inl (by rw [htu, hst])
      · exact .inr ⟨by rwa [hst] at hretiring, hblank⟩
    · refine .inr ⟨hretiring, ?_⟩
      obtain htu | ⟨hretired, -⟩ := g.banks ht b
      · rw [hblank] at htu
        have hempty : (u.bank b).state = .empty := by rw [htu]; rfl
        obtain ⟨-, hpins, -⟩ := ((u.recipesSound_iff b).mp (g.sound ht)).2 b
        rw [htu, hpins (.inl hempty)]
        rfl
      · rw [hblank] at hretired
        cases hretired

theorem State.Tracks.foldl {α : Type} {f : State → α → State} (h : ∀ t a, State.Tracks t (f t a)) (as : List α)
    (s : State) : s.Tracks (as.foldl f s) := by
  induction as generalizing s with
  | nil => exact .refl s
  | cons a as ih => exact (h s a).trans (ih _)

theorem State.Tracks.of_next (k : s.Tracks u)
    (h : (Host.Outcome.next u : Host.Outcome State Fault Refusal) = .next t) : s.Tracks t :=
  Host.Outcome.next.inj h ▸ k

end Tracks

/-! ### One slot -/

section Slots
variable (s : State) {i : Slot}

theorem State.setSlot_tracks {p q : Piece} (hp : s.piece i = some p) (hq : q.bank = p.bank) :
    s.Tracks (s.setSlot i (some q)) :=
  .of_tenants (fun j => by
    unfold State.tenant
    rw [State.piece_setSlot]
    split_ifs with hij
    · rw [← hij, hp]
      exact congrArg some hq
    · rfl) fun _ => rfl

theorem State.updatePiece_tracks (i : Slot) (f : Piece → Piece) (hf : ∀ p, (f p).bank = p.bank) :
    s.Tracks (s.updatePiece i f) :=
  .of_tenants (fun j => by
    unfold State.tenant
    rw [State.piece_updatePiece]
    split_ifs with hij
    · rw [← hij, Option.map_map]
      exact congrArg (Option.map · (s.piece i)) (funext hf)
    · rfl) fun _ => rfl

/-- A bank that holds a recipe in use. -/
def Bank.inUse (b : Bank) : Prop := b.state = .active ∨ b.state = .retiring

/-- The bank of a piece holds a recipe in use (R116). -/
theorem State.recipesSound.bank_of_piece {s : State} (h : s.recipesSound) {p : Piece} (hp : s.piece i = some p) :
    (s.bank p.bank).inUse := by
  obtain ⟨hcount, hidle, -⟩ := ((s.recipesSound_iff 0).mp h).2 p.bank
  have hpos : 0 < (s.bank p.bank).pins := by
    rw [hcount, State.pinned_eq_countP]
    exact List.countP_pos_iff.mpr ⟨i, List.mem_finRange i, by simp [State.tenant, hp]⟩
  cases hstate : (s.bank p.bank).state with
  | empty => exact absurd (hidle (.inl hstate)) hpos.ne'
  | loading => exact absurd (hidle (.inr hstate)) hpos.ne'
  | active => exact .inl hstate
  | retiring => exact .inr hstate

/-- One pin less: the recipe stands, or a RETIRING bank with its last pin becomes EMPTY. -/
theorem Bank.mayBecome_unpin (b : Bank) : b.mayBecome b.unpin := by
  unfold Bank.unpin
  split_ifs with h
  · exact .inr ⟨h.1, rfl⟩
  · exact .inl rfl

theorem Bank.pinsSound_unpin {b : Bank} {n : Nat} (h : b.pinsSound n) (huse : b.inUse) :
    b.unpin.pinsSound (n - 1) := by
  obtain ⟨rfl, -, -⟩ := h
  unfold Bank.unpin
  split_ifs with hlast
  · exact ⟨hlast.2.symm, fun _ => rfl, nofun⟩
  · refine ⟨rfl, fun hidle => ?_, fun hretiring => Nat.pos_of_ne_zero fun hzero => hlast ⟨hretiring, hzero⟩⟩
    obtain h | h := huse <;> simp [h] at hidle

/-- What stands beside a bank in use stands beside it with one pin less. -/
theorem Bank.legalPair_unpin {b : Bank} {y : BankState} (h : legalPair b.state y) : legalPair b.unpin.state y := by
  unfold Bank.unpin
  split_ifs with hlast
  · rw [hlast.1] at h
    cases y <;> trivial
  · exact h

theorem State.releaseSlot_tracks (i : Slot) : s.Tracks (s.releaseSlot i) := by
  cases hp : s.piece i with
  | none =>
    rw [State.releaseSlot_of_free hp]
    exact .refl s
  | some p =>
    have hpiece := s.piece_releaseSlot i
    have hbank (c : BankId) : (s.releaseSlot i).bank c = if p.bank = c then (s.bank p.bank).unpin else s.bank c := by
      rw [State.releaseSlot_of_piece hp]
      exact s.bank_updateBank p.bank c Bank.unpin
    obtain ⟨hself, hother⟩ := State.pinned_of_added (s := s.releaseSlot i) (t := s) (i := i) (b := p.bank)
      (fun j hij => by simp only [State.tenant, hpiece, if_neg hij]) (by simp [State.tenant, hpiece])
      (by simp [State.tenant, hp])
    have hunpinned := hbank p.bank
    rw [if_pos rfl] at hunpinned
    refine .of_bank p.bank (by rw [hbank, if_neg (otherBank_ne _).symm]) hother.symm
      (hunpinned ▸ Bank.mayBecome_unpin _) fun hs => ?_
    obtain ⟨hlegal, hpins⟩ := (s.recipesSound_iff p.bank).mp hs
    rw [hunpinned, show (s.releaseSlot i).pinned p.bank = s.pinned p.bank - 1 by omega]
    exact ⟨Bank.legalPair_unpin hlegal, Bank.pinsSound_unpin (hpins _) (hs.bank_of_piece hp)⟩

/-- A piece that opens takes its pin on the ACTIVE bank (R59, R116). -/
theorem State.openPiece_tracks {front : List Run} {continued : Bool} {x : Slot × State}
    (h : s.openPiece front continued = some x) : s.Tracks x.2 := by
  obtain ⟨b, hfree, hb, -, hx⟩ := s.openPiece_eq_some.mp h
  have hnone := (s.freeSlot?_eq_some.mp hfree).1
  have hactive := State.state_of_bankIn hb
  have hpiece (j : Slot) : x.2.piece j = if x.1 = j then
      some (Piece.opened s.seg.nextNumber b s.rcs.generation front continued) else s.piece j := by
    rw [hx]
    exact s.piece_setSlot x.1 j _
  have hbank (c : BankId) : x.2.bank c = if b = c then (s.bank b).pin else s.bank c := by
    rw [hx]
    exact s.bank_updateBank b c Bank.pin
  obtain ⟨hself, hother⟩ := State.pinned_of_added (s := s) (t := x.2) (i := x.1) (b := b)
    (fun j hij => by simp only [State.tenant, hpiece, if_neg hij]) (by simp [State.tenant, hnone])
    (by simp [State.tenant, hpiece, Piece.opened])
  have hpin := hbank b
  rw [if_pos rfl] at hpin
  refine .of_bank b (by rw [hbank, if_neg (otherBank_ne _).symm]) hother (.inl (by rw [hpin]; rfl)) fun hs => ?_
  obtain ⟨hlegal, hpins⟩ := (s.recipesSound_iff b).mp hs
  obtain ⟨hcount, -, -⟩ := hpins b
  rw [hpin, hself]
  exact ⟨hlegal, congrArg (· + 1) hcount, fun hidle => by simp [Bank.pin, hactive] at hidle, fun _ => Nat.succ_pos _⟩

end Slots

end Sys2Proof.Machine
end

section
/-! SUPPORT. The shared operations and the pins (`State.Tracks`): the end of pieces, faults, entries, valves, placements,
the segmenter's line and the engine. -/
-- One proof at a time: elaborated side by side, the proofs take more stacks than the check's memory holds.
set_option Elab.async false
namespace Sys2Proof.Machine

section Ops
variable (s : State)

/-! ### The end of a piece -/

theorem State.count_tracks (c : Counter) (n : Nat) : s.Tracks (s.count c n) := .of_parts

theorem State.offer_tracks (n : Notice) : s.Tracks (s.offer n) := .of_parts (s.offer_seg n) (s.offer_rcs n)

theorem State.offerPiece_tracks (p : Piece) (o : PieceOutcome) : s.Tracks (s.offerPiece p o) :=
  .of_parts (s.offerPiece_seg p o) (s.offerPiece_rcs p o)

theorem State.setEngine_tracks (st : EngState) (c : EngCause) : s.Tracks (s.setEngine st c) :=
  .of_parts (s.setEngine_seg st c) (s.setEngine_rcs st c)

theorem State.judgeDrained_tracks : s.Tracks s.judgeDrained := .of_parts s.judgeDrained_seg s.judgeDrained_rcs

theorem State.freeSlot_tracks (i : Slot) : s.Tracks (s.freeSlot i) :=
  (s.releaseSlot_tracks i).trans (State.judgeDrained_tracks _)

theorem State.endPiece_tracks (o : PieceOutcome) (i : Slot) : s.Tracks (s.endPiece o i) := by
  unfold State.endPiece
  split
  · exact .refl s
  · exact ((s.count_tracks _ 1).trans (State.offerPiece_tracks _ _ o)).trans (State.releaseSlot_tracks _ i)

theorem State.abandonAll_tracks (is : List Slot) : s.Tracks (s.abandonAll is) :=
  .foldl (fun t i => (t.endPiece_tracks _ i).trans (State.judgeDrained_tracks _)) is s

theorem State.flushAll_tracks (is : List Slot) : s.Tracks (s.flushAll is) :=
  .foldl (fun t i => t.endPiece_tracks _ i) is s

theorem State.abandonClassifier_tracks : s.Tracks s.abandonClassifier :=
  State.Tracks.trans (t := { s with cls := { queue := [], walk := none } }) .of_parts (State.abandonAll_tracks _ _)

theorem State.complete_tracks (i : Slot) : s.Tracks (s.complete i) := by
  unfold State.complete
  split
  · exact .refl s
  · next p _ =>
    split
    · exact .refl s
    · next c _ =>
      have report : s.Tracks (if c.terms.report then s.offerPiece p (p.tallies.outcome c.dest)
          else s.count .suppressed 1) := by
        split_ifs
        · exact s.offerPiece_tracks _ _
        · exact s.count_tracks _ 1
      exact ((report.trans (State.count_tracks _ _ 1)).trans (State.count_tracks _ _ 1)).trans
        (State.freeSlot_tracks _ i)

theorem State.completeIfDone_tracks (i : Slot) : s.Tracks (s.completeIfDone i) := by
  unfold State.completeIfDone
  split
  · split_ifs
    · exact s.complete_tracks i
    · exact .refl s
  · exact .refl s

/-! ### Faults -/

theorem State.abortSurvey_tracks (c : EngCause) : s.Tracks (s.abortSurvey c) :=
  (State.Tracks.trans (t := s.stopSurvey .aborted) .of_parts (State.offer_tracks _ _)).trans
    (State.setEngine_tracks _ _ c)

theorem State.raiseFault_tracks (k : FaultKind) : s.Tracks (s.raiseFault k) := by
  have flagged (x : Notice) : s.Tracks ((s.flag k).offer x) :=
    State.Tracks.trans (t := s.flag k) .of_parts (State.offer_tracks _ x)
  unfold State.raiseFault
  split_ifs
  · exact (((flagged _).trans (State.setEngine_tracks _ _ _)).trans (State.abandonAll_tracks _ _)).trans
      (State.abandonClassifier_tracks _)
  · exact (flagged _).trans (State.abortSurvey_tracks _ _)
  · exact flagged _

/-! ### Entries -/

theorem State.tallyOwner_tracks (o : Option (Slot × PieceNo)) (f : Piece → Piece) (hf : ∀ p, (f p).bank = p.bank) :
    s.Tracks (s.tallyOwner o f) := by
  unfold State.tallyOwner
  split
  · exact s.updatePiece_tracks _ f hf
  · exact .refl s

theorem State.ownerDone_tracks (o : Option (Slot × PieceNo)) : s.Tracks (s.ownerDone o) := by
  unfold State.ownerDone
  split
  · exact s.completeIfDone_tracks _
  · exact .refl s

theorem State.handOff_tracks (h : Handoff) : s.Tracks (s.handOff h) := .of_parts

theorem State.setLane_tracks (l : Lane) (es : List Entry) : s.Tracks (s.setLane l es) := .of_parts

theorem State.retire_tracks (l : Lane) (e : Entry) (r : RetireReason) : s.Tracks (s.retire l e r) :=
  (((s.setLane_tracks l _).trans (State.count_tracks _ _ 1)).trans
    (State.tallyOwner_tracks _ e.owner (Piece.retireOne r) fun _ => rfl)).trans (State.ownerDone_tracks _ e.owner)

/-! ### The judgment of valves -/

theorem State.setValve_rcs (l : Lane) (r : Row) (v : Valve) : (s.setValve l r v).rcs = s.rcs := by
  unfold State.setValve
  dsimp only
  split_ifs <;> rfl

theorem State.setValve_tracks (l : Lane) (r : Row) (v : Valve) : s.Tracks (s.setValve l r v) :=
  .of_parts (s.setValve_seg l r v) (s.setValve_rcs l r v)

theorem State.enterRecover_tracks (l : Lane) (r : Row) : s.Tracks (s.enterRecover l r) := s.setValve_tracks l r _

theorem State.closeEntry_tracks (l : Lane) (r : Row) (e : Entry) : s.Tracks (s.closeEntry l r e) := by
  unfold State.closeEntry
  dsimp only
  generalize (if e.lateStart then RetireReason.firedLate else .fired) = reason
  have retired := s.retire_tracks l e reason
  split
  · split_ifs
    · exact retired.trans (State.setLane_tracks _ l _)
    · exact retired.trans (State.enterRecover_tracks _ l r)
  · exact retired.trans (State.enterRecover_tracks _ l r)

theorem State.judgeStep_tracks {l : Lane} {r : Row} {o : Opening} {p : Bool} {x : State × Bool}
    (h : s.judgeStep l r o p = some x) : s.Tracks x.1 := by
  obtain ⟨e, reason, -, hx, -, -⟩ | ⟨e, -, hx, -⟩ | ⟨e, late, -, hx, -⟩ := s.judgeStep_cases h
  · exact hx ▸ s.retire_tracks l e reason
  · exact hx ▸ s.closeEntry_tracks l r e
  · exact hx ▸ (s.setValve_tracks l r _).trans (State.setLane_tracks _ l _)

theorem State.judgeLoop_tracks (l : Lane) (r : Row) (o : Opening) (n : Nat) (p : Bool) :
    s.Tracks (s.judgeLoop l r o n p) := by
  induction n generalizing s p with
  | zero => exact .refl s
  | succ n ih =>
    unfold State.judgeLoop
    split
    · next t q h => exact (s.judgeStep_tracks h).trans (ih t q)
    · exact .refl s

theorem State.judge_tracks (l : Lane) (r : Row) (o : Opening) : s.Tracks (s.judge l r o) :=
  s.judgeLoop_tracks l r o _ _

theorem State.judgeAll_tracks (o : Opening) : s.Tracks (s.judgeAll o) :=
  .foldl (fun t _ => t.judge_tracks _ _ o) _ s

theorem State.computeLeads_tracks : s.Tracks s.computeLeads := by
  have computed (a b : Nat) : s.Tracks { s with vdr.leadOpen := a, vdr.leadClose := b } := .of_parts
  exact (computed _ _).trans (State.judgeAll_tracks _ _)

theorem State.retireGuards_tracks : s.Tracks s.retireGuards :=
  .foldl (fun t _ => .foldl (fun u e => u.retire_tracks _ e _) _ t) _ s

theorem State.takeOut_tracks (l : Lane) (r : Row) (st : ValveState) : s.Tracks (s.takeOut l r st) :=
  (s.setValve_tracks l r _).trans (.foldl (fun t e => t.retire_tracks l e .unavailable) _ _)

/-! ### Placing an entry -/

/-- A tally of an owner and a count. -/
theorem State.tallyCount_tracks (o : Option (Slot × PieceNo)) (f : Piece → Piece) (hf : ∀ p, (f p).bank = p.bank)
    (c : Counter) : s.Tracks ((s.tallyOwner o f).count c 1) :=
  (s.tallyOwner_tracks o f hf).trans (State.count_tracks _ c 1)

theorem State.cutEntry_tracks (l : Lane) (e : Entry) (fs : List Fragment) : s.Tracks (s.cutEntry l e fs) := by
  have cut (es : List Entry) :
      s.Tracks (((s.tallyOwner e.owner Piece.tallyTrimmed).count .trimmed 1).setLane l es) :=
    (s.tallyCount_tracks e.owner Piece.tallyTrimmed (fun _ => rfl) .trimmed).trans (State.setLane_tracks _ l es)
  unfold State.cutEntry
  dsimp only
  split
  · exact ((cut _).trans (State.tallyOwner_tracks _ e.owner Piece.loseEntry fun _ => rfl)).trans
      (State.ownerDone_tracks _ e.owner)
  · exact cut _
  · split_ifs
    · exact (cut _).trans (State.tallyOwner_tracks _ e.owner Piece.gainEntry fun _ => rfl)
    · exact (cut _).trans (State.tallyCount_tracks _ e.owner Piece.tallyFull (fun _ => rfl) .droppedFull)

theorem State.meetEntry_tracks (l : Lane) (n : Proposal) (e : Entry) (fs : List Fragment) :
    s.Tracks (s.meetEntry l n e fs).2 := by
  unfold State.meetEntry
  split_ifs
  · exact s.tallyOwner_tracks n.owner Piece.tallyShared fun _ => rfl
  · exact s.tallyCount_tracks n.owner Piece.tallyTrimmed (fun _ => rfl) .trimmed
  · exact s.cutEntry_tracks l e fs

theorem State.meetEntries_tracks (l : Lane) (n : Proposal) (es : List Entry) (fs : List Fragment) :
    s.Tracks (s.meetEntries l n es fs).2 := by
  induction es generalizing s fs with
  | nil => exact .refl s
  | cons e es ih => exact (s.meetEntry_tracks l n e fs).trans (ih _ _)

theorem State.insertFragment_tracks (l : Lane) (n : Proposal) (f : Fragment) :
    s.Tracks (s.insertFragment l n f) := by
  have placed (es : List Entry) : s.Tracks (((s.setLane l es).tallyOwner n.owner Piece.gainEntry).count .placed 1) :=
    (s.setLane_tracks l es).trans (State.tallyCount_tracks _ n.owner Piece.gainEntry (fun _ => rfl) .placed)
  unfold State.insertFragment
  dsimp only
  split_ifs
  · exact (placed _).trans (State.count_tracks _ .anonymous 1)
  · exact placed _
  · exact s.tallyCount_tracks n.owner Piece.tallyFull (fun _ => rfl) .droppedFull

theorem State.settleFragment_tracks (l : Lane) (n : Proposal) (rd : Reading) (f : Fragment) :
    s.Tracks (s.settleFragment l n rd f) := by
  unfold State.settleFragment
  split
  · exact s.insertFragment_tracks l n _
  · exact s.tallyCount_tracks n.owner Piece.tallyLate (fun _ => rfl) .droppedLate

theorem State.propose_tracks (l : Lane) (n : Proposal) (rd : Reading) : s.Tracks (s.propose l n rd) :=
  (s.meetEntries_tracks l n _ _).trans (.foldl (fun t f => t.settleFragment_tracks l n rd f) _ _)

/-! ### Placing pieces and untracked runs -/

theorem State.judgeChanged_tracks (b : State) : s.Tracks (b.judgeChanged s) :=
  .foldl (fun t v => by
    split_ifs
    · exact .refl t
    · exact t.judge_tracks _ _ _) _ s

theorem State.proposeOrLate_tracks (l : Lane) (n : Proposal) (rd : Reading) : s.Tracks (s.proposeOrLate l n rd) := by
  unfold State.proposeOrLate
  split_ifs
  · exact (s.tallyOwner_tracks n.owner Piece.tallyPlanned fun _ => rfl).trans (State.propose_tracks _ l n rd)
  · exact s.tallyCount_tracks n.owner Piece.tallyLate (fun _ => rfl) .droppedLate

theorem State.proposeBlow_tracks (l : Lane) (r : Row) (n : Proposal) (rd : Reading) :
    s.Tracks (s.proposeBlow l r n rd) := by
  unfold State.proposeBlow
  split_ifs
  · exact s.proposeOrLate_tracks l n rd
  · exact s.tallyOwner_tracks n.owner Piece.tallyUnavailable fun _ => rfl

theorem State.placePiece_tracks (i : Slot) (p : Piece) (c : Classification) (a b : Nat) (x : Run) :
    s.Tracks (s.placePiece i p c a b x) := by
  have fresh : s.Tracks (s.updatePiece i fun q => { q with tallies := {}, pendingEntries := 0 }) :=
    s.updatePiece_tracks i _ fun _ => rfl
  unfold State.placePiece
  dsimp only
  refine State.Tracks.trans (State.Tracks.trans ?placed (State.completeIfDone_tracks _ i))
    (State.judgeChanged_tracks _ s)
  case placed =>
    split
    · exact fresh.trans (.foldl (fun t l => t.proposeBlow_tracks l _ _ _) _ _)
    · split_ifs
      · exact fresh
      · exact fresh.trans (.foldl (fun t l => t.proposeOrLate_tracks l _ _) _ _)

theorem State.placeOverflow_tracks (l : Lane) (r : Row) (a b : Nat) (rd : Reading) :
    s.Tracks (s.placeOverflow l r a b rd) := by
  unfold State.placeOverflow
  dsimp only
  split
  · split_ifs
    · exact (s.setLane_tracks l _).trans (State.propose_tracks _ l _ rd)
    · exact s.setLane_tracks l _
  · exact s.propose_tracks l _ rd

theorem State.placeUntracked_tracks (a b : Nat) (rs : List Run) : s.Tracks (s.placeUntracked a b rs) := by
  unfold State.placeUntracked
  split
  · exact .refl s
  · refine State.Tracks.trans (.foldl (fun t l => ?_) _ s) (State.judgeChanged_tracks _ s)
    split_ifs
    · exact t.placeOverflow_tracks l _ _ _ _
    · exact t.count_tracks .droppedLate 1
    · exact .refl t

theorem State.placeHandoff_tracks (h : Handoff) : s.Tracks (s.placeHandoff h) := by
  unfold State.placeHandoff
  split
  · exact s.placeUntracked_tracks _ _ _
  · split
    · split
      · split_ifs
        · exact s.placePiece_tracks _ _ _ _ _ _
        · exact .refl s
      · exact .refl s
    · exact .refl s

theorem State.placeAllHandoffs_tracks : s.Tracks s.placeAllHandoffs :=
  State.Tracks.trans (t := { s with lsc.handoffs := [] }) .of_parts
    (.foldl (fun t h => t.placeHandoff_tracks h) _ _)

/-! ### The segmenter's line -/

theorem State.absorb_tracks (into i : Slot) : s.Tracks (State.absorb into s i) := by
  have merged (t : State) (n : Nat) : t.Tracks { t with ldm.merges := n } := .of_parts
  unfold State.absorb
  split
  · exact .refl s
  · next q _ =>
    exact (((s.updatePiece_tracks into (Piece.combine q) fun _ => rfl).trans (State.count_tracks _ .absorbed 1)).trans
      (State.freeSlot_tracks _ i)).trans (merged _ _)

theorem Piece.accumulateAll_bank (m : Nat) (sm : Samples) (seg : Run) (p : Piece) :
    (p.accumulateAll m sm seg).bank = p.bank := by
  unfold Piece.accumulateAll
  induction seg.cells generalizing p with
  | nil => rfl
  | cons c cs ih =>
    rw [List.foldl_cons, ih]
    split <;> rfl

theorem Piece.receive_bank (ln : Line) (seg : Run) (p : Piece) : (p.receive ln seg).bank = p.bank := by
  unfold Piece.receive
  dsimp only
  split
  · exact p.accumulateAll_bank _ _ seg
  · rfl

theorem State.receive_tracks (ln : Line) (seg : Run) (i : Slot) : s.Tracks (s.updatePiece i (Piece.receive ln seg)) :=
  s.updatePiece_tracks i _ fun p => p.receive_bank ln seg

theorem Linking.link_tracks (ln : Line) (eng : EngState) (k : Linking) (seg : Run) :
    k.state.Tracks (Linking.link ln eng k seg).state := by
  have leaves : k.state.Tracks (k.leave seg).state := k.state.count_tracks .untracked seg.width
  unfold Linking.link
  split
  · split_ifs
    · split
      · next i t h => exact (k.state.openPiece_tracks h).trans (t.receive_tracks ln seg i)
      · exact leaves
    · exact leaves
  · exact k.state.receive_tracks ln seg _
  · exact (State.Tracks.foldl (fun t j => t.absorb_tracks _ j) _ k.state).trans (State.receive_tracks _ ln seg _)

theorem Linking.fold_tracks (ln : Line) (eng : EngState) (segs : List Run) (k : Linking) :
    k.state.Tracks (segs.foldl (Linking.link ln eng) k).state := by
  induction segs generalizing k with
  | nil => exact .refl _
  | cons a as ih => exact (Linking.link_tracks ln eng k a).trans (ih _)

theorem State.fines_tracks (i : Slot) (p : Piece) : s.Tracks (s.fines i p) := by
  have freed : s.Tracks ((s.freeSlot i).count .fines 1) := (s.freeSlot_tracks i).trans (State.count_tracks _ .fines 1)
  unfold State.fines
  dsimp only
  split_ifs
  · exact freed.trans (State.offer_tracks _ _)
  · exact freed.trans (State.count_tracks _ .finesSuppressed 1)

theorem State.closePiece_tracks (i : Slot) (p : Piece) : s.Tracks (s.closePiece i p) := by
  have queued (t : State) : t.Tracks { t with cls.queue := t.cls.queue ++ [i] } := .of_parts
  unfold State.closePiece
  split_ifs
  · exact s.fines_tracks i p
  · exact (s.updatePiece_tracks i (fun q => { q with phase := .queued, front := [] }) fun _ => rfl).trans (queued _)
  · exact (s.updatePiece_tracks i (Piece.overflowed _ _) fun _ => rfl).trans (State.handOff_tracks _ _)

theorem State.dispose_tracks (eng : EngState) (i : Slot) : s.Tracks (State.dispose eng s i) := by
  unfold State.dispose
  split
  · exact .refl s
  · next p _ =>
    have closed := s.closePiece_tracks i p
    dsimp only
    split_ifs
    · split
      · next h => exact closed.trans (State.openPiece_tracks _ h)
      · exact closed
    · exact closed

theorem Piece.endLine_bank (ln : Line) (p : Piece) : (p.endLine ln).1.bank = p.bank := by
  unfold Piece.endLine
  dsimp only
  split_ifs <;> rfl

theorem State.segmentLine_tracks (ln : Line) : s.Tracks (s.segmentLine ln) := by
  have linked : s.Tracks ((segmentsOf ln.marks).foldl (Linking.link ln s.eng.state) ⟨s, s.matchSet, []⟩).state :=
    Linking.fold_tracks ln s.eng.state (segmentsOf ln.marks) ⟨s, s.matchSet, []⟩
  have ended (t : State) : t.Tracks (t.endLineAll ln) :=
    .foldl (fun u i => u.updatePiece_tracks i _ fun p => p.endLine_bank ln) _ t
  have disposed (t : State) (is : List Slot) : t.Tracks (is.foldl (State.dispose s.eng.state) t) :=
    .foldl (fun u i => u.dispose_tracks s.eng.state i) is t
  unfold State.segmentLine
  dsimp only
  split_ifs
  · exact (linked.trans (ended _)).trans (disposed _ _)
  · exact ((linked.trans (ended _)).trans (disposed _ _)).trans (State.handOff_tracks _ _)

/-! ### Valves -/

theorem State.truncate_tracks (l : Lane) (r : Row) : s.Tracks (s.truncate l r) := by
  have recovers := s.enterRecover_tracks l r
  unfold State.truncate
  dsimp only
  refine State.Tracks.trans ?_ (State.judge_tracks _ l r .late)
  split
  · exact recovers.trans (State.retire_tracks _ l _ .truncated)
  · exact recovers

theorem State.loseAirAt_tracks (l : Lane) (r : Row) : s.Tracks (s.loseAirAt l r) := by
  unfold State.loseAirAt
  split_ifs
  · have closes := s.setValve_tracks l r ((s.valve l r).idleIn .closed)
    dsimp only
    split
    · exact closes.trans (State.retire_tracks _ l _ .airLost)
    · exact closes
  · exact .refl s

theorem State.takeReport_tracks (c : CoilReport) : s.Tracks (s.takeReport c) := by
  have reported := s.setValve_tracks c.lane c.row { s.valve c.lane c.row with coil := c.coil }
  unfold State.takeReport
  dsimp only
  split_ifs
  · exact (reported.trans (State.takeOut_tracks _ _ _ .faulted)).trans (State.raiseFault_tracks _ .valveFault)
  · exact reported

/-! ### The engine -/

theorem State.stopDrain_tracks : s.Tracks s.stopDrain := by
  unfold State.stopDrain
  split_ifs
  · exact (s.setEngine_tracks _ _).trans (State.judgeDrained_tracks _)
  · exact .refl s

theorem State.stopAbandon_tracks : s.Tracks s.stopAbandon := by
  have draining : s.Tracks (if s.eng.state = .sorting then s.setEngine .draining .stopAbandon else s) := by
    split_ifs
    · exact s.setEngine_tracks _ _
    · exact .refl s
  exact ((draining.trans (State.abandonAll_tracks _ _)).trans (State.abandonClassifier_tracks _)).trans
    (State.judgeDrained_tracks _)

theorem State.flushValve_tracks (l : Lane) (r : Row) : s.Tracks (s.flushValve l r) := by
  unfold State.flushValve
  split_ifs
  · exact s.enterRecover_tracks l r
  · exact .refl s

theorem State.flushValves_tracks : s.Tracks s.flushValves := by
  have closing (vs : List (Lane × Row)) : s.Tracks (vs.foldl (fun (u : State) v => u.flushValve v.1 v.2) s) :=
    .foldl (fun t v => t.flushValve_tracks v.1 v.2) vs s
  unfold State.flushValves
  have closes := closing valveOrder
  generalize valveOrder.foldl (fun (u : State) v => u.flushValve v.1 v.2) s = t at closes ⊢
  exact (closes.trans (.foldl (fun t i => t.updatePiece_tracks i Piece.withoutEntries fun _ => rfl) _ t)).trans
    (State.flushAll_tracks _ _)

theorem State.endDraining_tracks : s.Tracks s.endDraining := by
  unfold State.endDraining
  split_ifs
  · exact s.setEngine_tracks _ _
  · exact .refl s

theorem State.flushClassifier_tracks : s.Tracks s.flushClassifier :=
  State.Tracks.trans (t := { s with cls := { queue := [], walk := none } }) .of_parts (State.flushAll_tracks _ _)

theorem State.flushed_tracks : s.Tracks s.flushed :=
  have unplaced (t : State) (x : Lsc) : t.Tracks { t with lsc := x } := .of_parts
  (((((s.placeAllHandoffs_tracks).trans (State.flushAll_tracks _ _)).trans
    (State.flushClassifier_tracks _)).trans (unplaced _ _)).trans (State.flushValves_tracks _)).trans
    (State.endDraining_tracks _)

end Ops

end Sys2Proof.Machine
end

section
/-! SUPPORT. The events and the pins (`State.Tracks`): belt, sensor lines, baseline tracker, segmenter, classifier, lanes,
valves, link and monitors. -/
-- One proof at a time: elaborated side by side, the proofs take more stacks than the check's memory holds.
set_option Elab.async false
namespace Sys2Proof.Machine

section Events
variable {s t : State}

/-! ### Sensor lines -/

theorem State.snapped_tracks (s : State) : s.Tracks s.snapped := by
  unfold State.snapped
  split_ifs
  · exact .of_parts
  · exact .of_parts

theorem State.declareMissing_tracks (s : State) (x : Trigger) : s.Tracks (s.declareMissing x) := by
  have missed : s.Tracks (s.missed x) := .of_parts
  rw [State.declareMissing_eq]
  split_ifs
  · exact missed.trans (State.raiseFault_tracks _ _)
  · exact missed

theorem State.withRoom_tracks (s : State) : s.Tracks s.withRoom := by
  unfold State.withRoom
  split
  · exact .refl s
  · next o rest _ =>
    split_ifs
    · exact State.Tracks.trans (t := { s with sli.outstanding := rest }) .of_parts (State.declareMissing_tracks _ o)
    · exact .refl s

theorem State.takeTrigger_tracks (s : State) (seq : SeqNo) (start stop : Nat) :
    s.Tracks (s.takeTrigger seq start stop) := by
  have enlisted (u : State) (x : Trigger) : u.Tracks (u.enlist x) := .of_parts
  rw [State.takeTrigger_eq]
  exact (s.snapped_tracks.trans (State.withRoom_tracks _)).trans (enlisted _ _)

theorem execLineRequestSend_tracks (h : execLineRequestSend s = .next t) : s.Tracks t := by
  unfold execLineRequestSend at h
  split at h <;> cases h
  · exact .refl s
  · exact .of_parts

theorem State.matchFrame_tracks (s : State) (bytes : List Byte) : s.Tracks (s.matchFrame bytes) := by
  have processed (u : State) (x : Trigger) : u.Tracks (u.processFrame x bytes) := .of_parts
  unfold State.matchFrame
  dsimp only
  split
  · exact s.count_tracks .stray 1
  · next x rest _ =>
    have unlisted : s.Tracks { s with sli.outstanding := rest } := .of_parts
    exact (unlisted.trans (.foldl (fun u o => u.declareMissing_tracks o) _ _)).trans (processed _ x)

theorem execSensorFrameEnd_tracks {bytes : List Byte} {broken : Bool}
    (h : execSensorFrameEnd bytes broken s = .next t) : s.Tracks t := by
  have ended : s.Tracks { s with sli.inFrame := false } := .of_parts
  unfold execSensorFrameEnd at h
  dsimp only at h
  split_ifs at h <;> cases h
  · exact ended.trans (State.matchFrame_tracks _ bytes)
  · exact ended.trans (State.count_tracks _ .frameErrors 1)
  · exact .refl s

/-! ### Belt -/

theorem State.backwardTick_tracks (s : State) : s.Tracks s.backwardTick := by
  have indebted (x : Bool) : s.Tracks { s with bpu.debt := s.bpu.debt + 1, bpu.excursion := x } := .of_parts
  unfold State.backwardTick
  dsimp only
  split_ifs
  · exact (indebted true).trans (State.raiseFault_tracks _ _)
  · exact indebted s.bpu.excursion
  · exact s.count_tracks .reverseLost 1

theorem State.lineTimer_tracks (s : State) : s.Tracks s.lineTimer := by
  have timed (stop : Nat) : s.Tracks { s with bpu.nextLine := stop, bpu.seq := s.bpu.seq + 1 } := .of_parts
  unfold State.lineTimer
  dsimp only
  split_ifs
  · exact ((timed _).trans (State.count_tracks _ .triggered 1)).trans (State.takeTrigger_tracks _ _ _ _)
  · exact .refl s

theorem State.moved_tracks (s : State) : s.Tracks s.moved := by
  have moved : s.Tracks { s with bpu.pos := s.bpu.pos + 1 } := .of_parts
  unfold State.moved
  split_ifs
  · exact moved.trans (State.raiseFault_tracks _ _)
  · exact moved

theorem State.forwardTick_tracks (s : State) : s.Tracks s.forwardTick := by
  unfold State.forwardTick
  split_ifs
  · exact .of_parts
  · rw [State.advance_eq]
    exact ((s.moved_tracks.trans (State.lineTimer_tracks _)).trans (State.judgeAll_tracks _ _)).trans
      (State.retireGuards_tracks _)
  · exact .refl s

theorem execEncoderTransition_tracks {a b : Bool} (h : execEncoderTransition a b s = .next t) : s.Tracks t := by
  have paired : s.Tracks (s.paired a b) := .of_parts
  obtain rfl | rfl | ⟨-, rfl⟩ | rfl := exec_encoder_cases s a b h
  · exact .refl _
  · exact paired.trans (State.count_tracks _ .encoderErrors 1)
  · exact paired.trans (State.forwardTick_tracks _)
  · exact paired.trans (State.backwardTick_tracks _)

theorem execSpeedUpdate_tracks (h : execSpeedUpdate s = .next t) : s.Tracks t := by
  have estimated (v : Nat) (x : Vector Nat 8) :
      s.Tracks { s with bpu.speed := v, bpu.history := x, sinceSpeed := 0 } := .of_parts
  exact ((estimated _ _).trans (State.computeLeads_tracks _)).of_next h

/-! ### Baseline tracker -/

theorem State.surveyLine_tracks (s : State) (ln : Line) (sm : Samples) : s.Tracks (s.surveyLine ln sm) := by
  have blt (b : Blt) : s.Tracks { s with blt := b } := .of_parts
  unfold State.surveyLine
  dsimp only
  split_ifs
  · exact ((blt _).trans (State.setEngine_tracks _ _ _)).trans (State.offer_tracks _ _)
  · exact ((blt _).trans (State.setEngine_tracks _ _ _)).trans (State.offer_tracks _ _)
  · exact blt _

theorem execBltTakeLine_tracks (h : execBltTakeLine s = .next t) : s.Tracks t := by
  unfold execBltTakeLine at h
  split at h
  · cases h; exact .refl s
  · next ln rest _ =>
    have taken : s.Tracks { s with bltLines := rest } := .of_parts
    dsimp only at h
    split_ifs at h <;> cases h
    · refine taken.trans ?_
      unfold State.surveyTakes
      split_ifs
      · exact .of_parts
      · split
        · exact State.surveyLine_tracks _ _ _
        · exact .refl _
    · exact taken.trans .of_parts
    · exact taken

/-! ### Segmenter and classifier -/

theorem execSegTakeLine_tracks (h : execSegTakeLine s = .next t) : s.Tracks t := by
  unfold execSegTakeLine at h
  split at h
  · cases h; exact .refl s
  · next ln rest _ =>
    have taken : s.Tracks { s with segLines := rest } := .of_parts
    dsimp only at h
    split_ifs at h <;> cases h
    · exact taken.trans (State.segmentLine_tracks _ ln)
    · exact taken

theorem execWalkStart_tracks (h : execWalkStart s = .next t) : s.Tracks t := by
  have started (u : State) (x : Cls) : u.Tracks { u with cls := x } := .of_parts
  unfold execWalkStart at h
  split at h
  · split at h
    · next p hp =>
      cases h
      exact (s.setSlot_tracks hp (by rfl)).trans (started _ _)
    · cases h
  · cases h; exact .refl s

theorem execTestEvaluate_tracks (h : execTestEvaluate s = .next t) : s.Tracks t := by
  unfold execTestEvaluate at h
  split at h
  · cases h; exact .refl s
  · split at h
    · cases h; exact .refl s
    · split at h
      · cases h; exact .of_parts
      · cases h

theorem State.completeCapture_tracks (s : State) : s.Tracks s.completeCapture := by
  have full (x : Nat) : s.Tracks { s with cap.state := .full, freeIndex := x } := .of_parts
  unfold State.completeCapture
  dsimp only
  split
  · exact (full _).trans (State.offer_tracks _ _)
  · exact (full _).trans (State.offer_tracks _ _)

theorem State.announce_tracks (s : State) (x : PieceNo) (k : PieceClass) : s.Tracks (s.announce x k) := by
  have named : s.Tracks { s with cap.piece := some x } := .of_parts
  unfold State.announce
  dsimp only
  split_ifs
  · exact named.trans (State.completeCapture_tracks _)
  · exact .of_parts
  · exact .refl s

theorem State.finishWalk_tracks {w : Walk} {p : Piece} (hp : s.piece w.slot = some p) (k : PieceClass) (f : Bool)
    (m : Dest × Terms) : s.Tracks (s.finishWalk w p k f m) := by
  have announced (x : Piece) (hx : x.bank = p.bank) :
      s.Tracks (((s.setSlot w.slot (some x)).handOff (.piece .classifier w.slot)).announce p.number k) :=
    ((s.setSlot_tracks hp hx).trans (State.handOff_tracks _ _)).trans (State.announce_tracks _ _ _)
  have ended (u : State) : u.Tracks { u with cls.walk := none } := .of_parts
  unfold State.finishWalk
  dsimp only
  refine State.Tracks.trans ?_ (ended _)
  split_ifs
  · exact (announced _ (by rfl)).trans (State.count_tracks _ .chainFaults 1)
  · exact announced _ (by rfl)

theorem execWalkEnd_tracks (h : execWalkEnd s = .next t) : s.Tracks t := by
  unfold execWalkEnd at h
  split at h
  · cases h; exact .refl s
  · split at h
    · cases h; exact .refl s
    · split at h
      · cases h
      · next p hp =>
        split at h
        · cases h
        · cases h; exact State.finishWalk_tracks hp _ _ _

/-! ### Lane scheduler -/

theorem State.dropHandoff_tracks (s : State) (h : Handoff) : s.Tracks (s.dropHandoff h) := .of_parts

theorem execPlacePiece_tracks {src : HandoffSource} (h : execPlacePiece src s = .next t) : s.Tracks t := by
  unfold execPlacePiece at h
  split at h
  · split at h
    · split at h
      · split_ifs at h
        cases h
        exact (s.dropHandoff_tracks _).trans (State.placePiece_tracks _ _ _ _ _ _ _)
      · cases h
    · cases h
  · cases h; exact .refl s

theorem execPlaceUntracked_tracks (h : execPlaceUntracked s = .next t) : s.Tracks t := by
  unfold execPlaceUntracked at h
  split at h <;> cases h
  · exact (s.dropHandoff_tracks _).trans (State.placeUntracked_tracks _ _ _ _)
  · exact .refl s

/-! ### Valves -/

theorem execMaxOnExpiry_tracks {l : Lane} {r : Row} (h : execMaxOnExpiry l r s = .next t) : s.Tracks t := by
  unfold execMaxOnExpiry at h
  split_ifs at h <;> cases h
  · exact s.truncate_tracks l r
  · exact .refl s

theorem execMinOffExpiry_tracks {l : Lane} {r : Row} (h : execMinOffExpiry l r s = .next t) : s.Tracks t := by
  unfold execMinOffExpiry at h
  split_ifs at h <;> cases h
  · exact (s.setValve_tracks l r _).trans (State.judge_tracks _ l r .late)
  · exact .refl s

theorem execPulseExpiry_tracks {l : Lane} {r : Row} (h : execPulseExpiry l r s = .next t) : s.Tracks t := by
  unfold execPulseExpiry at h
  split_ifs at h <;> cases h
  · exact (s.enterRecover_tracks l r).trans (State.judge_tracks _ l r .late)
  · exact .refl s

theorem State.setAir_tracks (s : State) (a : Air) : s.Tracks { s with vdr.air := a } := .of_parts

theorem execAirLost_tracks (h : execAirLost s = .next t) : s.Tracks t := by
  have closing (vs : List (Lane × Row)) (u : State) : u.Tracks (vs.foldl (fun (t : State) v => t.loseAirAt v.1 v.2) u) :=
    .foldl (fun t v => t.loseAirAt_tracks v.1 v.2) vs u
  unfold execAirLost at h
  split at h
  · exact (((s.setAir_tracks .lost).trans (closing valveOrder _)).trans (State.raiseFault_tracks _ .airLost)).of_next h
  · cases h; exact .refl s

theorem execAirRestored_tracks (h : execAirRestored s = .next t) : s.Tracks t := by
  unfold execAirRestored at h
  split at h
  · exact (((s.setAir_tracks .present).trans (State.offer_tracks _ _)).trans (State.judgeAll_tracks _ _)).of_next h
  · cases h; exact .refl s

theorem execValveReturnFrame_tracks {reports : List CoilReport} {good broken : Bool}
    (h : execValveReturnFrame reports good broken s = .next t) : s.Tracks t := by
  have ended : s.Tracks { s with vdr.inFrame := false } := .of_parts
  unfold execValveReturnFrame at h
  dsimp only at h
  split_ifs at h <;> cases h
  · exact ended.trans (State.Tracks.foldl (fun u x => u.takeReport_tracks x) reports _)
  · exact ended
  · exact .refl s

/-! ### Link -/

theorem State.dropFrame_tracks (s : State) (d : Counter) : s.Tracks (s.dropFrame d) := .of_parts

theorem execLinkFrameStart_tracks (h : execLinkFrameStart s = .next t) : s.Tracks t := by
  have begun (u : State) : u.Tracks { u with lnk.inFrame := true } := .of_parts
  unfold execLinkFrameStart at h
  cases h
  refine State.Tracks.trans ?_ (begun _)
  split_ifs
  · exact s.dropFrame_tracks _
  · exact .refl s

theorem State.judgeFrame_tracks (s : State) (bytes : List Byte) (m : Nat) : s.Tracks (s.judgeFrame bytes m) := by
  have good : s.Tracks (State.count .framesGood 1 { s with lnk.inFrame := false }) := .of_parts
  unfold State.judgeFrame State.receive
  split_ifs
  · exact good.trans .of_parts
  · exact good.trans (State.count_tracks _ .overruns 1)
  · exact s.dropFrame_tracks _

theorem execLinkFrameEnd_tracks {bytes : List Byte} (h : execLinkFrameEnd bytes s = .next t) : s.Tracks t := by
  unfold execLinkFrameEnd at h
  dsimp only at h
  split_ifs at h <;> cases h
  · exact .refl s
  · exact s.dropFrame_tracks _
  · exact .refl s
  · exact s.judgeFrame_tracks _ _

theorem execLinkFramingError_tracks (h : execLinkFramingError s = .next t) : s.Tracks t := by
  unfold execLinkFramingError at h
  split_ifs at h <;> cases h
  · exact s.dropFrame_tracks _
  · exact .refl s

theorem execGapAbort_tracks (h : execGapAbort s = .next t) : s.Tracks t := by
  unfold execGapAbort at h
  split_ifs at h <;> cases h
  · exact s.dropFrame_tracks _
  · exact .refl s

theorem execTransmitFrame_tracks (h : execTransmitFrame s = .next t) : s.Tracks t := by
  unfold execTransmitFrame at h
  split_ifs at h <;> cases h
  · unfold State.choose
    split
    · exact .of_parts
    · exact .of_parts
    · exact .refl s
  · exact .refl s

theorem execLinkFrameSent_tracks (h : execLinkFrameSent s = .next t) : s.Tracks t := by
  unfold execLinkFrameSent at h
  split at h <;> cases h
  · exact .refl s
  · exact .of_parts

theorem execUnknownKind_tracks (h : execUnknownKind s = .next t) : s.Tracks t := by
  unfold execUnknownKind at h
  split at h
  · cases h; exact .refl s
  · split_ifs at h <;> cases h
    · exact .of_parts
    · exact .refl s

/-! ### Monitors -/

theorem execLdmTakeLine_tracks (h : execLdmTakeLine s = .next t) : s.Tracks t := by
  unfold execLdmTakeLine at h
  split at h
  · cases h; exact .refl s
  · next ln rest _ =>
    have added (u : State) (ls : List Line) (d : Ldm) : u.Tracks { u with ldmLines := ls, ldm := d } := .of_parts
    dsimp only at h
    split_ifs at h <;> cases h
    · refine (added s rest (s.ldm.add ln)).trans ?_
      unfold State.endBlock
      dsimp only
      split_ifs
      · exact added _ rest _
      · exact (added _ _ _).trans (State.offer_tracks _ _)
    · exact added s rest _

theorem execCapTakeLine_tracks (h : execCapTakeLine s = .next t) : s.Tracks t := by
  unfold execCapTakeLine at h
  split at h
  · cases h; exact .refl s
  · next ln rest _ =>
    have taken : s.Tracks { s with capLines := rest } := .of_parts
    have recorded (m : Nat) : s.Tracks
        { s with capLines := rest, cap.ring := pushRecord s.cap.ring (ln.record s.cap.mode), cap.post := m } := .of_parts
    dsimp only at h
    split at h
    · cases h; exact recorded _
    · split_ifs at h <;> cases h
      · exact (recorded _).trans (State.completeCapture_tracks _)
      · exact recorded _
    · cases h; exact taken
    · cases h; exact taken

end Events

end Sys2Proof.Machine
end

section
/-! PROOF. The Recipe Store through every command (R108, R115 to R118, R120): the requests, the resets, and the settled
statement that every step keeps the banks sound. -/
-- One proof at a time: elaborated side by side, the proofs take more stacks than the check's memory holds.
set_option Elab.async false
namespace Sys2Proof.Machine

/-! ### What a command keeps of the banks -/

/-- What the command `c` keeps of the Recipe Store. -/
structure State.RecipesKept (c : Instr) (s t : State) : Prop where
  sound : s.recipesSound → t.recipesSound
  left : s.recipesSound → ∀ b, (s.bank b).state = .active → (t.bank b).state ≠ .active →
    c = .recipeCommit ∨ isHardReset c = true
  contents : s.recipesSound → ∀ b, (s.bank b).inUse → (t.bank b).inUse →
    t.bank b = { s.bank b with state := (t.bank b).state, pins := (t.bank b).pins }

section Kept
variable {c : Instr} {s t u v : State}

/-- The life of pieces takes no bank out of ACTIVE and leaves the contents of a bank in use (R108). -/
theorem State.Tracks.recipes (h : s.Tracks t) : s.RecipesKept c t where
  sound := h.sound
  left hs b hactive hleft := by
    obtain hb | ⟨hretiring, -⟩ := h.banks hs b
    · exact absurd (by rw [hb]; exact hactive) hleft
    · rw [hactive] at hretiring
      cases hretiring
  contents hs b _ huse := by
    obtain hb | ⟨-, hb⟩ := h.banks hs b
    · have hstate : (t.bank b).state = (s.bank b).state := by rw [hb]
      rw [hstate]
      exact hb
    · rw [hb] at huse
      obtain h | h := huse <;> cases h

/-- A change of other parts of the machine. -/
theorem State.RecipesKept.of_same (hseg : t.seg = s.seg := by rfl) (hrcs : t.rcs = s.rcs := by rfl) :
    s.RecipesKept c t :=
  (State.Tracks.of_parts hseg hrcs).recipes

theorem State.RecipesKept.refl (s : State) : s.RecipesKept c s := (State.Tracks.refl s).recipes

/-- Where other parts change before and after. -/
theorem State.RecipesKept.of_parts (h : u.RecipesKept c v) (hu : u.seg = s.seg) (hu' : u.rcs = s.rcs)
    (hv : t.seg = v.seg) (hv' : t.rcs = v.rcs) : s.RecipesKept c t := by
  have hsound : s.recipesSound → u.recipesSound := (State.Tracks.of_parts hu hu').sound
  have hbefore (b : BankId) : s.bank b = u.bank b := by simp only [State.bank, hu']
  have hafter (b : BankId) : t.bank b = v.bank b := by simp only [State.bank, hv']
  refine ⟨fun hs => (State.Tracks.of_parts hv hv').sound (h.sound (hsound hs)), fun hs b => ?_, fun hs b => ?_⟩
  · rw [hbefore, hafter]
    exact h.left (hsound hs) b
  · rw [hbefore, hafter]
    exact h.contents (hsound hs) b

/-- A request keeps what its block's answer keeps. -/
theorem State.takeRequest_recipes {kind : Nat} {mine : List Byte → Bool} {act : List Byte → State → Answer}
    (hact : ∀ body u, State.RecipesKept c u (act body u).state) (h : s.takeRequest kind mine act = .next t) :
    s.RecipesKept c t := by
  unfold State.takeRequest at h
  split at h
  · cases h; exact .refl s
  · next f rest _ =>
    split_ifs at h
    · obtain rfl := Host.Outcome.next.inj h
      unfold State.takeFrame judgedLength
      split_ifs
      · exact (hact f.body { s with lnk.inbound := rest }).of_parts rfl rfl rfl rfl
      · exact .of_same
    · cases h; exact .refl s

end Kept

/-! ### The requests of the other blocks -/

section Answers
variable (s : State)

theorem State.setSettings_tracks (body : List Byte) : s.Tracks (s.setSettings body).state := by
  have written (d : Cdu) : s.Tracks { s with cdu := d } := .of_parts
  unfold State.setSettings
  dsimp only
  split
  · exact .refl s
  · unfold State.withSettings State.accept
    dsimp only
    split_ifs
    · exact written _
    · exact (written _).trans (State.computeLeads_tracks _)

theorem State.sortStart_tracks : s.Tracks s.sortStart.state := by
  unfold State.sortStart
  split_ifs
  · exact .refl s
  · exact .refl s
  · exact s.setEngine_tracks _ _

theorem State.sortStop_tracks (body : List Byte) : s.Tracks (s.sortStop body).state := by
  unfold State.sortStop
  dsimp only
  split_ifs
  · exact .refl s
  · exact .refl s
  · exact s.stopDrain_tracks
  · exact s.stopAbandon_tracks

theorem State.flush_tracks : s.Tracks s.flush.state := by
  have flushed := s.flushed_tracks
  unfold State.flush State.accept
  dsimp only
  exact flushed

theorem State.clear_tracks : s.Tracks s.clear.state := by
  have cleared : s.Tracks { s with eng.flags := {} } := .of_parts
  unfold State.clear
  split_ifs
  · exact cleared.trans (State.setEngine_tracks _ _ _)
  · exact .refl s
  · exact cleared

theorem State.surveyStart_tracks (body : List Byte) : s.Tracks (s.surveyStart body).state := by
  have started (b : Blt) : s.Tracks { s with blt := b } := .of_parts
  unfold State.surveyStart
  dsimp only
  split_ifs
  · exact .refl s
  · exact (started _).trans (State.setEngine_tracks _ _ _)

theorem State.surveyStop_tracks : s.Tracks s.surveyStop.state := by
  unfold State.surveyStop
  split_ifs
  · exact s.abortSurvey_tracks _
  · exact .refl s

theorem State.surveyResult_tracks : s.Tracks s.surveyResult.state := by
  unfold State.surveyResult
  split
  · exact .refl s
  · exact .refl s

theorem State.baselineRead_tracks (body : List Byte) : s.Tracks (s.baselineRead body).state := by
  unfold State.baselineRead
  dsimp only
  split
  · exact .refl s
  · split_ifs
    · exact .refl s
    · exact .refl s

theorem State.baselineWrite_tracks (body : List Byte) : s.Tracks (s.baselineWrite body).state := by
  unfold State.baselineWrite
  dsimp only
  split
  · exact .refl s
  · split
    · exact .refl s
    · split
      · exact .refl s
      · split
        · exact .refl s
        · exact .of_parts

theorem State.laneRead_tracks (body : List Byte) : s.Tracks (s.laneRead body).state := by
  unfold State.laneRead
  split
  · exact .refl s
  · exact .refl s

theorem State.valveSet_tracks (body : List Byte) : s.Tracks (s.valveSet body).state := by
  unfold State.valveSet
  split
  · split_ifs
    · unfold State.enable State.accept
      dsimp only
      split_ifs
      · exact (s.setValve_tracks _ _ _).trans (State.judge_tracks _ _ _ _)
      · exact .refl s
    · unfold State.disable State.accept
      dsimp only
      split_ifs
      · exact .refl s
      · exact s.takeOut_tracks _ _ _
    · exact .refl s
  · exact .refl s

theorem State.valvePulse_tracks (body : List Byte) : s.Tracks (s.valvePulse body).state := by
  unfold State.valvePulse
  dsimp only
  split
  · split_ifs
    · exact .refl s
    · exact .refl s
    · exact .refl s
    · exact .refl s
    · exact s.setValve_tracks _ _ _
  · exact .refl s

theorem State.captureArm_tracks (body : List Byte) : s.Tracks (s.captureArm body).state := by
  unfold State.captureArm
  dsimp only
  split_ifs
  · exact .refl s
  · exact .refl s
  · exact .of_parts
  · exact .of_parts

theorem State.captureRead_tracks (body : List Byte) : s.Tracks (s.captureRead body).state := by
  unfold State.captureRead
  split_ifs
  · exact .refl s
  · split
    · exact .refl s
    · exact .refl s

theorem State.statsAnswer_tracks (body : List Byte) : s.Tracks (s.statsAnswer body).state := by
  unfold State.statsAnswer
  dsimp only
  split_ifs
  · exact .refl s
  · exact .of_parts
  · exact .refl s

end Answers

/-! ### The requests of the Recipe Store -/

section Recipes
variable {c : Instr} (s : State)

/-- A bank without a recipe in use may be opened, loaded and emptied, where the other bank is not LOADING too. -/
theorem State.updateBank_recipes (b : BankId) (f : Bank → Bank)
    (hfrom : (s.bank b).state = .empty ∨ (s.bank b).state = .loading)
    (hto : (f (s.bank b)).state = .empty ∨ (f (s.bank b)).state = .loading)
    (hone : s.recipesSound → (f (s.bank b)).state = .loading → (s.bank (otherBank b)).state ≠ .loading)
    (hpins : (f (s.bank b)).pins = 0 ∨ (f (s.bank b)).pins = (s.bank b).pins) :
    s.RecipesKept c (s.updateBank b f) := by
  have hbank (d : BankId) : (s.updateBank b f).bank d = if b = d then f (s.bank b) else s.bank d :=
    s.bank_updateBank b d f
  have hother : (s.updateBank b f).bank (otherBank b) = s.bank (otherBank b) := by
    rw [hbank, if_neg (otherBank_ne b).symm]
  refine ⟨fun hs => ?_, fun hs d hactive hleft => ?_, fun hs d huse _ => ?_⟩
  · obtain ⟨hlegal, hsound⟩ := (s.recipesSound_iff b).mp hs
    obtain ⟨hcount, hidle, -⟩ := hsound b
    have hzero : (f (s.bank b)).pins = 0 := hpins.elim id fun h => h.trans (hidle hfrom)
    refine State.recipesSound_of_bank hs b hother rfl ?_ ?_
    · rw [hbank, if_pos rfl]
      exact (legalPair_of_no_recipe hto).mpr
        ⟨((legalPair_of_no_recipe hfrom).mp hlegal).1, fun h => hone hs h.1 h.2⟩
    · rw [hbank, if_pos rfl]
      refine ⟨hzero.trans ((hidle hfrom).symm.trans hcount), fun _ => hzero, fun h => ?_⟩
      obtain hstate | hstate := hto <;> simp [hstate] at h
  · obtain rfl | rfl := eq_or_eq_otherBank b d
    · obtain h | h := hfrom <;> simp [h] at hactive
    · exact absurd (hother ▸ hactive) hleft
  · obtain rfl | rfl := eq_or_eq_otherBank b d
    · obtain h | h := hfrom <;> simp [h, Bank.inUse] at huse
    · rw [hother]

/-- What stands beside a LOADING bank is not LOADING. -/
theorem State.recipesSound.other_of_loading {s : State} (hs : s.recipesSound) {b : BankId}
    (hb : (s.bank b).state = .loading) : (s.bank (otherBank b)).state ≠ .loading := by
  obtain ⟨hlegal, -⟩ := (s.recipesSound_iff b).mp hs
  exact fun h => ((legalPair_of_no_recipe (.inr hb)).mp hlegal).2 ⟨hb, h⟩

/-- The bank that RECIPE_OPEN chooses stands beside no LOADING one (R108, R109). -/
theorem State.recipesSound.other_of_chosen {s : State} (hs : s.recipesSound) :
    (s.bank (otherBank s.chosenBank)).state ≠ .loading := by
  unfold State.chosenBank
  split
  · next b hb =>
    rw [otherBank_otherBank, State.state_of_bankIn hb]
    nofun
  · cases h : s.bankIn .loading with
    | some b => exact hs.other_of_loading (State.state_of_bankIn h)
    | none => simpa using List.find?_eq_none.mp h (otherBank 0) (by simp [otherBank])

theorem State.recipeOpen_recipes : s.RecipesKept c s.recipeOpen.state := by
  have opened (hfrom : (s.bank s.chosenBank).state = .empty ∨ (s.bank s.chosenBank).state = .loading) :
      s.RecipesKept c (s.updateBank s.chosenBank fun _ => Bank.opened) :=
    s.updateBank_recipes _ _ hfrom (.inr rfl) (fun hs _ => hs.other_of_chosen) (.inl rfl)
  unfold State.recipeOpen
  dsimp only
  split
  · next h => exact opened (.inl h)
  · next h => exact opened (.inr h)
  · exact .refl s
  · exact .refl s

/-- A LOADING bank filled. -/
theorem State.loadBank_recipes {b : BankId} (hb : s.bankIn .loading = some b) (f : Bank → Bank)
    (hstate : (f (s.bank b)).state = (s.bank b).state) (hpins : (f (s.bank b)).pins = (s.bank b).pins) :
    s.RecipesKept c (s.updateBank b f) := by
  have hloading := State.state_of_bankIn hb
  exact s.updateBank_recipes b f (.inr hloading) (.inr (hstate.trans hloading))
    (fun hs _ => hs.other_of_loading hloading) (.inr hpins)

theorem State.recipePutRecords_recipes (body : List Byte) : s.RecipesKept c (s.recipePutRecords body).state := by
  unfold State.recipePutRecords
  dsimp only
  split
  · exact .refl s
  · next b hb =>
    split_ifs
    · exact .refl s
    · exact s.loadBank_recipes hb _ rfl rfl

theorem State.recipePutClasses_recipes (body : List Byte) : s.RecipesKept c (s.recipePutClasses body).state := by
  unfold State.recipePutClasses
  dsimp only
  split
  · exact .refl s
  · next b hb =>
    split_ifs
    · exact .refl s
    · exact s.loadBank_recipes hb _ rfl rfl
    · exact .refl s

theorem State.recipeAbandon_recipes : s.RecipesKept c s.recipeAbandon.state := by
  unfold State.recipeAbandon
  split
  · exact .refl s
  · next b hb =>
    exact s.updateBank_recipes b (fun _ => Bank.blank) (.inr (State.state_of_bankIn hb)) (.inl rfl) (fun _ => nofun)
      (.inl rfl)

/-! ### The commit -/

section Swap
variable {b : BankId} (count root : Nat) (dest : Dest) (label : Nat)

theorem State.bank_swapBanks_self : (s.swapBanks b count root dest label).bank b =
    (s.bank b).committed count root dest label (s.rcs.generation + 1) := by
  simp [State.swapBanks, State.bank]

theorem State.bank_swapBanks_other : (s.swapBanks b count root dest label).bank (otherBank b) =
    if (s.bank (otherBank b)).state = .active then (s.bank (otherBank b)).retired else s.bank (otherBank b) := by
  simp [State.swapBanks, State.bank, otherBank_ne]

/-- The bank that was ACTIVE retires with the pins it has, or becomes EMPTY without any (R115). -/
theorem Bank.pinsSound_retired {x : Bank} {n : Nat} (h : x.pinsSound n) : x.retired.pinsSound n := by
  obtain ⟨rfl, -, -⟩ := h
  unfold Bank.retired
  split_ifs with hpins
  · exact ⟨rfl, fun h => by simp at h, fun _ => hpins⟩
  · exact ⟨(Nat.eq_zero_of_not_pos hpins).symm, fun _ => rfl, nofun⟩

theorem State.swapBanks_recipes (hb : (s.bank b).state = .loading) :
    s.RecipesKept .recipeCommit (s.swapBanks b count root dest label) := by
  have hself := s.bank_swapBanks_self (b := b) count root dest label
  have hother := s.bank_swapBanks_other (b := b) count root dest label
  refine ⟨fun hs => ?_, fun _ _ _ _ => .inl rfl, fun hs d huse huse' => ?_⟩
  · obtain ⟨hlegal, hsound⟩ := (s.recipesSound_iff b).mp hs
    obtain ⟨hretiring, hloading⟩ := (legalPair_of_no_recipe (.inr hb)).mp hlegal
    obtain ⟨hcount, hidle, -⟩ := hsound b
    refine (State.recipesSound_iff _ b).mpr ⟨?legal, fun d => ?pins⟩
    case legal =>
      rw [hself, hother]
      split_ifs with hactive
      · unfold Bank.retired
        split_ifs <;> trivial
      · cases hstate : (s.bank (otherBank b)).state with
        | empty => trivial
        | loading => exact absurd ⟨hb, hstate⟩ hloading
        | active => exact absurd hstate hactive
        | retiring => exact absurd hstate hretiring
    case pins =>
      have hpinned : (s.swapBanks b count root dest label).pinned d = s.pinned d := rfl
      rw [hpinned]
      obtain rfl | rfl := eq_or_eq_otherBank b d
      · rw [hself]
        exact ⟨hcount, fun h => by simp [Bank.committed] at h, nofun⟩
      · rw [hother]
        split_ifs
        · exact Bank.pinsSound_retired (hsound _)
        · exact hsound _
  · obtain rfl | rfl := eq_or_eq_otherBank b d
    · simp [hb, Bank.inUse] at huse
    · rw [hother] at huse' ⊢
      split_ifs at huse' ⊢
      · unfold Bank.retired at huse' ⊢
        split_ifs at huse' ⊢
        · rfl
        · obtain h | h := huse' <;> cases h
      · rfl

end Swap

theorem State.recipeCommit_recipes (body : List Byte) : s.RecipesKept .recipeCommit (s.recipeCommit body).state := by
  unfold State.recipeCommit
  dsimp only
  split
  · exact .refl s
  · next b hb =>
    split_ifs
    · exact .refl s
    · split
      · exact .refl s
      · exact s.swapBanks_recipes _ _ _ _ (State.state_of_bankIn hb)

/-! ### The resets -/

theorem State.bank_softened (a b : Bool) (air : Air) (d : BankId) :
    (s.softened a b air).bank d = (s.bank d).softened :=
  look_tabulate _ d

/-- A soft reset empties the piece table, and every bank but the ACTIVE one (R120). -/
theorem State.softened_recipes (a b : Bool) (air : Air) : s.RecipesKept c (s.softened a b air) := by
  have hbank := s.bank_softened a b air
  have hpinned (d : BankId) : (s.softened a b air).pinned d = 0 := by
    have hreset : (s.softened a b air).pinned d = State.reset.pinned d := rfl
    rw [hreset]
    simp [State.pinned, State.piece_reset]
  refine ⟨fun hs => ?_, fun _ d hactive hleft => ?_, fun _ d huse huse' => ?_⟩
  · refine (State.recipesSound_iff _ 0).mpr ⟨?legal, fun d => ?pins⟩
    case legal =>
      obtain ⟨hlegal, -⟩ := (s.recipesSound_iff 0).mp hs
      rw [hbank, hbank]
      unfold Bank.softened
      split_ifs with hzero hone
      · rw [hzero, hone] at hlegal
        exact hlegal.elim
      · rw [hzero]
        trivial
      · next hone =>
        rw [hone]
        trivial
      · trivial
    case pins =>
      rw [hbank, hpinned]
      unfold Bank.softened
      split_ifs with hactive
      · exact ⟨rfl, fun _ => rfl, fun h => by simp [hactive] at h⟩
      · exact ⟨rfl, fun _ => rfl, nofun⟩
  · rw [hbank, Bank.softened, if_pos hactive] at hleft
    exact absurd hactive hleft
  · rw [hbank] at huse' ⊢
    unfold Bank.softened at huse' ⊢
    split_ifs at huse' ⊢
    · rfl
    · obtain h | h := huse' <;> cases h

theorem exec_softReset_recipes {s t : State} {a b : Bool} {air : Air} (h : exec (.softReset a b air) s = .next t) :
    s.RecipesKept c t := by
  by_cases hreset : s.eng.resetPending = true ∧ s.eng.resetReplySent = true
  · rw [exec_softReset a b air hreset.1 hreset.2] at h
    obtain rfl := Host.Outcome.next.inj h
    exact (s.softened_recipes a b air).of_parts rfl rfl rfl rfl
  · obtain rfl : s = t := Host.Outcome.next.inj ((if_neg hreset).symm.trans h)
    exact .refl s

theorem exec_hardReset_recipes {s t : State} {a b : Bool} {air : Air} {straps : Fin 4}
    (h : exec (.hardReset a b air straps) s = .next t) : s.RecipesKept (.hardReset a b air straps) t := by
  rw [exec_hardReset] at h
  obtain rfl := Host.Outcome.next.inj h
  refine ⟨fun _ => (State.Tracks.of_parts (s := State.reset)).sound State.reset_recipesSound,
    fun _ _ _ _ => .inr rfl, fun _ d _ huse => ?_⟩
  have hempty : (State.reset.bank d).inUse := huse
  rw [State.bank_reset] at hempty
  obtain h | h := hempty <;> cases h

end Recipes

/-! ### Every command -/

/-- What every command keeps of the Recipe Store. -/
theorem exec_recipes {c : Instr} {s t : State} (h : exec c s = .next t) : s.RecipesKept c t := by
  cases c with
  | encoderTransition a b => exact (execEncoderTransition_tracks h).recipes
  | speedUpdate => exact (execSpeedUpdate_tracks h).recipes
  | lineRequestSend => exact (execLineRequestSend_tracks h).recipes
  | sensorFrameEnd bytes broken => exact (execSensorFrameEnd_tracks h).recipes
  | bltTakeLine => exact (execBltTakeLine_tracks h).recipes
  | segTakeLine => exact (execSegTakeLine_tracks h).recipes
  | ldmTakeLine => exact (execLdmTakeLine_tracks h).recipes
  | capTakeLine => exact (execCapTakeLine_tracks h).recipes
  | walkStart => exact (execWalkStart_tracks h).recipes
  | testEvaluate => exact (execTestEvaluate_tracks h).recipes
  | walkEnd => exact (execWalkEnd_tracks h).recipes
  | placePiece src => exact (execPlacePiece_tracks h).recipes
  | placeUntracked => exact (execPlaceUntracked_tracks h).recipes
  | maxOnExpiry l r => exact (execMaxOnExpiry_tracks h).recipes
  | minOffExpiry l r => exact (execMinOffExpiry_tracks h).recipes
  | pulseExpiry l r => exact (execPulseExpiry_tracks h).recipes
  | airLost => exact (execAirLost_tracks h).recipes
  | airRestored => exact (execAirRestored_tracks h).recipes
  | valveReturnFrame reports good broken => exact (execValveReturnFrame_tracks h).recipes
  | linkFrameEnd bytes => exact (execLinkFrameEnd_tracks h).recipes
  | linkFramingError => exact (execLinkFramingError_tracks h).recipes
  | gapAbort => exact (execGapAbort_tracks h).recipes
  | transmitFrame => exact (execTransmitFrame_tracks h).recipes
  | unknownKind => exact (execUnknownKind_tracks h).recipes
  | linkFrameStart => exact (execLinkFrameStart_tracks h).recipes
  | sensorFrameStart => cases h; exact .of_same
  | returnFrameStart => cases h; exact .of_same
  | linkFrameSent => exact (execLinkFrameSent_tracks h).recipes
  | softReset a b air => exact exec_softReset_recipes h
  | hardReset a b air straps => exact exec_hardReset_recipes h
  | hello => exact State.takeRequest_recipes (fun _ u => .refl u) h
  | status => exact State.takeRequest_recipes (fun _ u => .refl u) h
  | set => exact State.takeRequest_recipes (fun body u => (u.setSettings_tracks body).recipes) h
  | get => exact State.takeRequest_recipes (fun _ u => .refl u) h
  | hold => exact State.takeRequest_recipes (fun _ _ => .of_same) h
  | release => exact State.takeRequest_recipes (fun _ _ => .of_same) h
  | sortStart => exact State.takeRequest_recipes (fun _ u => u.sortStart_tracks.recipes) h
  | sortStopDrain => exact State.takeRequest_recipes (fun body u => (u.sortStop_tracks body).recipes) h
  | sortStopAbandon => exact State.takeRequest_recipes (fun body u => (u.sortStop_tracks body).recipes) h
  | flush => exact State.takeRequest_recipes (fun _ u => u.flush_tracks.recipes) h
  | clear => exact State.takeRequest_recipes (fun _ u => u.clear_tracks.recipes) h
  | reset => exact State.takeRequest_recipes (fun _ _ => .of_same) h
  | surveyStart => exact State.takeRequest_recipes (fun body u => (u.surveyStart_tracks body).recipes) h
  | surveyStop => exact State.takeRequest_recipes (fun _ u => u.surveyStop_tracks.recipes) h
  | surveyResult => exact State.takeRequest_recipes (fun _ u => u.surveyResult_tracks.recipes) h
  | baselineRead => exact State.takeRequest_recipes (fun body u => (u.baselineRead_tracks body).recipes) h
  | baselineWrite => exact State.takeRequest_recipes (fun body u => (u.baselineWrite_tracks body).recipes) h
  | recipeOpen => exact State.takeRequest_recipes (fun _ u => u.recipeOpen_recipes) h
  | recipePutRecords => exact State.takeRequest_recipes (fun body u => u.recipePutRecords_recipes body) h
  | recipePutClasses => exact State.takeRequest_recipes (fun body u => u.recipePutClasses_recipes body) h
  | recipeCommit => exact State.takeRequest_recipes (fun body u => u.recipeCommit_recipes body) h
  | recipeAbandon => exact State.takeRequest_recipes (fun _ u => u.recipeAbandon_recipes) h
  | recipeInfo => exact State.takeRequest_recipes (fun _ u => .refl u) h
  | laneRead => exact State.takeRequest_recipes (fun body u => (u.laneRead_tracks body).recipes) h
  | valveEnable => exact State.takeRequest_recipes (fun body u => (u.valveSet_tracks body).recipes) h
  | valveDisable => exact State.takeRequest_recipes (fun body u => (u.valveSet_tracks body).recipes) h
  | valvePulse => exact State.takeRequest_recipes (fun body u => (u.valvePulse_tracks body).recipes) h
  | valveState => exact State.takeRequest_recipes (fun _ u => .refl u) h
  | captureArmNow => exact State.takeRequest_recipes (fun body u => (u.captureArm_tracks body).recipes) h
  | captureArmClass => exact State.takeRequest_recipes (fun body u => (u.captureArm_tracks body).recipes) h
  | captureCancel => exact State.takeRequest_recipes (fun _ _ => .of_same) h
  | captureRead => exact State.takeRequest_recipes (fun body u => (u.captureRead_tracks body).recipes) h
  | statsRead => exact State.takeRequest_recipes (fun body u => (u.statsAnswer_tracks body).recipes) h
  | statsReadClear => exact State.takeRequest_recipes (fun body u => (u.statsAnswer_tracks body).recipes) h

theorem step_recipesSound {s t : State} (h : step s = .next t) (hs : s.recipesSound) : t.recipesSound := by
  unfold step at h
  split at h
  · next c rest _ =>
    have popped : s.Tracks { s with pending := rest } := .of_parts
    exact (exec_recipes h).sound (popped.sound hs)
  · obtain rfl := Host.Outcome.next.inj h
    rw [State.microsecond_eq]
    exact (State.Tracks.of_parts (s := s)).sound hs

/-- Settles O32: pieces come and go with their pins (`State.Tracks`), and only the requests of the Recipe Store and the
resets reach a bank besides. -/
theorem recipesStaySound : Obligations.RecipesStaySound :=
  ⟨fun _ _ => step_recipesSound, fun _ _ _ b hs h =>
    have kept := exec_recipes h
    ⟨kept.left hs b, kept.contents hs b⟩⟩

end Sys2Proof.Machine
end

section
/-! PROOF. RECIPE_OPEN and RECIPE_ABANDON, and what taking a request of the Recipe Store comes to (R109, R118). -/
-- One proof at a time: elaborated side by side, the proofs take more stacks than the check's memory holds.
set_option Elab.async false
namespace Sys2Proof.Machine

/-! ### The bank in a state -/

section Banks
variable {s : State} {st : BankState} {b : BankId}

theorem State.bankIn_eq_none (h : ∀ b, (s.bank b).state ≠ st) : s.bankIn st = none :=
  List.find?_eq_none.mpr fun b _ => by simp [h b]

/-- The bank in a state, where the other bank is not in it. -/
theorem State.bankIn_eq_some (hb : (s.bank b).state = st) (ho : (s.bank (otherBank b)).state ≠ st) :
    s.bankIn st = some b := by
  unfold State.bankIn
  obtain rfl | rfl := eq_or_eq_otherBank 0 b
  · simp [hb]
  · have hzero : (s.bank 0).state ≠ st := ho
    have hone : (s.bank 1).state = st := hb
    simp [hone, hzero, otherBank]

theorem State.bankIn_ne {c : BankId} (hb : (s.bank b).state ≠ st) (ho : (s.bank (otherBank b)).state ≠ st) :
    s.bankIn st ≠ some c := fun h => by
  have hc := State.state_of_bankIn h
  obtain rfl | rfl := eq_or_eq_otherBank b c
  · exact hb hc
  · exact ho hc

end Banks

/-! ### Taking a request -/

section Requests
variable {s : State} {f : Frame} {rest : List Frame}

/-- A request that changes the Recipe Store alone is taken. -/
theorem State.takeRequest_stored {kind : Nat} {act : List Byte → State → Answer} {r : Rcs} {data : List Byte}
    (h : s.asked kind f rest) (hfits : bodyFits kind f.body.length = true)
    (hact : act f.body (s.unqueued rest) = State.accept { s.unqueued rest with rcs := r } data) :
    s.takeRequest kind anyBody act = .next (State.answered { s with rcs := r } f rest .ok data) := by
  rw [State.takeRequest_asked h rfl hfits, hact]
  rfl

/-! ### RECIPE_OPEN -/

/-- The bank that RECIPE_OPEN chooses (R109). -/
theorem State.chosenBank_eq {b : BankId} (hb : (s.bank b).state ≠ .active)
    (h : (s.bank (otherBank b)).state = .active ∨
      ((s.bank (otherBank b)).state ≠ .active ∧ (s.bank b).state = .loading ∧
        (s.bank (otherBank b)).state ≠ .loading) ∨
      (b = 0 ∧ ∀ j, (s.bank j).state ≠ .active ∧ (s.bank j).state ≠ .loading)) : s.chosenBank = b := by
  unfold State.chosenBank
  obtain hother | ⟨hother, hloading, hone⟩ | ⟨rfl, hnone⟩ := h
  · rw [State.bankIn_eq_some (b := otherBank b) hother (by rwa [otherBank_otherBank])]
    exact otherBank_otherBank b
  · rw [Option.eq_none_iff_forall_ne_some.mpr fun c => State.bankIn_ne hb hother, State.bankIn_eq_some hloading hone]
    rfl
  · rw [State.bankIn_eq_none fun j => (hnone j).1, State.bankIn_eq_none fun j => (hnone j).2]
    rfl

theorem State.recipeOpen_eq (s : State) (hb : (s.bank s.chosenBank).state ≠ .active) : s.recipeOpen =
    if (s.bank s.chosenBank).state = .retiring then s.refuse .bankBusy []
    else (s.updateBank s.chosenBank fun _ => Bank.opened).accept (bankByte s.chosenBank) := by
  unfold State.recipeOpen
  dsimp only
  split
  · next h => rw [if_neg (by simp [h])]
  · next h => rw [if_neg (by simp [h])]
  · next h => rw [if_pos h]
  · next h => exact absurd h hb

theorem exec_recipeOpen {b : BankId} (h : s.asked 0x11 f rest) (hbody : f.body = []) (hchosen : s.chosenBank = b)
    (hb : (s.bank b).state ≠ .active) : exec .recipeOpen s = .next (
      if (s.bank b).state = .retiring then s.answered f rest .bankBusy []
      else State.answered
        { s with rcs.banks := put s.rcs.banks b { Bank.blank with state := .loading } } f rest .ok (toBytes 1 b.val)) := by
  subst hchosen
  have hfits : bodyFits 0x11 f.body.length = true := by rw [hbody]; rfl
  have hopen := (s.unqueued rest).recipeOpen_eq hb
  split_ifs with hretiring
  · exact State.takeRequest_answered h rfl hfits (hopen.trans (if_pos hretiring))
  · exact State.takeRequest_stored h hfits (hopen.trans (if_neg hretiring))

/-! ### RECIPE_ABANDON -/

theorem exec_recipeAbandon_state (h : s.asked 0x15 f rest) (hbody : f.body = [])
    (hnone : ∀ b, (s.bank b).state ≠ .loading) : exec .recipeAbandon s = .next (s.answered f rest .state []) := by
  refine State.takeRequest_bodiless h hbody rfl ?_
  unfold State.recipeAbandon
  rw [State.bankIn_eq_none (s := s.unqueued rest) hnone]
  rfl

theorem exec_recipeAbandon {b : BankId} (h : s.asked 0x15 f rest) (hbody : f.body = [])
    (hb : (s.bank b).state = .loading) (ho : (s.bank (otherBank b)).state ≠ .loading) :
    exec .recipeAbandon s = .next (State.answered
      { s with rcs.banks := put s.rcs.banks b Bank.blank } f rest .ok (toBytes 1 b.val)) := by
  refine State.takeRequest_stored h (by rw [hbody]; rfl) ?_
  unfold State.recipeAbandon
  rw [State.bankIn_eq_some (s := s.unqueued rest) hb ho]
  rfl

end Requests

/-- Settles O31: RECIPE_ABANDON acts on the LOADING bank, where there is one. -/
theorem recipeAbandonEmptiesTheLoadingBank : Obligations.RecipeAbandonEmptiesTheLoadingBank :=
  fun _ _ _ h hbody => ⟨exec_recipeAbandon_state h hbody, fun _ => exec_recipeAbandon h hbody⟩

end Sys2Proof.Machine
end

section
/-! PROOF. Loading a recipe: RECIPE_PUT_RECORDS and RECIPE_PUT_CLASSES, their refusals, what they write and what their
replies mark (R110, R111). -/
-- One proof at a time: elaborated side by side, the proofs take more stacks than the check's memory holds.
set_option Elab.async false
namespace Sys2Proof.Machine

/-! ### Codes and marks -/

theorem TestOp.code_ofCode (n : Nat) : (TestOp.ofCode n).code = min 4 n :=
  match n with
  | 0 | 1 | 2 | 3 => rfl
  | n + 4 => (Nat.min_eq_left (Nat.le_add_left 4 n)).symm

theorem Dest.code_ofCode (n : Nat) : (Dest.ofCode n).code = min 2 n :=
  match n with
  | 0 | 1 => rfl
  | n + 2 => (Nat.min_eq_left (Nat.le_add_left 2 n)).symm

theorem Target.code_ofCode (n : Nat) : (Target.ofCode n).code = min 272 n := by
  unfold Target.ofCode
  split_ifs
  · simp only [Target.code]; omega
  · simp only [Target.code]; omega
  · simp only [Target.code]; omega

theorem bit_decide (p : Prop) [Decidable p] (w : Nat) : bit (decide p) w = if p then w else 0 := by
  simp [bit]

/-- The marks of a record fit a byte. -/
theorem recordMarks_lt (bs : List Byte) : recordMarks bs < 256 := by
  unfold recordMarks
  have h1 := bit_le (decide (15 < byteAt bs 0)) 1
  have h2 := bit_le (decide (4 < byteAt bs 1)) 2
  have h3 := bit_le (decide (272 < field bs 6 2)) 4
  have h4 := bit_le (decide (272 < field bs 8 2)) 8
  omega

theorem entryMarks_lt (bs : List Byte) : entryMarks bs < 256 := by
  unfold entryMarks
  have h1 := bit_le (decide (2 < byteAt bs 1)) 1
  have h2 := bit_le (decide (7 < byteAt bs 2)) 2
  have h3 := bit_le (decide (3 < byteAt bs 5)) 4
  have h4 := bit_le (decide (1 < byteAt bs 6)) 8
  omega

theorem byteAt_lt (bs : List Byte) (i : Nat) : byteAt bs i < 256 := field_lt bs i 1

/-- A reply of two bytes for each item: a number, and the marks of the item's fields. -/
theorem pairs_bytes {α : Type} {as : List α} {key marks : α → Nat} {j : Nat} {a : α} (hj : as[j]? = some a)
    (hkey : key a < 256) (hmarks : marks a < 256) :
    byteAt (as.flatMap fun x => toBytes 1 (key x) ++ toBytes 1 (marks x)) (2 * j) = key a ∧
      byteAt (as.flatMap fun x => toBytes 1 (key x) ++ toBytes 1 (marks x)) (2 * j + 1) = marks a := by
  have hblock : ∀ x ∈ as, (toBytes 1 (key x) ++ toBytes 1 (marks x)).length = 2 := fun x _ => by simp
  constructor
  · refine (field_flatMap_blocks hblock hj (i := 0) (by decide)).trans ?_
    rw [field_first]
    exact Nat.mod_eq_of_lt hkey
  · refine (field_flatMap_blocks hblock hj (i := 1) (by decide)).trans ?_
    rw [field_later 1 _ _ _ _ le_rfl, field_toBytes]
    exact Nat.mod_eq_of_lt hmarks

/-! ### The records of a body -/

/-- The ten bytes of one record of a RECIPE_PUT_RECORDS. -/
def sentRecord (body : List Byte) (j : Nat) : List Byte := ((body.drop 1).drop (10 * j)).take 10

/-- The records of a RECIPE_PUT_RECORDS of `n + 1` records. -/
def sentRecords (body : List Byte) (n : Nat) : List (List Byte) := (List.range (n + 1)).map (sentRecord body)

section Records
variable {body : List Byte} {n : Nat}

theorem field_sentRecord {i m : Nat} (j : Nat) (h : i + m ≤ 10) :
    field (sentRecord body j) i m = field body (1 + 10 * j + i) m := by
  rw [sentRecord, field_take h, field_drop, field_drop, Nat.add_assoc]

theorem byteAt_sentRecord {i : Nat} (j : Nat) (h : i < 10) :
    byteAt (sentRecord body j) i = byteAt body (1 + 10 * j + i) :=
  field_sentRecord j h

@[simp] theorem length_sentRecords : (sentRecords body n).length = n + 1 := by simp [sentRecords]

theorem getElem?_sentRecords {j : Nat} (hj : j ≤ n) : (sentRecords body n)[j]? = some (sentRecord body j) := by
  simp [sentRecords, show j < n + 1 by omega]

theorem chunks_records (hlen : body.length = 1 + 10 * (n + 1)) :
    chunks 10 body.length (body.drop 1) = sentRecords body n :=
  chunks_eq_map (by rw [List.length_drop]; omega) (by omega) (by decide)

/-- The fields of a record as stored, each clamped to its codes (R110). -/
theorem recordOf_sentRecord (body : List Byte) (j : Nat) :
    let at_ := 1 + 10 * j
    let r := recordOf (sentRecord body j)
    r.feature.val = min 15 (byteAt body at_) ∧ r.op.code = min 4 (byteAt body (at_ + 1)) ∧
      r.a.toNat = field body (at_ + 2) 2 ∧ r.b.toNat = field body (at_ + 4) 2 ∧
      r.onTrue.code = min 272 (field body (at_ + 6) 2) ∧ r.onFalse.code = min 272 (field body (at_ + 8) 2) := by
  have hfeature : min (byteAt body (1 + 10 * j)) 15 % 16 = min 15 (byteAt body (1 + 10 * j)) := by omega
  have word (i : Nat) : (BitVec.ofNat 16 (field body i 2)).toNat = field body i 2 :=
    (BitVec.toNat_ofNat _ _).trans (Nat.mod_eq_of_lt (field_lt body i 2))
  unfold recordOf
  rw [byteAt_sentRecord j (by decide), byteAt_sentRecord j (by decide), field_sentRecord j (by decide),
    field_sentRecord j (by decide), field_sentRecord j (by decide), field_sentRecord j (by decide)]
  exact ⟨hfeature, TestOp.code_ofCode _, word _, word _, Target.code_ofCode _, Target.code_ofCode _⟩

/-- The marks of the fields that were clamped (R110). -/
theorem recordMarks_sentRecord (body : List Byte) (j : Nat) :
    let at_ := 1 + 10 * j
    recordMarks (sentRecord body j) = (if 15 < byteAt body at_ then 1 else 0) +
      (if 4 < byteAt body (at_ + 1) then 2 else 0) + (if 272 < field body (at_ + 6) 2 then 4 else 0) +
      (if 272 < field body (at_ + 8) 2 then 8 else 0) := by
  simp only [recordMarks, bit_decide]
  rw [byteAt_sentRecord j (by decide), byteAt_sentRecord j (by decide), field_sentRecord j (by decide),
    field_sentRecord j (by decide)]
  rfl

/-- What stands at an index after records were written from the first index on. -/
theorem Bank.look_putRecords (b : Bank) (first : Nat) (rs : List TestRecord) (i : Fin 256) :
    look (b.putRecords first rs).records i =
      if first ≤ i.val ∧ i.val < first + rs.length then rs[i.val - first]? else look b.records i := by
  unfold Bank.putRecords
  rw [look_tabulate]
  by_cases hfirst : first ≤ i.val
  · by_cases hlast : i.val < first + rs.length
    · have hin : i.val - first < rs.length := by omega
      rw [if_pos hfirst, if_pos ⟨hfirst, hlast⟩, List.getElem?_eq_getElem hin]
    · rw [if_pos hfirst, if_neg fun h => hlast h.2, List.getElem?_eq_none (by omega)]
  · rw [if_neg hfirst, if_neg fun h => hfirst h.1]

end Records

/-! ### RECIPE_PUT_RECORDS -/

/-- The reply to records written: each index and its marks. -/
def recordReply (first : Nat) (sent : List (List Byte)) : List Byte :=
  sent.zipIdx.flatMap fun x => toBytes 1 (first + x.2) ++ toBytes 1 (recordMarks x.1)

section PutRecords
variable {s : State} {f : Frame} {rest : List Frame} {n : Nat} {b : BankId}

theorem bodyFits_records (hlen : f.body.length = 1 + 10 * (n + 1)) : bodyFits 0x12 f.body.length = true := by
  rw [hlen]
  simp only [bodyFits, Bool.and_eq_true, decide_eq_true_eq, beq_iff_eq]
  omega

theorem exec_recipePutRecords_state (h : s.asked 0x12 f rest) (hlen : f.body.length = 1 + 10 * (n + 1))
    (hnone : ∀ b, (s.bank b).state ≠ .loading) : exec .recipePutRecords s = .next (s.answered f rest .state []) := by
  refine State.takeRequest_answered h rfl (bodyFits_records hlen) ?_
  unfold State.recipePutRecords
  rw [State.bankIn_eq_none (s := s.unqueued rest) hnone]
  rfl

/-- With a bank LOADING, the records are written or the last index is out of range. -/
theorem State.recipePutRecords_loading {body : List Byte} (hlen : body.length = 1 + 10 * (n + 1))
    (hb : s.bankIn .loading = some b) : s.recipePutRecords body =
      if 255 < byteAt body 0 + n then s.refuse .range []
      else (s.updateBank b (Bank.putRecords (byteAt body 0)
        ((sentRecords body n).map recordOf))).accept
          (recordReply (byteAt body 0) (sentRecords body n)) := by
  unfold State.recipePutRecords
  dsimp only
  rw [hb, chunks_records hlen]
  simp only [length_sentRecords, ← Nat.add_assoc, Nat.add_sub_cancel]
  rfl

theorem exec_recipePutRecords_range (h : s.asked 0x12 f rest) (hlen : f.body.length = 1 + 10 * (n + 1))
    (hb : (s.bank b).state = .loading) (ho : (s.bank (otherBank b)).state ≠ .loading)
    (hrange : 255 < byteAt f.body 0 + n) : exec .recipePutRecords s = .next (s.answered f rest .range []) :=
  State.takeRequest_answered h rfl (bodyFits_records hlen)
    ((State.recipePutRecords_loading (s := s.unqueued rest) hlen (State.bankIn_eq_some hb ho)).trans (if_pos hrange))

theorem exec_recipePutRecords (h : s.asked 0x12 f rest) (hlen : f.body.length = 1 + 10 * (n + 1))
    (hb : (s.bank b).state = .loading) (ho : (s.bank (otherBank b)).state ≠ .loading)
    (hrange : byteAt f.body 0 + n ≤ 255) : exec .recipePutRecords s = .next (State.answered
      { s with rcs.banks := put s.rcs.banks b ((s.bank b).putRecords (byteAt f.body 0)
        ((sentRecords f.body n).map recordOf)) } f rest .ok
      (recordReply (byteAt f.body 0) (sentRecords f.body n))) :=
  State.takeRequest_stored h (bodyFits_records hlen)
    ((State.recipePutRecords_loading (s := s.unqueued rest) hlen (State.bankIn_eq_some hb ho)).trans
      (if_neg (Nat.not_lt_of_le hrange)))

end PutRecords

theorem length_recordReply (first : Nat) (sent : List (List Byte)) : (recordReply first sent).length = 2 * sent.length := by
  unfold recordReply
  rw [length_flatMap_blocks (m := 2) fun x _ => by simp, List.length_zipIdx]

/-- The reply for the record at a place: its index, and the marks of its clamped fields. -/
theorem recordReply_bytes {body : List Byte} {n j : Nat} (hj : j ≤ n) (hrange : byteAt body 0 + n ≤ 255) :
    let data := recordReply (byteAt body 0) (sentRecords body n)
    byteAt data (2 * j) = byteAt body 0 + j ∧ byteAt data (2 * j + 1) = recordMarks (sentRecord body j) := by
  have hplace : (sentRecords body n).zipIdx[j]? = some (sentRecord body j, j) := by
    simp [getElem?_sentRecords hj]
  exact pairs_bytes (key := fun x => byteAt body 0 + x.2) (marks := fun x => recordMarks x.1) hplace
    (by dsimp only; omega) (recordMarks_lt _)

/-! ### The class entries of a body -/

/-- The seven bytes of one class entry of a RECIPE_PUT_CLASSES. -/
def sentEntry (body : List Byte) (j : Nat) : List Byte := (body.drop (7 * j)).take 7

/-- The class entries of a RECIPE_PUT_CLASSES of `n + 1` entries. -/
def sentEntries (body : List Byte) (n : Nat) : List (List Byte) := (List.range (n + 1)).map (sentEntry body)

section Entries
variable {body : List Byte} {n : Nat}

theorem byteAt_sentEntry {i : Nat} (j : Nat) (h : i < 7) : byteAt (sentEntry body j) i = byteAt body (7 * j + i) := by
  rw [sentEntry, byteAt, field_take h, field_drop]
  rfl

@[simp] theorem length_sentEntries : (sentEntries body n).length = n + 1 := by simp [sentEntries]

theorem getElem?_sentEntries {j : Nat} (hj : j ≤ n) : (sentEntries body n)[j]? = some (sentEntry body j) := by
  simp [sentEntries, show j < n + 1 by omega]

/-- Each entry of a body is one of its blocks, and names the class of the block's first byte. -/
theorem mem_sentEntries {e : List Byte} (he : e ∈ sentEntries body n) :
    ∃ j ≤ n, e = sentEntry body j ∧ byteAt e 0 = byteAt body (7 * j) := by
  obtain ⟨j, hj, rfl⟩ := List.mem_map.mp he
  exact ⟨j, Nat.lt_succ_iff.mp (List.mem_range.mp hj), rfl, byteAt_sentEntry j (by decide)⟩

theorem chunks_entries (hlen : body.length = 7 * (n + 1)) :
    chunks 7 body.length body = sentEntries body n :=
  chunks_eq_map hlen (by omega) (by decide)

/-- The classes that the entries of a body name. -/
def namedClasses (body : List Byte) (n : Nat) : List Nat := (List.range (n + 1)).map fun j => byteAt body (7 * j)

theorem namedClasses_eq (body : List Byte) (n : Nat) :
    (sentEntries body n).map (fun e => byteAt e 0) = namedClasses body n := by
  rw [sentEntries, List.map_map]
  exact List.map_congr_left fun j _ => byteAt_sentEntry j (by decide)

theorem namedClasses_any : ((namedClasses body n).any fun c => decide (15 < c)) = true ↔
    ∃ j ≤ n, 15 < byteAt body (7 * j) := by
  simp [namedClasses]

theorem namedClasses_nodup : (namedClasses body n).Nodup ↔
    ∀ i j, i < j → j ≤ n → byteAt body (7 * i) ≠ byteAt body (7 * j) := by
  rw [List.nodup_iff_pairwise_ne, List.pairwise_iff_getElem]
  simp only [namedClasses, List.length_map, List.length_range, List.getElem_map, List.getElem_range]
  exact ⟨fun h i j hij hj => h i j (by omega) (by omega) hij, fun h i j _ hj hij => h i j hij (by omega)⟩

/-- The fields of a class entry as stored, each clamped to its codes (R111). -/
theorem entryOf_sentEntry (body : List Byte) (j : Nat) :
    let e := entryOf (sentEntry body j)
    e.dest.code = min 2 (byteAt body (7 * j + 1)) ∧ e.terms.prec = min 7 (byteAt body (7 * j + 2)) ∧
      e.terms.lead = byteAt body (7 * j + 3) ∧ e.terms.trail = byteAt body (7 * j + 4) ∧
      e.terms.widen = min 3 (byteAt body (7 * j + 5)) ∧
      (e.terms.report = true ↔ 1 ≤ byteAt body (7 * j + 6)) := by
  unfold entryOf
  rw [byteAt_sentEntry j (by decide), byteAt_sentEntry j (by decide), byteAt_sentEntry j (by decide),
    byteAt_sentEntry j (by decide), byteAt_sentEntry j (by decide), byteAt_sentEntry j (by decide)]
  exact ⟨Dest.code_ofCode _, Nat.min_comm _ _, rfl, rfl, Nat.min_comm _ _, decide_eq_true_iff⟩

/-- The marks of the fields that were clamped (R111). -/
theorem entryMarks_sentEntry (body : List Byte) (j : Nat) :
    entryMarks (sentEntry body j) = (if 2 < byteAt body (7 * j + 1) then 1 else 0) +
      (if 7 < byteAt body (7 * j + 2) then 2 else 0) + (if 3 < byteAt body (7 * j + 5) then 4 else 0) +
      (if 1 < byteAt body (7 * j + 6) then 8 else 0) := by
  simp only [entryMarks, bit_decide]
  rw [byteAt_sentEntry j (by decide), byteAt_sentEntry j (by decide), byteAt_sentEntry j (by decide),
    byteAt_sentEntry j (by decide)]

/-- A class that no entry names stands as it was. -/
theorem Bank.look_putClasses_other (b : Bank) {es : List (List Byte)} {c : Fin 16}
    (h : ∀ e ∈ es, byteAt e 0 ≠ c.val) : look (b.putClasses es).classes c = look b.classes c := by
  unfold Bank.putClasses
  rw [look_tabulate, List.find?_eq_none.mpr fun e he => by simpa using h e he]

/-- A class that one entry alone names holds that entry. -/
theorem Bank.look_putClasses_named (b : Bank) {es : List (List Byte)} {c : Fin 16} {e : List Byte} (he : e ∈ es)
    (hc : byteAt e 0 = c.val) (hone : ∀ x ∈ es, byteAt x 0 = c.val → x = e) :
    look (b.putClasses es).classes c = some (entryOf e) := by
  unfold Bank.putClasses
  rw [look_tabulate]
  cases hfind : es.find? fun e => byteAt e 0 == c.val with
  | none => exact absurd hc (by simpa using List.find?_eq_none.mp hfind e he)
  | some x =>
    rw [hone x (List.mem_of_find?_eq_some hfind) (by simpa using List.find?_some hfind)]

end Entries

/-! ### RECIPE_PUT_CLASSES -/

/-- The reply to class entries written: each class and its marks. -/
def entryReply (sent : List (List Byte)) : List Byte :=
  sent.flatMap fun e => toBytes 1 (byteAt e 0) ++ toBytes 1 (entryMarks e)

section PutClasses
variable {s : State} {f : Frame} {rest : List Frame} {n : Nat} {b : BankId}

theorem bodyFits_entries (hlen : f.body.length = 7 * (n + 1)) : bodyFits 0x13 f.body.length = true := by
  rw [hlen]
  simp only [bodyFits, Bool.and_eq_true, decide_eq_true_eq, beq_iff_eq]
  omega

theorem exec_recipePutClasses_state (h : s.asked 0x13 f rest) (hlen : f.body.length = 7 * (n + 1))
    (hnone : ∀ b, (s.bank b).state ≠ .loading) : exec .recipePutClasses s = .next (s.answered f rest .state []) := by
  refine State.takeRequest_answered h rfl (bodyFits_entries hlen) ?_
  unfold State.recipePutClasses
  rw [State.bankIn_eq_none (s := s.unqueued rest) hnone]
  rfl

/-- With a bank LOADING, the entries are written, or a class is out of range, or one is named twice. -/
theorem State.recipePutClasses_loading {body : List Byte} (hlen : body.length = 7 * (n + 1))
    (hb : s.bankIn .loading = some b) : s.recipePutClasses body =
      if (namedClasses body n).any fun c => decide (15 < c) then s.refuse .range []
      else if (namedClasses body n).Nodup then
        (s.updateBank b (Bank.putClasses (sentEntries body n))).accept
          (entryReply (sentEntries body n))
      else s.refuse .duplicate [] := by
  unfold State.recipePutClasses
  dsimp only
  rw [hb, chunks_entries hlen, namedClasses_eq]
  rfl

section Loading
variable (h : s.asked 0x13 f rest) (hlen : f.body.length = 7 * (n + 1)) (hb : (s.bank b).state = .loading)
  (ho : (s.bank (otherBank b)).state ≠ .loading)
include h hlen hb ho

theorem exec_recipePutClasses_range (hrange : ∃ j ≤ n, 15 < byteAt f.body (7 * j)) :
    exec .recipePutClasses s = .next (s.answered f rest .range []) :=
  State.takeRequest_answered h rfl (bodyFits_entries hlen)
    ((State.recipePutClasses_loading (s := s.unqueued rest) hlen (State.bankIn_eq_some hb ho)).trans
      (if_pos (namedClasses_any.mpr hrange)))

theorem exec_recipePutClasses_duplicate (hrange : ∀ j ≤ n, byteAt f.body (7 * j) ≤ 15)
    (htwice : ∃ i j, i < j ∧ j ≤ n ∧ byteAt f.body (7 * i) = byteAt f.body (7 * j)) :
    exec .recipePutClasses s = .next (s.answered f rest .duplicate []) := by
  refine State.takeRequest_answered h rfl (bodyFits_entries hlen)
    ((State.recipePutClasses_loading (s := s.unqueued rest) hlen (State.bankIn_eq_some hb ho)).trans ?_)
  obtain ⟨i, j, hij, hj, hsame⟩ := htwice
  rw [if_neg fun hany => ?_, if_neg fun hnodup => namedClasses_nodup.mp hnodup i j hij hj hsame]
  · rfl
  · obtain ⟨k, hk, hbig⟩ := namedClasses_any.mp hany
    exact absurd (hrange k hk) (Nat.not_le_of_lt hbig)

theorem exec_recipePutClasses (hrange : ∀ j ≤ n, byteAt f.body (7 * j) ≤ 15)
    (honce : ∀ i j, i < j → j ≤ n → byteAt f.body (7 * i) ≠ byteAt f.body (7 * j)) :
    exec .recipePutClasses s = .next (State.answered
      { s with rcs.banks := put s.rcs.banks b ((s.bank b).putClasses (sentEntries f.body n)) } f rest .ok
      (entryReply (sentEntries f.body n))) := by
  refine State.takeRequest_stored h (bodyFits_entries hlen)
    ((State.recipePutClasses_loading (s := s.unqueued rest) hlen (State.bankIn_eq_some hb ho)).trans ?_)
  rw [if_neg fun hany => ?_, if_pos (namedClasses_nodup.mpr honce)]
  · rfl
  · obtain ⟨k, hk, hbig⟩ := namedClasses_any.mp hany
    exact absurd (hrange k hk) (Nat.not_le_of_lt hbig)

end Loading

end PutClasses

theorem length_entryReply (sent : List (List Byte)) : (entryReply sent).length = 2 * sent.length :=
  length_flatMap_blocks fun x _ => by simp

/-- The reply for the entry at a place: its class, and the marks of its clamped fields. -/
theorem entryReply_bytes {body : List Byte} {n j : Nat} (hj : j ≤ n) :
    let data := entryReply (sentEntries body n)
    byteAt data (2 * j) = byteAt body (7 * j) ∧ byteAt data (2 * j + 1) = entryMarks (sentEntry body j) := by
  obtain ⟨hkey, hmarks⟩ := pairs_bytes (key := fun e => byteAt e 0) (marks := entryMarks) (getElem?_sentEntries hj)
    (byteAt_lt _ 0) (entryMarks_lt _)
  exact ⟨hkey.trans (byteAt_sentEntry j (by decide)), hmarks⟩

/-! ### The statement -/

/-- Settles O29, request by request: the bank opened, the records by their indices, the entries by their classes. -/
theorem recipeIsLoaded : Obligations.RecipeIsLoaded := by
  refine ⟨fun s f rest b h hbody hb hchosen => exec_recipeOpen h hbody (State.chosenBank_eq hb hchosen) hb,
    fun s f rest n h hlen => ⟨exec_recipePutRecords_state h hlen, fun b hb ho =>
      ⟨exec_recipePutRecords_range h hlen hb ho, fun hrange => ?records⟩⟩,
    fun s f rest n h hlen => ⟨exec_recipePutClasses_state h hlen, fun b hb ho =>
      ⟨exec_recipePutClasses_range h hlen hb ho, exec_recipePutClasses_duplicate h hlen hb ho,
        fun hrange honce => ?classes⟩⟩⟩
  case records =>
    have hlook := (s.bank b).look_putRecords (byteAt f.body 0) ((sentRecords f.body n).map recordOf)
    rw [List.length_map, length_sentRecords] at hlook
    refine ⟨((s.bank b).putRecords (byteAt f.body 0) ((sentRecords f.body n).map recordOf)).records,
      recordReply (byteAt f.body 0) (sentRecords f.body n), exec_recipePutRecords h hlen hb ho hrange,
      by rw [length_recordReply, length_sentRecords], fun i hi => ?_, fun i j hi hj => ?_⟩
    · rw [hlook, if_neg (by omega)]
    · obtain ⟨hindex, hmarks⟩ := recordReply_bytes hj hrange
      refine ⟨hindex.trans hi.symm, hmarks.trans (recordMarks_sentRecord f.body j), recordOf (sentRecord f.body j), ?_,
        recordOf_sentRecord f.body j⟩
      rw [hlook, if_pos (by omega), show i.val - byteAt f.body 0 = j by omega, List.getElem?_map,
        getElem?_sentRecords hj]
      rfl
  case classes =>
    refine ⟨((s.bank b).putClasses (sentEntries f.body n)).classes, entryReply (sentEntries f.body n),
      exec_recipePutClasses h hlen hb ho hrange honce, by rw [length_entryReply, length_sentEntries],
      fun c hc => Bank.look_putClasses_other _ fun x hx => ?_, fun c j hj hc => ?_⟩
    · obtain ⟨j, hj, -, hx⟩ := mem_sentEntries hx
      rw [hx]
      exact hc j hj
    · obtain ⟨hclass, hmarks⟩ := entryReply_bytes (body := f.body) hj
      refine ⟨hclass.trans hc, hmarks.trans (entryMarks_sentEntry f.body j), entryOf (sentEntry f.body j), ?_,
        entryOf_sentEntry f.body j⟩
      refine Bank.look_putClasses_named _ (List.mem_of_getElem? (getElem?_sentEntries hj))
        ((byteAt_sentEntry j (by decide)).trans hc) fun x hx hxc => ?_
      obtain ⟨k, hk, rfl, hxk⟩ := mem_sentEntries hx
      have hsame : byteAt f.body (7 * k) = byteAt f.body (7 * j) := hxk.symm.trans (hxc.trans hc.symm)
      obtain hlt | rfl | hgt := Nat.lt_trichotomy k j
      · exact absurd hsame (honce k j hlt hj)
      · rfl
      · exact absurd hsame.symm (honce j k hgt hk)

end Sys2Proof.Machine
end

section
/-! PROOF. RECIPE_COMMIT: the bytes the check is made over, the failures in their order, and the swap of the banks (R112 to
R115). -/
-- One proof at a time: elaborated side by side, the proofs take more stacks than the check's memory holds.
set_option Elab.async false
namespace Sys2Proof.Machine

/-! ### The bytes of the check -/

theorem Target.code_lt (t : Target) : t.code < 65536 := by
  cases t with
  | record i => simp only [Target.code]; omega
  | cls c => simp only [Target.code]; omega
  | unresolved => decide

theorem TestOp.code_lt (o : TestOp) : o.code < 256 := by cases o <;> decide

@[simp] theorem TestRecord.length_bytes (r : TestRecord) : r.bytes.length = 10 := by simp [TestRecord.bytes]

@[simp] theorem ClassEntry.length_bytes (e : ClassEntry) : e.bytes.length = 6 := by simp [ClassEntry.bytes]

theorem TestRecord.bytes_fields (r : TestRecord) :
    byteAt r.bytes 0 = r.feature.val ∧ byteAt r.bytes 1 = r.op.code ∧ field r.bytes 2 2 = r.a.toNat ∧
      field r.bytes 4 2 = r.b.toNat ∧ field r.bytes 6 2 = r.onTrue.code ∧ field r.bytes 8 2 = r.onFalse.code := by
  simp only [TestRecord.bytes, byteAt, List.append_assoc, field_first, field_later, field_toBytes, Nat.reduceLeDiff,
    Nat.reduceSub]
  exact ⟨Nat.mod_eq_of_lt (r.feature.isLt.trans (by decide)), Nat.mod_eq_of_lt r.op.code_lt, Nat.mod_eq_of_lt r.a.isLt,
    Nat.mod_eq_of_lt r.b.isLt, Nat.mod_eq_of_lt r.onTrue.code_lt, Nat.mod_eq_of_lt r.onFalse.code_lt⟩

theorem ClassEntry.bytes_fields (e : ClassEntry) :
    byteAt e.bytes 0 = e.dest.code ∧ byteAt e.bytes 1 = e.terms.prec % 256 ∧ byteAt e.bytes 2 = e.terms.lead % 256 ∧
      byteAt e.bytes 3 = e.terms.trail % 256 ∧ byteAt e.bytes 4 = e.terms.widen % 256 ∧
      byteAt e.bytes 5 = if e.terms.report then 1 else 0 := by
  simp only [ClassEntry.bytes, byteAt, List.append_assoc, field_first, field_later, field_toBytes, Nat.reduceLeDiff,
    Nat.reduceSub]
  refine ⟨Nat.mod_eq_of_lt e.dest.code_lt, rfl, rfl, rfl, rfl, ?_⟩
  cases e.terms.report <;> rfl

/-- What a record of the chain, or a class entry, adds to the check. -/
def heldBytes {α : Type} (f : α → List Byte) (x : Option α) : List Byte := (x.map f).getD []

theorem length_heldBytes {α : Type} {f : α → List Byte} {m : Nat} (hf : ∀ a, (f a).length = m) {x : Option α}
    (hx : x ≠ none) : (heldBytes f x).length = m := by
  obtain ⟨a, rfl⟩ := Option.ne_none_iff_exists'.mp hx
  exact hf a

theorem getElem?_toList {α : Type} {n : Nat} (v : Vector α n) (i : Fin n) : v.toList[i.val]? = some (look v i) := by
  simp [look]

theorem mem_toList_iff_look {α : Type} {n : Nat} (v : Vector α n) (a : α) : a ∈ v.toList ↔ ∃ i, look v i = a := by
  simp [toList_eq_map_look]

theorem mem_take_toList {α : Type} {n : Nat} {v : Vector α n} {k : Nat} {a : α} (h : a ∈ v.toList.take k) :
    ∃ i : Fin n, i.val < k ∧ look v i = a := by
  obtain ⟨i, hi, rfl⟩ := List.mem_take_iff_getElem.mp h
  have hn : i < n := by simp at hi; omega
  exact ⟨⟨i, hn⟩, by dsimp only; omega, by simp [look]⟩

section CheckBytes
variable (b : Bank) {count : Nat}

/-- The records of the check, ten bytes each. -/
def Bank.chainBytes (count : Nat) : List Byte := (b.records.toList.take count).flatMap (heldBytes TestRecord.bytes)

/-- The class table of the check, six bytes each entry. -/
def Bank.classBytes : List Byte := b.classes.toList.flatMap (heldBytes ClassEntry.bytes)

theorem Bank.checkBytes_eq (count : Nat) : b.checkBytes count = b.chainBytes count ++ b.classBytes := rfl

variable {b} (hrecords : ∀ i : Fin 256, i.val < count → look b.records i ≠ none)
  (hclasses : ∀ c, look b.classes c ≠ none)

include hrecords in
theorem Bank.chainBlocks : ∀ x ∈ b.records.toList.take count, (heldBytes TestRecord.bytes x).length = 10 := by
  intro x hx
  obtain ⟨i, hi, rfl⟩ := mem_take_toList hx
  exact length_heldBytes TestRecord.length_bytes (hrecords i hi)

include hclasses in
theorem Bank.classBlocks : ∀ x ∈ b.classes.toList, (heldBytes ClassEntry.bytes x).length = 6 := by
  intro x hx
  obtain ⟨c, rfl⟩ := (mem_toList_iff_look _ _).mp hx
  exact length_heldBytes ClassEntry.length_bytes (hclasses c)

include hrecords in
theorem Bank.length_chainBytes (hcount : count ≤ 256) : (b.chainBytes count).length = 10 * count := by
  rw [Bank.chainBytes, length_flatMap_blocks (Bank.chainBlocks hrecords)]
  simp [hcount]

include hclasses in
theorem Bank.length_classBytes : b.classBytes.length = 96 := by
  rw [Bank.classBytes, length_flatMap_blocks (Bank.classBlocks hclasses)]
  simp

include hrecords in
/-- Where the bytes of a record stand in the check. -/
theorem Bank.field_checkBytes_record (hcount : count ≤ 256) {i : Fin 256} {r : TestRecord} (hi : i.val < count)
    (hr : look b.records i = some r) {k m : Nat} (hk : k + m ≤ 10) :
    field (b.checkBytes count) (10 * i.val + k) m = field r.bytes k m := by
  have hplace : (b.records.toList.take count)[i.val]? = some (some r) := by
    rw [List.getElem?_take_of_lt hi, getElem?_toList, hr]
  rw [b.checkBytes_eq, field_append_left _ (by rw [Bank.length_chainBytes hrecords hcount]; omega)]
  exact field_flatMap_blocks (Bank.chainBlocks hrecords) hplace hk

include hrecords hclasses in
/-- Where the bytes of a class entry stand in the check. -/
theorem Bank.field_checkBytes_class (hcount : count ≤ 256) {c : Fin 16} {e : ClassEntry}
    (he : look b.classes c = some e) {k m : Nat} (hk : k + m ≤ 6) :
    field (b.checkBytes count) (10 * count + 6 * c.val + k) m = field e.bytes k m := by
  have hplace : b.classes.toList[c.val]? = some (some e) := by rw [getElem?_toList, he]
  rw [b.checkBytes_eq, field_append_right _ _ (by rw [Bank.length_chainBytes hrecords hcount]; omega),
    Bank.length_chainBytes hrecords hcount, show 10 * count + 6 * c.val + k - 10 * count = 6 * c.val + k by omega]
  exact field_flatMap_blocks (Bank.classBlocks hclasses) hplace hk

end CheckBytes

/-! ### The failures -/

/-- The first of the places in order at which something holds. -/
theorem find?_finRange_eq_some {n : Nat} {p : Fin n → Bool} {i : Fin n} :
    (List.finRange n).find? p = some i ↔ p i = true ∧ ∀ j < i, p j = false := by
  rw [List.find?_eq_some_iff_getElem]
  constructor
  · rintro ⟨hi, k, hk, hki, hbefore⟩
    rw [List.getElem_finRange] at hki
    subst hki
    exact ⟨hi, fun j hj => by simpa using hbefore j.val hj⟩
  · rintro ⟨hi, hbefore⟩
    refine ⟨hi, i.val, by simp, by simp, fun j hj => ?_⟩
    simpa using hbefore ⟨j, hj.trans i.isLt⟩ hj

theorem find?_finRange_eq_none {n : Nat} {p : Fin n → Bool} : (List.finRange n).find? p = none ↔ ∀ i, p i = false := by
  simp

/-- No record is written at an index of the chain. -/
def Bank.missingAt (b : Bank) (count : Nat) (i : Fin 256) : Prop := i.val < count ∧ look b.records i = none

/-- The record at an index of the chain names a record index out of the chain. -/
def Bank.astrayAt (b : Bank) (count : Nat) (i : Fin 256) : Prop :=
  ∃ r, i.val < count ∧ look b.records i = some r ∧
    ((count ≤ r.onTrue.code ∧ r.onTrue.code < 256) ∨ (count ≤ r.onFalse.code ∧ r.onFalse.code < 256))

theorem Target.beyond_iff (t : Target) (count : Nat) : t.beyond count = true ↔ count ≤ t.code ∧ t.code < 256 := by
  cases t with
  | record i => simp [Target.beyond, Target.code, i.isLt]
  | cls c => simp [Target.beyond, Target.code]
  | unresolved => simp [Target.beyond, Target.code]

section Failure
variable {b : Bank} {count root check : Nat}

theorem Bank.missingAt_iff (i : Fin 256) :
    (decide (i.val < count) && (look b.records i).isNone) = true ↔ b.missingAt count i := by
  simp [Bank.missingAt]

theorem Bank.astrayAt_iff (i : Fin 256) :
    (decide (i.val < count) && ((look b.records i).map (TestRecord.beyond count)).getD false) = true ↔
      b.astrayAt count i := by
  unfold Bank.astrayAt
  cases look b.records i with
  | none => simp
  | some r => simp [TestRecord.beyond, Target.beyond_iff]

theorem Bank.missingRecord_eq_some {i : Fin 256} :
    b.missingRecord count = some i ↔ b.missingAt count i ∧ ∀ j < i, ¬ b.missingAt count j := by
  simp only [Bank.missingRecord, find?_finRange_eq_some, ← Bool.not_eq_true, Bank.missingAt_iff]

theorem Bank.missingRecord_eq_none : b.missingRecord count = none ↔ ∀ i, ¬ b.missingAt count i := by
  simp only [Bank.missingRecord, find?_finRange_eq_none, ← Bool.not_eq_true, Bank.missingAt_iff]

theorem Bank.missingClass_eq_some {c : Fin 16} :
    b.missingClass = some c ↔ look b.classes c = none ∧ ∀ d < c, look b.classes d ≠ none := by
  simp only [Bank.missingClass, find?_finRange_eq_some, ← Bool.not_eq_true, Option.isNone_iff_eq_none, ne_eq]

theorem Bank.missingClass_eq_none : b.missingClass = none ↔ ∀ c, look b.classes c ≠ none := by
  simp only [Bank.missingClass, find?_finRange_eq_none, ← Bool.not_eq_true, Option.isNone_iff_eq_none, ne_eq]

theorem Bank.badRecord_eq_some {i : Fin 256} :
    b.badRecord count = some i ↔ b.astrayAt count i ∧ ∀ j < i, ¬ b.astrayAt count j := by
  simp only [Bank.badRecord, find?_finRange_eq_some, ← Bool.not_eq_true, Bank.astrayAt_iff]

theorem Bank.badRecord_eq_none : b.badRecord count = none ↔ ∀ i, ¬ b.astrayAt count i := by
  simp only [Bank.badRecord, find?_finRange_eq_none, ← Bool.not_eq_true, Bank.astrayAt_iff]

/-! The failures in the order of R113, each where none before it applies. -/

theorem Bank.failure_record {i : Fin 256} (hi : b.missingAt count i) (hfirst : ∀ j < i, ¬ b.missingAt count j) :
    b.failure count root check = some (.incomplete, toBytes 1 0 ++ toBytes 1 i.val) := by
  rw [Bank.failure, Bank.missingRecord_eq_some.mpr ⟨hi, hfirst⟩]

variable (hrecords : ∀ i, ¬ b.missingAt count i)
include hrecords

theorem Bank.failure_class {c : Fin 16} (hc : look b.classes c = none) (hfirst : ∀ d < c, look b.classes d ≠ none) :
    b.failure count root check = some (.incomplete, toBytes 1 1 ++ toBytes 1 c.val) := by
  rw [Bank.failure, Bank.missingRecord_eq_none.mpr hrecords, Bank.missingClass_eq_some.mpr ⟨hc, hfirst⟩]

variable (hclasses : ∀ c, look b.classes c ≠ none)
include hclasses

theorem Bank.failure_root (hroot : count ≤ root) :
    b.failure count root check = some (.badTarget, toBytes 1 2 ++ toBytes 1 root) := by
  simp only [Bank.failure, Bank.missingRecord_eq_none.mpr hrecords, Bank.missingClass_eq_none.mpr hclasses, if_pos hroot]

variable (hroot : root < count)
include hroot

theorem Bank.failure_target {i : Fin 256} (hi : b.astrayAt count i) (hfirst : ∀ j < i, ¬ b.astrayAt count j) :
    b.failure count root check = some (.badTarget, toBytes 1 0 ++ toBytes 1 i.val) := by
  simp only [Bank.failure, Bank.missingRecord_eq_none.mpr hrecords, Bank.missingClass_eq_none.mpr hclasses,
    if_neg (Nat.not_le_of_lt hroot), Bank.badRecord_eq_some.mpr ⟨hi, hfirst⟩]

/-- With all else sound, the check is left to fail. -/
theorem Bank.failure_check (htargets : ∀ i, ¬ b.astrayAt count i) :
    b.failure count root check =
      if b.check count = check then none else some (.check, toBytes 2 (b.check count)) := by
  simp only [Bank.failure, Bank.missingRecord_eq_none.mpr hrecords, Bank.missingClass_eq_none.mpr hclasses,
    if_neg (Nat.not_le_of_lt hroot), Bank.badRecord_eq_none.mpr htargets]

end Failure

/-! ### RECIPE_COMMIT -/

/-- A table of the two banks, written bank by bank. -/
theorem tabulate_banks (v : Vector Bank 2) (g : BankId → Bank) (b : BankId) :
    tabulate 2 g = put (put v b (g b)) (otherBank b) (g (otherBank b)) := by
  refine Vector.ext fun i hi => ?_
  change look (tabulate 2 g) ⟨i, hi⟩ = look (put (put v b (g b)) (otherBank b) (g (otherBank b))) ⟨i, hi⟩
  rw [look_tabulate, look_put, look_put]
  obtain hj | hj := eq_or_eq_otherBank b ⟨i, hi⟩
  · rw [hj, if_neg (otherBank_ne b), if_pos rfl]
  · rw [hj, if_pos rfl]

/-- The bank beside one that is committed: an ACTIVE one retires. -/
def Bank.besideCommit (x : Bank) : Bank := if x.state = .active then x.retired else x

/-- The two banks after a commit (R115). -/
theorem State.swapBanks_eq (s : State) (b : BankId) (count root : Nat) (dest : Dest) (label : Nat) :
    s.swapBanks b count root dest label = { s with rcs := {
      generation := s.rcs.generation + 1
      banks := put (put s.rcs.banks b ((s.bank b).committed count root dest label (s.rcs.generation + 1))) (otherBank b)
        (s.bank (otherBank b)).besideCommit } } := by
  unfold State.swapBanks
  dsimp only
  rw [tabulate_banks s.rcs.banks _ b, if_pos rfl, if_neg (otherBank_ne b)]
  rfl

section Answer
variable {s : State} {body : List Byte} {b : BankId} (hb : s.bankIn .loading = some b)
  (hcount : ¬ (field body 0 2 = 0 ∨ 256 < field body 0 2))
include hb hcount

theorem State.recipeCommit_failure {st : Status} {data : List Byte}
    (hfail : (s.bank b).failure (field body 0 2) (byteAt body 2) (field body 8 2) = some (st, data)) :
    s.recipeCommit body = s.refuse st data := by
  unfold State.recipeCommit
  dsimp only
  rw [hb]
  dsimp only
  rw [if_neg hcount, hfail]

/-- A sound bank is committed (R115). -/
theorem State.recipeCommit_sound
    (hsound : (s.bank b).failure (field body 0 2) (byteAt body 2) (field body 8 2) = none) :
    s.recipeCommit body =
      (s.swapBanks b (field body 0 2) (byteAt body 2) (Dest.ofCode (byteAt body 3)) (field body 4 4)).accept
        (toBytes 1 b.val ++ toBytes 2 (s.rcs.generation + 1).toNat ++
          toBytes 1 (if 2 < byteAt body 3 then 1 else 0)) := by
  unfold State.recipeCommit
  dsimp only
  rw [hb]
  dsimp only
  rw [if_neg hcount, hsound, bit_decide]
  rfl

end Answer

section Commit
variable {s : State} {f : Frame} {rest : List Frame} {b : BankId}
variable (h : s.asked 0x14 f rest) (hlen : f.body.length = 10)
include h hlen

theorem exec_recipeCommit_state (hnone : ∀ b, (s.bank b).state ≠ .loading) :
    exec .recipeCommit s = .next (s.answered f rest .state []) := by
  refine State.takeRequest_answered h rfl (by rw [hlen]; rfl) ?_
  unfold State.recipeCommit
  dsimp only
  rw [State.bankIn_eq_none (s := s.unqueued rest) hnone]
  rfl

variable (hb : (s.bank b).state = .loading) (ho : (s.bank (otherBank b)).state ≠ .loading)
include hb ho

theorem exec_recipeCommit_range (hcount : field f.body 0 2 = 0 ∨ 256 < field f.body 0 2) :
    exec .recipeCommit s = .next (s.answered f rest .range []) := by
  refine State.takeRequest_answered h rfl (by rw [hlen]; rfl) ?_
  unfold State.recipeCommit
  dsimp only
  rw [State.bankIn_eq_some (s := s.unqueued rest) hb ho]
  exact if_pos hcount

theorem exec_recipeCommit_failure (hcount : ¬ (field f.body 0 2 = 0 ∨ 256 < field f.body 0 2)) {st : Status}
    {data : List Byte}
    (hfail : (s.bank b).failure (field f.body 0 2) (byteAt f.body 2) (field f.body 8 2) = some (st, data)) :
    exec .recipeCommit s = .next (s.answered f rest st data) :=
  State.takeRequest_answered h rfl (by rw [hlen]; rfl)
    (State.recipeCommit_failure (s := s.unqueued rest) (State.bankIn_eq_some hb ho) hcount hfail)

theorem exec_recipeCommit (hcount : ¬ (field f.body 0 2 = 0 ∨ 256 < field f.body 0 2))
    (hsound : (s.bank b).failure (field f.body 0 2) (byteAt f.body 2) (field f.body 8 2) = none) :
    exec .recipeCommit s = .next (State.answered
      { s with rcs := {
        generation := s.rcs.generation + 1
        banks := put (put s.rcs.banks b ((s.bank b).committed (field f.body 0 2) (byteAt f.body 2)
          (Dest.ofCode (byteAt f.body 3)) (field f.body 4 4) (s.rcs.generation + 1))) (otherBank b)
          (s.bank (otherBank b)).besideCommit } } f rest .ok
      (toBytes 1 b.val ++ toBytes 2 (s.rcs.generation + 1).toNat ++
        toBytes 1 (if 2 < byteAt f.body 3 then 1 else 0))) :=
  State.takeRequest_stored h (by rw [hlen]; rfl)
    ((State.recipeCommit_sound (s := s.unqueued rest) (State.bankIn_eq_some hb ho) hcount hsound).trans
      (congrArg (State.accept · _) (State.swapBanks_eq _ b _ _ _ _)))

end Commit

/-- Settles O30: the check's bytes block by block, then the request through the failures of R113 to the swap. -/
theorem recipeCommitSwapsBanks : Obligations.RecipeCommitSwapsBanks := by
  refine ⟨fun b count hcount hrecords hclasses => ⟨?length, fun i r hi hr => ?record, fun c e he => ?entry⟩,
    fun s f rest h hlen => ⟨exec_recipeCommit_state h hlen, fun b hb ho =>
      ⟨exec_recipeCommit_range h hlen hb ho, fun hlow hhigh => ?_⟩⟩⟩
  case length =>
    rw [b.checkBytes_eq, List.length_append, Bank.length_chainBytes hrecords hcount, Bank.length_classBytes hclasses]
  case record =>
    have hfields := r.bytes_fields
    simp only [byteAt] at hfields ⊢
    have place {k m : Nat} (hk : k + m ≤ 10) := Bank.field_checkBytes_record hrecords hcount hi hr hk
    rw [← place (k := 0) (by decide), ← place (by decide), ← place (by decide), ← place (by decide),
      ← place (by decide), ← place (by decide)] at hfields
    exact hfields
  case entry =>
    have hfields := e.bytes_fields
    simp only [byteAt] at hfields ⊢
    have place {k m : Nat} (hk : k + m ≤ 6) := Bank.field_checkBytes_class hrecords hclasses hcount he hk
    rw [← place (k := 0) (by decide), ← place (by decide), ← place (by decide), ← place (by decide),
      ← place (by decide), ← place (by decide)] at hfields
    exact hfields
  have hcount : ¬ (field f.body 0 2 = 0 ∨ 256 < field f.body 0 2) := by omega
  have refused {st : Status} {data : List Byte} := exec_recipeCommit_failure h hlen hb ho hcount (st := st) (data := data)
  refine ⟨fun i hi hfirst => refused (Bank.failure_record hi hfirst), fun hrecords =>
    ⟨fun c hc hfirst => refused (Bank.failure_class hrecords hc hfirst), fun hclasses =>
      ⟨fun hroot => refused (Bank.failure_root hrecords hclasses hroot), fun hroot =>
        ⟨fun i hi hfirst => refused (Bank.failure_target hrecords hclasses hroot hi hfirst), fun htargets =>
          ⟨fun hcheck => refused ?bad, fun hcheck => ?sound⟩⟩⟩⟩⟩
  case bad => exact (Bank.failure_check hrecords hclasses hroot htargets).trans (if_neg hcheck)
  case sound =>
    exact ⟨_, _, exec_recipeCommit h hlen hb ho hcount
      ((Bank.failure_check hrecords hclasses hroot htargets).trans (if_pos hcheck)), rfl,
      fun i => look_tabulate _ i, rfl⟩

end Sys2Proof.Machine
end

section
/-! SUPPORT. Windows on the belt (R131, R134, R137, R138): what a cut leaves of a window, of a fragment and of an entry,
and what the judgment of lateness leaves. -/
-- One proof at a time: elaborated side by side, the proofs take more stacks than the check's memory holds.
set_option Elab.async false
namespace Sys2Proof.Machine

/-! ### A window cut around another -/

/-- What is left of a window lies in it, is not empty where the window is not, and keeps clear of what it was cut
around. -/
theorem mem_cutWindow {a b c d : Nat} {w : Nat × Nat} (h : w ∈ cutWindow a b c d) :
    a ≤ w.1 ∧ w.2 ≤ b ∧ (a < b → w.1 < w.2) ∧ (w.2 ≤ c ∨ d ≤ w.1) := by
  unfold cutWindow at h
  split_ifs at h <;> simp at h
  · obtain rfl | rfl := h <;> dsimp only <;> omega
  all_goals subst h; dsimp only; omega

theorem covers_cutWindow (a b c d x : Nat) :
    (∃ w ∈ cutWindow a b c d, w.1 ≤ x ∧ x < w.2) ↔ (a ≤ x ∧ x < b) ∧ ¬ (c ≤ x ∧ x < d) := by
  unfold cutWindow
  split_ifs <;> simp <;> omega

theorem cutWindow_pairwise {a b c d : Nat} (hcd : c < d) : (cutWindow a b c d).Pairwise fun u v => u.2 < v.1 := by
  unfold cutWindow
  split_ifs <;> simp [hcd]

/-! ### Fragments -/

/-- A fragment shares no belt position with an entry. -/
def Fragment.clearOf (f : Fragment) (e : Entry) : Prop := f.stop ≤ e.start ∨ e.stop ≤ f.start

/-- Fragments in order of position, none of them empty and no two sharing a belt position. -/
def fragmentsSound (fs : List Fragment) : Prop :=
  (∀ f ∈ fs, f.start < f.stop) ∧ fs.Pairwise fun f g => f.stop ≤ g.start

theorem Fragment.mem_cutAround {f g : Fragment} {e : Entry} (h : g ∈ f.cutAround e) :
    f.start ≤ g.start ∧ g.stop ≤ f.stop ∧ (f.start < f.stop → g.start < g.stop) ∧ g.clearOf e := by
  obtain ⟨w, hw, rfl⟩ := List.mem_map.mp h
  exact mem_cutWindow hw

/-- Sound fragments cut around an entry are sound. -/
theorem fragmentsSound_cutAround {fs : List Fragment} {e : Entry} (he : e.start < e.stop) (h : fragmentsSound fs) :
    fragmentsSound (fs.flatMap (·.cutAround e)) := by
  obtain ⟨hfull, hapart⟩ := h
  refine ⟨fun g hg => ?_, List.pairwise_flatMap.mpr ⟨fun f _ => ?_, ?_⟩⟩
  · obtain ⟨f, hf, hg⟩ := List.mem_flatMap.mp hg
    obtain ⟨-, -, hne, -⟩ := Fragment.mem_cutAround hg
    exact hne (hfull f hf)
  · exact List.pairwise_map.mpr ((cutWindow_pairwise he).imp Nat.le_of_lt)
  · refine hapart.imp fun {f g} hfg x hx y hy => ?_
    obtain ⟨-, hx, -, -⟩ := Fragment.mem_cutAround hx
    obtain ⟨hy, -, -, -⟩ := Fragment.mem_cutAround hy
    omega

/-- Marks do not move fragments. -/
theorem fragmentsSound_map {fs : List Fragment} {m : Fragment → Fragment} (hm : ∀ f, (m f).start = f.start ∧
    (m f).stop = f.stop) (h : fragmentsSound fs) : fragmentsSound (fs.map m) := by
  obtain ⟨hfull, hapart⟩ := h
  refine ⟨fun g hg => ?_, List.pairwise_map.mpr (hapart.imp fun {f g} hfg => ?_)⟩
  · obtain ⟨f, hf, rfl⟩ := List.mem_map.mp hg
    rw [(hm f).1, (hm f).2]
    exact hfull f hf
  · rwa [(hm f).2, (hm g).1]

/-! ### An entry cut around fragments -/

/-- One fragment after another: each window left lies in one of the windows cut and keeps clear of every fragment. -/
theorem mem_foldl_cutWindow {fs : List Fragment} {ws : List (Nat × Nat)} {w : Nat × Nat}
    (h : w ∈ fs.foldl (fun ws f => ws.flatMap fun w => cutWindow w.1 w.2 f.start f.stop) ws) :
    (∃ v ∈ ws, v.1 ≤ w.1 ∧ w.2 ≤ v.2 ∧ (v.1 < v.2 → w.1 < w.2)) ∧ ∀ f ∈ fs, w.2 ≤ f.start ∨ f.stop ≤ w.1 := by
  induction fs generalizing ws with
  | nil => exact ⟨⟨w, h, Nat.le_refl _, Nat.le_refl _, id⟩, nofun⟩
  | cons f fs ih =>
    obtain ⟨⟨v, hv, hlow, hhigh, hne⟩, hclear⟩ := ih h
    obtain ⟨u, hu, hv⟩ := List.mem_flatMap.mp hv
    obtain ⟨hlow', hhigh', hne', haway⟩ := mem_cutWindow hv
    exact ⟨⟨u, hu, by omega, by omega, hne ∘ hne'⟩, List.forall_mem_cons.mpr ⟨by omega, hclear⟩⟩

theorem foldl_cutWindow_pairwise {fs : List Fragment} (hfs : ∀ f ∈ fs, f.start < f.stop) {ws : List (Nat × Nat)}
    (h : ws.Pairwise fun u v => u.2 ≤ v.1) :
    (fs.foldl (fun ws f => ws.flatMap fun w => cutWindow w.1 w.2 f.start f.stop) ws).Pairwise fun u v => u.2 ≤ v.1 := by
  induction fs generalizing ws with
  | nil => exact h
  | cons f fs ih =>
    obtain ⟨hf, hfs⟩ := List.forall_mem_cons.mp hfs
    refine ih hfs (List.pairwise_flatMap.mpr ⟨fun w _ => (cutWindow_pairwise hf).imp Nat.le_of_lt, ?_⟩)
    refine h.imp fun {u v} huv x hx y hy => ?_
    obtain ⟨-, hx, -, -⟩ := mem_cutWindow hx
    obtain ⟨hy, -, -, -⟩ := mem_cutWindow hy
    omega

/-- What is left of an entry lies in its window and keeps clear of the fragments (R134). -/
theorem Entry.mem_cutAround {e : Entry} {fs : List Fragment} {w : Nat × Nat} (h : w ∈ e.cutAround fs)
    (he : e.start < e.stop) :
    e.start ≤ w.1 ∧ w.2 ≤ e.stop ∧ w.1 < w.2 ∧ ∀ f ∈ fs, w.2 ≤ f.start ∨ f.stop ≤ w.1 := by
  obtain ⟨⟨v, hv, hlow, hhigh, hne⟩, hclear⟩ := mem_foldl_cutWindow h
  obtain rfl := List.mem_singleton.mp hv
  exact ⟨hlow, hhigh, hne he, hclear⟩

theorem Entry.cutAround_pairwise (e : Entry) {fs : List Fragment} (hfs : ∀ f ∈ fs, f.start < f.stop) :
    (e.cutAround fs).Pairwise fun u v => u.2 ≤ v.1 :=
  foldl_cutWindow_pairwise hfs (List.pairwise_singleton _ _)

/-! ### Lateness -/

/-- A fragment that is not dropped keeps its end, is not empty, and starts no earlier (R137, R138). -/
theorem Fragment.judged_eq_some {f g : Fragment} {row : EntryRow} {rd : Reading} (h : f.judged row rd = some g)
    (hf : f.start < f.stop) : f.start ≤ g.start ∧ g.stop = f.stop ∧ g.start < g.stop := by
  unfold Fragment.judged at h
  split_ifs at h <;> cases h
  · exact ⟨Nat.le_refl _, rfl, hf⟩
  · exact ⟨Nat.le_refl _, rfl, hf⟩
  · dsimp only
    omega

theorem Fragment.judged_guard (f : Fragment) (rd : Reading) :
    f.judged .guard rd = if f.stop ≤ rd.pos then none else some f := rfl

theorem Fragment.judged_early {f : Fragment} {row : EntryRow} {rd : Reading} (hrow : row ≠ .guard)
    (h : rd.pos + rd.leadOpen < f.start) : f.judged row rd = some f := by
  unfold Fragment.judged
  rw [if_neg hrow, if_pos h]

theorem Fragment.judged_late {f : Fragment} {row : EntryRow} {rd : Reading} (hrow : row ≠ .guard)
    (h : f.start ≤ rd.pos + rd.leadOpen) : f.judged row rd =
      if rd.pos + rd.leadClose + rd.minPulse ≤ f.stop ∧ rd.pos + rd.leadOpen < f.stop then
        some { f with start := rd.pos + rd.leadOpen, lateStart := true }
      else none := by
  unfold Fragment.judged
  rw [if_neg hrow, if_neg (Nat.not_lt_of_le h)]

end Sys2Proof.Machine
end

section
/-! SUPPORT. Lane schedules as lists (R121, R139): what an entry inserted, exchanged or removed leaves of a sound
schedule and of its ACTIVE entries. -/
-- One proof at a time: elaborated side by side, the proofs take more stacks than the check's memory holds.
set_option Elab.async false
namespace Sys2Proof.Machine

/-! ### Insertion -/

/-- An entry goes before the first that starts no earlier (R139). -/
theorem insertEntry_split (e : Entry) (es : List Entry) : ∃ before after, es = before ++ after ∧
    insertEntry e es = before ++ e :: after ∧ (∀ x ∈ before, x.start < e.start) ∧
      ∀ x, after.head? = some x → e.start ≤ x.start := by
  induction es with
  | nil => exact ⟨[], [], rfl, rfl, nofun, nofun⟩
  | cons y ys ih =>
    unfold insertEntry
    split_ifs with hy
    · exact ⟨[], y :: ys, rfl, rfl, nofun, fun x hx => by cases hx; exact hy⟩
    · obtain ⟨before, after, hes, hins, hbefore, hafter⟩ := ih
      exact ⟨y :: before, after, by rw [hes]; rfl, by rw [hins]; rfl,
        List.forall_mem_cons.mpr ⟨Nat.lt_of_not_le hy, hbefore⟩, hafter⟩

theorem insertEntry_perm (e : Entry) (es : List Entry) : (insertEntry e es).Perm (e :: es) := by
  obtain ⟨before, after, hes, hins, -, -⟩ := insertEntry_split e es
  rw [hins, hes]
  exact List.perm_middle

theorem mem_insertEntry {e x : Entry} {es : List Entry} : x ∈ insertEntry e es ↔ x = e ∨ x ∈ es :=
  (insertEntry_perm e es).mem_iff.trans List.mem_cons

/-! ### Exchange -/

theorem mem_exchange {old new x : Entry} {es : List Entry} (h : x ∈ exchange old new es) :
    x = new ∨ (x ∈ es ∧ x ≠ old) := by
  obtain ⟨y, hy, rfl⟩ := List.mem_map.mp h
  split_ifs with ho
  · exact .inl rfl
  · exact .inr ⟨hy, ho⟩

theorem mem_exchange_of_ne {old x : Entry} (new : Entry) {es : List Entry} (h : x ∈ es) (hne : x ≠ old) :
    x ∈ exchange old new es :=
  List.mem_map.mpr ⟨x, h, if_neg hne⟩

/-! ### Sound schedules -/

section Sound
variable {es : List Entry} {e x y : Entry}

theorem laneSound_nil : laneSound [] := ⟨Nat.zero_le _, nofun, .nil⟩

theorem laneSound.sublist {fs : List Entry} (h : laneSound es) (hsub : fs.Sublist es) : laneSound fs := by
  obtain ⟨hlen, hfull, hapart⟩ := h
  exact ⟨hsub.length_le.trans hlen, fun x hx => hfull x (hsub.subset hx), hapart.sublist hsub⟩

/-- The entries of a sound schedule stand in order of start position. -/
theorem laneSound.starts (h : laneSound es) : es.Pairwise fun a b => a.start < b.start :=
  h.2.2.imp_of_mem fun {a _} ha _ hab => (h.2.1 a ha).trans_le hab

theorem laneSound.nodup (h : laneSound es) : es.Nodup :=
  h.starts.imp fun hab heq => absurd hab (by simp [heq])

/-- Two entries of a sound schedule keep clear of each other. -/
theorem laneSound.clear (h : laneSound es) (hx : x ∈ es) (hy : y ∈ es) (hne : x ≠ y) :
    x.stop ≤ y.start ∨ y.stop ≤ x.start := by
  obtain ⟨-, -, hapart⟩ := h
  have hclear : es.Pairwise fun a b => a.stop ≤ b.start ∨ b.stop ≤ a.start := hapart.imp .inl
  have hsymm : Std.Symm fun a b : Entry => a.stop ≤ b.start ∨ b.stop ≤ a.start := ⟨fun _ _ => .symm⟩
  exact hclear.forall hx hy hne

/-- Two entries of a sound schedule with one start position are one. -/
theorem laneSound.eq_of_start (h : laneSound es) (hx : x ∈ es) (hy : y ∈ es) (hxy : x.start = y.start) : x = y := by
  by_contra hne
  have := h.clear hx hy hne
  obtain ⟨-, hfull, -⟩ := h
  have := hfull x hx
  have := hfull y hy
  omega

/-- An entry that keeps clear of all of a schedule with a place is inserted soundly. -/
theorem laneSound.insert (h : laneSound es) (hroom : es.length < 16) (he : e.start < e.stop)
    (hclear : ∀ x ∈ es, e.stop ≤ x.start ∨ x.stop ≤ e.start) : laneSound (insertEntry e es) := by
  obtain ⟨before, after, hes, hins, hbefore, hafter⟩ := insertEntry_split e es
  obtain ⟨-, hfull, hapart⟩ := id h
  refine ⟨?_, fun x hx => ?_, ?_⟩
  · rw [(insertEntry_perm e es).length_eq]
    exact hroom
  · obtain rfl | hx := mem_insertEntry.mp hx
    · exact he
    · exact hfull x hx
  · have hstarts := h.starts
    rw [hes] at hapart hstarts
    obtain ⟨hleft, hright, hacross⟩ := List.pairwise_append.mp hapart
    rw [hins]
    refine List.pairwise_append.mpr ⟨hleft, List.pairwise_cons.mpr ⟨fun y hy => ?later, hright⟩, fun x hx y hy => ?earlier⟩
    case later =>
      have hstart : e.start ≤ y.start := by
        cases after with
        | nil => cases hy
        | cons z zs =>
          have hz := hafter z rfl
          obtain ⟨-, hafterStarts, -⟩ := List.pairwise_append.mp hstarts
          obtain rfl | hy := List.mem_cons.mp hy
          · exact hz
          · have := (List.pairwise_cons.mp hafterStarts).1 y hy
            omega
      have hmem : y ∈ es := hes ▸ List.mem_append_right _ hy
      have := hfull y hmem
      have := hclear y hmem
      omega
    case earlier =>
      obtain rfl | hy := List.mem_cons.mp hy
      · have hmem : x ∈ es := hes ▸ List.mem_append_left _ hx
        have := hbefore x hx
        have := hclear x hmem
        omega
      · exact hacross x hx y hy

/-- An entry exchanged for one within its window. -/
theorem laneSound.shrink (h : laneSound es) {new : Entry} (hstart : e.start ≤ new.start) (hstop : new.stop ≤ e.stop)
    (hne : e.start < e.stop → new.start < new.stop) : laneSound (exchange e new es) := by
  obtain ⟨hlen, hfull, hapart⟩ := h
  refine ⟨(length_exchange _ _ _).trans_le hlen, fun x hx => ?_, List.pairwise_map.mpr (hapart.imp fun {a b} hab => ?_)⟩
  · obtain ⟨y, hy, rfl⟩ := List.mem_map.mp hx
    split_ifs with hye
    · exact hne (hye ▸ hfull y hy)
    · exact hfull y hy
  · split_ifs with ha hb hb
    all_goals subst_vars; omega

/-- An entry extended no further than the start of what follows it (R142). -/
theorem laneSound.extend (h : laneSound es) {far : Nat} (hfar : e.stop ≤ far)
    (hnext : ∀ x ∈ es, e.start < x.start → far ≤ x.start) : laneSound (exchange e { e with stop := far } es) := by
  obtain ⟨hlen, hfull, hapart⟩ := h
  refine ⟨(length_exchange _ _ _).trans_le hlen, fun x hx => ?_,
    List.pairwise_map.mpr (hapart.imp_of_mem fun {a b} ha hb hab => ?_)⟩
  · obtain ⟨y, hy, rfl⟩ := List.mem_map.mp hx
    split_ifs with hye
    · exact (hye ▸ hfull y hy : e.start < e.stop).trans_le hfar
    · exact hfull y hy
  · have hfulla := hfull a ha
    split_ifs with hae hbe hbe
    · subst hae hbe
      omega
    · subst hae
      exact hnext b hb (by omega)
    · subst hbe
      exact hab
    · exact hab

end Sound

/-! ### ACTIVE entries of a row -/

/-- Is it an ACTIVE entry of a valve's row? -/
def Entry.activeIn (r : Row) (e : Entry) : Bool := e.active && e.inRow r

theorem Entry.activeIn_of_pending {e : Entry} (h : e.active = false) (r : Row) : e.activeIn r = false := by
  simp [Entry.activeIn, h]

theorem Entry.activeIn_of_row {e : Entry} {r : Row} (h : e.row ≠ .ofRow r) : e.activeIn r = false := by
  simp [Entry.activeIn, Entry.inRow, h]

/-- How many ACTIVE entries a row of a lane holds. -/
def activeCount (r : Row) (es : List Entry) : Nat := es.countP (Entry.activeIn r)

theorem State.activitySound_iff {s : State} : s.activitySound ↔ ∀ l r, activeCount r (s.lane l) =
    if (s.valve l r).state = .opened ∧ (s.valve l r).served = .entry then 1 else 0 := by
  have hcount (l : Lane) (r : Row) : ((s.rowEntries l r).filter (·.active)).length = activeCount r (s.lane l) := by
    rw [activeCount, List.countP_eq_length_filter, State.rowEntries, List.filter_filter]
    rfl
  unfold State.activitySound
  simp only [hcount]

section Active
variable {es : List Entry} {e : Entry} {r : Row}

theorem activeCount_insertEntry (h : e.activeIn r = false) : activeCount r (insertEntry e es) = activeCount r es := by
  unfold activeCount
  rw [(insertEntry_perm e es).countP_eq, List.countP_cons_of_neg (by simp [h])]

theorem activeCount_erase (h : e.activeIn r = false) : activeCount r (es.erase e) = activeCount r es := by
  unfold activeCount
  rw [List.countP_eq_length_filter, filter_erase_of_neg h, List.countP_eq_length_filter]

theorem activeCount_erase_of_mem (hmem : e ∈ es) (h : e.activeIn r = true) :
    activeCount r (es.erase e) + 1 = activeCount r es := by
  unfold activeCount
  rw [(List.perm_cons_erase hmem).countP_eq (p := Entry.activeIn r) , List.countP_cons_of_pos h]

theorem activeCount_exchange {new : Entry} (h : new.activeIn r = e.activeIn r) :
    activeCount r (exchange e new es) = activeCount r es := by
  unfold activeCount exchange
  rw [List.countP_map]
  refine List.countP_congr fun x _ => ?_
  simp only [Function.comp_apply]
  split_ifs with hx
  · rw [h, hx]
  · rfl

/-- An entry of a list without doubles becomes ACTIVE. -/
theorem activeCount_exchange_active {new : Entry} (hnodup : es.Nodup) (hmem : e ∈ es) (he : e.activeIn r = false)
    (hnew : new.activeIn r = true) : activeCount r (exchange e new es) = activeCount r es + 1 := by
  obtain ⟨before, after, rfl⟩ := List.append_of_mem hmem
  obtain ⟨hbefore, hafter⟩ : e ∉ before ∧ e ∉ after := by
    obtain ⟨-, hcons, hdisj⟩ := List.nodup_append.mp hnodup
    exact ⟨fun h => hdisj e h e List.mem_cons_self rfl, (List.nodup_cons.mp hcons).1⟩
  have same {xs : List Entry} (hx : e ∉ xs) : xs.map (fun x => if x = e then new else x) = xs :=
    (List.map_congr_left fun x hmem => if_neg fun h : x = e => hx (h ▸ hmem)).trans (List.map_id' xs)
  unfold activeCount exchange
  rw [List.map_append, List.map_cons, if_pos rfl, same hbefore, same hafter, List.countP_append, List.countP_append,
    List.countP_cons_of_pos hnew, List.countP_cons_of_neg (by simp [he])]
  omega

end Active

end Sys2Proof.Machine
end

section
/-! SUPPORT. What an operation on one lane's schedule leaves as it is (`State.Edits`), and what the cut of an entry and
the insertion of a fragment make of the lane (R134, R139). -/
-- One proof at a time: elaborated side by side, the proofs take more stacks than the check's memory holds.
set_option Elab.async false
namespace Sys2Proof.Machine

/-! ### Operations beside the lanes and valves -/

/-- Every part but the lanes and the valves. -/
def Part.offLanes (x : Part) : Prop := x ≠ .lanes ∧ x ≠ .valves

theorem Part.offLanes_endings : Endings Part.offLanes := fun _ _ => ⟨nofun, nofun⟩

section OffLanes
variable {s t : State}

theorem State.Life.lsc_offLanes (h : s.Life Part.offLanes t) : t.lsc = s.lsc := h.lsc_eq fun h => h.1 rfl

theorem State.Life.vdr_offLanes (h : s.Life Part.offLanes t) : t.vdr = s.vdr := h.vdr_eq fun h => h.2 rfl

theorem State.completeIfDone_lsc (s : State) (i : Slot) : (s.completeIfDone i).lsc = s.lsc :=
  (s.completeIfDone_life Part.offLanes_endings i).lsc_offLanes

theorem State.completeIfDone_vdr (s : State) (i : Slot) : (s.completeIfDone i).vdr = s.vdr :=
  (s.completeIfDone_life Part.offLanes_endings i).vdr_offLanes

theorem State.ownerDone_lsc (s : State) (o : Option (Slot × PieceNo)) : (s.ownerDone o).lsc = s.lsc :=
  (s.ownerDone_life Part.offLanes_endings o).lsc_offLanes

theorem State.ownerDone_vdr (s : State) (o : Option (Slot × PieceNo)) : (s.ownerDone o).vdr = s.vdr :=
  (s.ownerDone_life Part.offLanes_endings o).vdr_offLanes

/-- A tally of an owner reaches the piece table alone. -/
theorem State.tallyOwner_eq (s : State) (o : Option (Slot × PieceNo)) (f : Piece → Piece) :
    s.tallyOwner o f = { s with seg := (s.tallyOwner o f).seg } := by
  cases o <;> rfl

theorem State.tallyOwner_lsc (s : State) (o : Option (Slot × PieceNo)) (f : Piece → Piece) :
    (s.tallyOwner o f).lsc = s.lsc := by rw [State.tallyOwner_eq]

theorem State.tallyOwner_vdr (s : State) (o : Option (Slot × PieceNo)) (f : Piece → Piece) :
    (s.tallyOwner o f).vdr = s.vdr := by rw [State.tallyOwner_eq]

theorem State.tallyOwner_sta (s : State) (o : Option (Slot × PieceNo)) (f : Piece → Piece) :
    (s.tallyOwner o f).sta = s.sta := by rw [State.tallyOwner_eq]

theorem State.piece_tallyOwner_self {i : Slot} {num : PieceNo} {p : Piece} (h : s.piece i = some p)
    (f : Piece → Piece) : (s.tallyOwner (some (i, num)) f).piece i = some (f p) := by
  rw [State.tallyOwner, State.piece_updatePiece_self, h, Option.map_some]

end OffLanes

/-! ### What stands beside one lane -/

/-- An operation on the schedule of a lane: the valves, the other lanes and the hand-offs stand, and each row has as many
ACTIVE entries as before. -/
structure State.Edits (l : Lane) (s t : State) : Prop where
  vdr : t.vdr = s.vdr
  handoffs : t.lsc.handoffs = s.lsc.handoffs
  others : ∀ m, m ≠ l → t.lane m = s.lane m
  active : ∀ r, activeCount r (t.lane l) = activeCount r (s.lane l)

section Edits
variable {l : Lane} {s t u : State}

theorem State.Edits.refl (s : State) : s.Edits l s := ⟨rfl, rfl, fun _ _ => rfl, fun _ => rfl⟩

theorem State.Edits.trans (h : s.Edits l t) (g : t.Edits l u) : s.Edits l u where
  vdr := g.vdr.trans h.vdr
  handoffs := g.handoffs.trans h.handoffs
  others m hm := (g.others m hm).trans (h.others m hm)
  active r := (g.active r).trans (h.active r)

theorem State.Edits.foldl {α : Type} {f : State → α → State} (h : ∀ t a, State.Edits l t (f t a)) (as : List α)
    (s : State) : s.Edits l (as.foldl f s) := by
  induction as generalizing s with
  | nil => exact .refl s
  | cons a as ih => exact (h s a).trans (ih _)

theorem State.lane_congr (h : t.lsc = s.lsc) : t.lane = s.lane := by
  funext m
  simp only [State.lane, h]

theorem State.Edits.of_parts (hlsc : t.lsc = s.lsc) (hvdr : t.vdr = s.vdr) : s.Edits l t :=
  ⟨hvdr, by rw [hlsc], fun _ _ => by rw [State.lane_congr hlsc], fun _ => by rw [State.lane_congr hlsc]⟩

theorem State.setLane_edits (s : State) {es : List Entry} (h : ∀ r, activeCount r es = activeCount r (s.lane l)) :
    s.Edits l (s.setLane l es) where
  vdr := rfl
  handoffs := rfl
  others m hm := (s.lane_setLane l m es).trans (if_neg (Ne.symm hm))
  active r := by rw [State.lane_setLane_self, h r]

end Edits

/-! ### An entry cut around a proposal -/

/-- An entry cut to a part of its window (R134). -/
def Entry.cutTo (e : Entry) (w : Nat × Nat) : Entry := { e with start := w.1, stop := w.2, trimmed := true }

/-- The parts of an entry cut around fragments that are long enough to stay (R134). -/
def State.remains (s : State) (e : Entry) (fs : List Fragment) : List (Nat × Nat) :=
  (e.cutAround fs).filter fun w => s.own .minPulse ≤ w.2 - w.1

/-- A lane in which an entry is cut to what remains of it. -/
def cutLane (e : Entry) (es : List Entry) : List (Nat × Nat) → List Entry
  | [] => es.erase e
  | [w] => exchange e (e.cutTo w) es
  | w :: x :: _ =>
    if es.length < 16 then insertEntry (e.cutTo x) (exchange e (e.cutTo w) es) else exchange e (e.cutTo w) es

section CutLane
variable {e x : Entry} {es : List Entry} {left : List (Nat × Nat)}

theorem mem_cutLane (hes : es.Nodup) (h : x ∈ cutLane e es left) :
    (x ∈ es ∧ x ≠ e) ∨ ∃ w ∈ left, x = e.cutTo w := by
  have kept (v : Nat × Nat) (hv : v ∈ left) (h : x ∈ exchange e (e.cutTo v) es) :
      (x ∈ es ∧ x ≠ e) ∨ ∃ w ∈ left, x = e.cutTo w :=
    (mem_exchange h).symm.imp_right fun hx => ⟨v, hv, hx⟩
  match left with
  | [] => exact .inl ((List.Nodup.mem_erase_iff hes).mp h).symm
  | [w] => exact kept w List.mem_cons_self h
  | w :: y :: _ =>
    unfold cutLane at h
    split_ifs at h
    · obtain rfl | h := mem_insertEntry.mp h
      · exact .inr ⟨y, List.mem_cons_of_mem _ List.mem_cons_self, rfl⟩
      · exact kept w List.mem_cons_self h
    · exact kept w List.mem_cons_self h

theorem mem_cutLane_of_ne (h : x ∈ es) (hne : x ≠ e) : x ∈ cutLane e es left := by
  match left with
  | [] => exact (List.mem_erase_of_ne hne).mpr h
  | [w] => exact mem_exchange_of_ne _ h hne
  | w :: y :: _ =>
    unfold cutLane
    split_ifs
    · exact mem_insertEntry.mpr (.inr (mem_exchange_of_ne _ h hne))
    · exact mem_exchange_of_ne _ h hne

theorem activeCount_cutLane (he : e.active = false) (r : Row) : activeCount r (cutLane e es left) = activeCount r es := by
  have hact := Entry.activeIn_of_pending he r
  have hcut (w : Nat × Nat) : (e.cutTo w).activeIn r = false := Entry.activeIn_of_pending he r
  have swapped (w : Nat × Nat) : activeCount r (exchange e (e.cutTo w) es) = activeCount r es :=
    activeCount_exchange ((hcut w).trans hact.symm)
  match left with
  | [] => exact activeCount_erase hact
  | [w] => exact swapped w
  | w :: y :: _ =>
    unfold cutLane
    split_ifs
    · rw [activeCount_insertEntry (hcut y), swapped]
    · exact swapped w

/-- A sound lane stays sound where an entry is cut to parts of its window in order. -/
theorem laneSound.cutLane (h : laneSound es) (he : e ∈ es)
    (hleft : ∀ w ∈ left, e.start ≤ w.1 ∧ w.2 ≤ e.stop ∧ w.1 < w.2) (hpair : left.Pairwise fun u v => u.2 ≤ v.1) :
    laneSound (cutLane e es left) := by
  have swapped (w : Nat × Nat) (hw : w ∈ left) : laneSound (exchange e (e.cutTo w) es) := by
    obtain ⟨hlow, hhigh, hne⟩ := hleft w hw
    exact h.shrink hlow hhigh fun _ => hne
  match left with
  | [] => exact h.sublist List.erase_sublist
  | [w] => exact swapped w List.mem_cons_self
  | w :: y :: ws =>
    have hy : y ∈ w :: y :: ws := List.mem_cons_of_mem _ List.mem_cons_self
    have hw := swapped w List.mem_cons_self
    obtain ⟨hlow, hhigh, hne⟩ := hleft y hy
    unfold Machine.cutLane
    split_ifs with hroom
    · refine hw.insert ((length_exchange _ _ _).trans_lt hroom) hne fun x hx => ?_
      obtain rfl | ⟨hx, hxe⟩ := mem_exchange hx
      · exact .inr ((List.pairwise_cons.mp hpair).1 y List.mem_cons_self)
      · have := h.clear he hx (Ne.symm hxe)
        dsimp only [Entry.cutTo]
        omega
    · exact hw

end CutLane

section Cut
variable (s : State) (l : Lane) (e : Entry) (fs : List Fragment)

/-- The cut of an entry tallied and counted (R134). -/
def State.countCut : State := (s.tallyOwner e.owner Piece.tallyTrimmed).count .trimmed 1

theorem State.countCut_lane : (s.countCut e).lane = s.lane := State.lane_congr (s.tallyOwner_lsc _ _)

theorem State.cutEntry_of_none (h : s.remains e fs = []) : s.cutEntry l e fs =
    (((s.countCut e).setLane l (cutLane e (s.lane l) [])).tallyOwner e.owner Piece.loseEntry).ownerDone e.owner := by
  have hlane := congrFun (s.countCut_lane e) l
  unfold State.countCut at hlane
  unfold State.remains at h
  unfold State.cutEntry
  simp only [h, hlane]
  rfl

theorem State.cutEntry_of_one {w : Nat × Nat} (h : s.remains e fs = [w]) :
    s.cutEntry l e fs = (s.countCut e).setLane l (cutLane e (s.lane l) [w]) := by
  have hlane := congrFun (s.countCut_lane e) l
  unfold State.countCut at hlane
  unfold State.remains at h
  unfold State.cutEntry
  simp only [h, hlane]
  rfl

theorem State.cutEntry_of_two {w x : Nat × Nat} {ws : List (Nat × Nat)} (h : s.remains e fs = w :: x :: ws) :
    s.cutEntry l e fs =
      if (s.lane l).length < 16 then
        ((s.countCut e).setLane l (cutLane e (s.lane l) (w :: x :: ws))).tallyOwner e.owner Piece.gainEntry
      else (((s.countCut e).setLane l (cutLane e (s.lane l) (w :: x :: ws))).tallyOwner e.owner
        Piece.tallyFull).count .droppedFull 1 := by
  have hlane := congrFun (s.countCut_lane e) l
  unfold State.countCut at hlane
  unfold State.remains at h
  unfold State.cutEntry
  simp only [h, hlane, Config.laneMax, cutLane]
  split_ifs <;> rfl

/-- The cut reaches the lane, which is cut to what remains, and no valve. -/
theorem State.cutEntry_parts : (s.cutEntry l e fs).lsc = (s.setLane l (cutLane e (s.lane l) (s.remains e fs))).lsc ∧
    (s.cutEntry l e fs).vdr = s.vdr := by
  have hset (es : List Entry) : ((s.countCut e).setLane l es).lsc = (s.setLane l es).lsc ∧
      ((s.countCut e).setLane l es).vdr = s.vdr :=
    ⟨by simp only [State.setLane, State.countCut, State.count_lsc, State.tallyOwner_lsc], s.tallyOwner_vdr _ _⟩
  match h : s.remains e fs with
  | [] =>
    rw [State.cutEntry_of_none s l e fs h, State.ownerDone_lsc, State.ownerDone_vdr, State.tallyOwner_lsc,
      State.tallyOwner_vdr]
    exact hset _
  | [w] =>
    rw [State.cutEntry_of_one s l e fs h]
    exact hset _
  | w :: x :: ws =>
    rw [State.cutEntry_of_two s l e fs h]
    split_ifs
    · rw [State.tallyOwner_lsc, State.tallyOwner_vdr]
      exact hset _
    · rw [State.count_lsc, State.count_vdr, State.tallyOwner_lsc, State.tallyOwner_vdr]
      exact hset _

theorem State.cutEntry_lane (m : Lane) : (s.cutEntry l e fs).lane m =
    if l = m then cutLane e (s.lane l) (s.remains e fs) else s.lane m := by
  rw [State.lane_congr (s.cutEntry_parts l e fs).1, State.lane_setLane]

theorem State.cutEntry_edits (he : e.active = false) : s.Edits l (s.cutEntry l e fs) := by
  obtain ⟨hlsc, hvdr⟩ := s.cutEntry_parts l e fs
  exact (s.setLane_edits fun r => activeCount_cutLane he r).trans (.of_parts hlsc hvdr)

end Cut

/-! ### Meeting an entry -/

section Meet
variable (s : State) (l : Lane) {n : Proposal} {e : Entry} (fs : List Fragment)

theorem State.meetEntry_share (h : e.row = n.row) : s.meetEntry l n e fs =
    ((fs.flatMap (·.cutAround e)).map fun f => { f with sharedCut := true },
      s.tallyOwner n.owner Piece.tallyShared) :=
  if_pos h

theorem State.meetEntry_trim (h : e.row ≠ n.row) (hprec : e.active = true ∨ n.prec ≤ e.prec) : s.meetEntry l n e fs =
    ((fs.flatMap (·.cutAround e)).map fun f => { f with trimmed := true },
      State.count .trimmed 1 (s.tallyOwner n.owner Piece.tallyTrimmed)) :=
  (if_neg h).trans (if_pos hprec)

theorem State.meetEntry_cut (h : e.row ≠ n.row) (hact : e.active = false) (hprec : e.prec < n.prec) :
    s.meetEntry l n e fs = (fs, s.cutEntry l e fs) :=
  (if_neg h).trans (if_neg (by simp [hact, hprec]))

/-- What a met entry comes to: the proposal is cut around it and the lanes stand, or it is PENDING and is cut. -/
theorem State.meetEntry_cases (n : Proposal) (e : Entry) :
    (∃ m : Fragment → Fragment, (∀ f, (m f).start = f.start ∧ (m f).stop = f.stop) ∧
      (s.meetEntry l n e fs).1 = (fs.flatMap (·.cutAround e)).map m ∧
      (s.meetEntry l n e fs).2.lsc = s.lsc ∧ (s.meetEntry l n e fs).2.vdr = s.vdr) ∨
    (e.active = false ∧ s.meetEntry l n e fs = (fs, s.cutEntry l e fs)) := by
  by_cases hrow : e.row = n.row
  · rw [State.meetEntry_share s l fs hrow]
    exact .inl ⟨fun f => { f with sharedCut := true }, fun _ => ⟨rfl, rfl⟩, rfl, s.tallyOwner_lsc _ _, s.tallyOwner_vdr _ _⟩
  · by_cases hprec : e.active = true ∨ n.prec ≤ e.prec
    · rw [State.meetEntry_trim s l fs hrow hprec]
      exact .inl ⟨fun f => { f with trimmed := true }, fun _ => ⟨rfl, rfl⟩, rfl, s.tallyOwner_lsc _ _, s.tallyOwner_vdr _ _⟩
    · obtain ⟨hact, hlow⟩ := not_or.mp hprec
      have hact : e.active = false := by simpa using hact
      exact .inr ⟨hact, State.meetEntry_cut s l fs hrow hact (Nat.lt_of_not_le hlow)⟩

theorem State.meetEntry_edits (n : Proposal) (e : Entry) : s.Edits l (s.meetEntry l n e fs).2 := by
  obtain ⟨-, -, -, hlsc, hvdr⟩ | ⟨hact, h⟩ := s.meetEntry_cases l fs n e
  · exact .of_parts hlsc hvdr
  · rw [h]
    exact s.cutEntry_edits l e fs hact

theorem State.meetEntries_edits (n : Proposal) (es : List Entry) : s.Edits l (s.meetEntries l n es fs).2 := by
  induction es generalizing s fs with
  | nil => exact .refl s
  | cons e es ih => exact (s.meetEntry_edits l fs n e).trans (ih _ _)

end Meet

/-! ### Inserting a fragment -/

section Insert
variable (s : State) (l : Lane) (n : Proposal) (f : Fragment)

theorem State.insertFragment_of_room (h : (s.lane l).length < 16) : s.insertFragment l n f =
    if n.owner.isNone then
      (((s.setLane l (insertEntry (f.entry n) (s.lane l))).tallyOwner n.owner Piece.gainEntry).count .placed 1).count
        .anonymous 1
    else ((s.setLane l (insertEntry (f.entry n) (s.lane l))).tallyOwner n.owner Piece.gainEntry).count .placed 1 :=
  if_pos h

theorem State.insertFragment_of_full (h : 16 ≤ (s.lane l).length) :
    s.insertFragment l n f = (s.tallyOwner n.owner Piece.tallyFull).count .droppedFull 1 :=
  if_neg (Nat.not_lt_of_le h)

/-- A fragment reaches its lane, where there is a place, and no valve. -/
theorem State.insertFragment_parts : (s.insertFragment l n f).vdr = s.vdr ∧ (s.insertFragment l n f).lsc =
    if (s.lane l).length < 16 then (s.setLane l (insertEntry (f.entry n) (s.lane l))).lsc else s.lsc := by
  split_ifs with hroom
  · rw [State.insertFragment_of_room s l n f hroom]
    split_ifs <;> simp [State.tallyOwner_lsc, State.tallyOwner_vdr]
  · rw [State.insertFragment_of_full s l n f (Nat.le_of_not_lt hroom)]
    simp [State.tallyOwner_lsc, State.tallyOwner_vdr]

theorem State.insertFragment_lane (m : Lane) : (s.insertFragment l n f).lane m =
    if l = m ∧ (s.lane l).length < 16 then insertEntry (f.entry n) (s.lane l) else s.lane m := by
  obtain ⟨-, hlsc⟩ := s.insertFragment_parts l n f
  by_cases hroom : (s.lane l).length < 16
  · rw [if_pos hroom] at hlsc
    rw [State.lane_congr hlsc, State.lane_setLane]
    simp only [hroom, and_true]
  · rw [if_neg hroom] at hlsc
    rw [State.lane_congr hlsc, if_neg fun h => hroom h.2]

theorem State.insertFragment_edits : s.Edits l (s.insertFragment l n f) := by
  obtain ⟨hvdr, hlsc⟩ := s.insertFragment_parts l n f
  split_ifs at hlsc
  · exact (s.setLane_edits fun r => activeCount_insertEntry (Entry.activeIn_of_pending (by rfl) r)).trans
      (.of_parts hlsc hvdr)
  · exact .of_parts hlsc hvdr

/-- A fragment to settle is inserted as it is judged, or dropped late with the lanes as they stand (R137 to R139). -/
theorem State.settleFragment_cases (rd : Reading) :
    (∃ g, f.judged n.row rd = some g ∧ s.settleFragment l n rd f = s.insertFragment l n g) ∨
    (f.judged n.row rd = none ∧
      s.settleFragment l n rd f = (s.tallyOwner n.owner Piece.tallyLate).count .droppedLate 1) := by
  unfold State.settleFragment
  cases h : f.judged n.row rd with
  | some g => exact .inl ⟨g, rfl, rfl⟩
  | none => exact .inr ⟨rfl, rfl⟩

theorem State.settleFragment_edits (rd : Reading) : s.Edits l (s.settleFragment l n rd f) := by
  obtain ⟨g, -, h⟩ | ⟨-, h⟩ := s.settleFragment_cases l n f rd
  · rw [h]
    exact s.insertFragment_edits l n g
  · rw [h]
    exact .of_parts (s.tallyOwner_lsc _ _) (s.tallyOwner_vdr _ _)

theorem State.propose_edits (rd : Reading) : s.Edits l (s.propose l n rd) :=
  (s.meetEntries_edits l _ n _).trans (.foldl (fun t f => t.settleFragment_edits l n f rd) _ _)

end Insert

end Sys2Proof.Machine
end

section
/-! SUPPORT. A proposal keeps its lane sound (R121, R131 to R139): while it meets the entries it overlaps, its fragments
keep clear of every entry but those still to be met. -/
-- One proof at a time: elaborated side by side, the proofs take more stacks than the check's memory holds.
set_option Elab.async false
namespace Sys2Proof.Machine

/-! ### The entries met -/

/-- A proposal of fragments `fs` has still to meet the entries `es` of a lane. -/
structure State.Meeting (l : Lane) (es : List Entry) (fs : List Fragment) (s : State) : Prop where
  lane : laneSound (s.lane l)
  fragments : fragmentsSound fs
  waiting : ∀ e ∈ es, e ∈ s.lane l
  nodup : es.Nodup
  clear : ∀ x ∈ s.lane l, x ∉ es → ∀ f ∈ fs, f.clearOf x

section Meeting
variable {l : Lane} {n : Proposal} {e : Entry} {es : List Entry} {fs : List Fragment} {s t : State}

/-- The proposal is cut around the entry. -/
theorem State.Meeting.yield (h : State.Meeting l (e :: es) fs s) (ht : t.lane l = s.lane l) {m : Fragment → Fragment}
    (hm : ∀ f, (m f).start = f.start ∧ (m f).stop = f.stop) :
    State.Meeting l es ((fs.flatMap (·.cutAround e)).map m) t := by
  obtain ⟨hlane, hfs, hwait, hnodup, hclear⟩ := h
  obtain ⟨-, hfull, -⟩ := id hlane
  refine ⟨ht ▸ hlane, fragmentsSound_map hm (fragmentsSound_cutAround (hfull e (hwait e List.mem_cons_self)) hfs),
    fun x hx => ht ▸ hwait x (List.mem_cons_of_mem _ hx), (List.nodup_cons.mp hnodup).2, fun x hx hxes g hg => ?_⟩
  obtain ⟨f, hf, rfl⟩ := List.mem_map.mp hg
  obtain ⟨f₀, hf₀, hf⟩ := List.mem_flatMap.mp hf
  obtain ⟨hlow, hhigh, -, haway⟩ := Fragment.mem_cutAround hf
  unfold Fragment.clearOf at haway ⊢
  rw [(hm f).1, (hm f).2]
  by_cases hxe : x = e
  · rwa [hxe]
  · obtain hc | hc := hclear x (ht ▸ hx) (by simp [hxe, hxes]) f₀ hf₀
    · exact .inl (hhigh.trans hc)
    · exact .inr (hc.trans hlow)

/-- The entry is cut around the proposal. -/
theorem State.Meeting.cut (h : State.Meeting l (e :: es) fs s) : State.Meeting l es fs (s.cutEntry l e fs) := by
  obtain ⟨hlane, hfs, hwait, hnodup, hclear⟩ := h
  obtain ⟨hfull, -⟩ := id hfs
  obtain ⟨he, hes⟩ := List.nodup_cons.mp hnodup
  have hmem : e ∈ s.lane l := hwait e List.mem_cons_self
  have hne : e.start < e.stop := hlane.2.1 e hmem
  have hleft {w : Nat × Nat} (hw : w ∈ s.remains e fs) := Entry.mem_cutAround (List.mem_filter.mp hw).1 hne
  have hnew : (s.cutEntry l e fs).lane l = cutLane e (s.lane l) (s.remains e fs) :=
    (s.cutEntry_lane l e fs l).trans (if_pos rfl)
  refine ⟨?_, hfs, fun x hx => ?_, hes, fun x hx hxes f hf => ?_⟩ <;> rw [hnew] at *
  · refine hlane.cutLane hmem (fun w hw => ?_) ((e.cutAround_pairwise hfull).filter _)
    obtain ⟨hlow, hhigh, hwne, -⟩ := hleft hw
    exact ⟨hlow, hhigh, hwne⟩
  · exact mem_cutLane_of_ne (hwait x (List.mem_cons_of_mem _ hx)) fun hxe => he (hxe ▸ hx)
  · obtain ⟨hx, hxe⟩ | ⟨w, hw, rfl⟩ := mem_cutLane hlane.nodup hx
    · exact hclear x hx (by simp [hxe, hxes]) f hf
    · obtain ⟨-, -, -, haway⟩ := hleft hw
      exact (haway f hf).symm

theorem State.Meeting.step (h : State.Meeting l (e :: es) fs s) :
    State.Meeting l es (s.meetEntry l n e fs).1 (s.meetEntry l n e fs).2 := by
  obtain ⟨m, hm, hfs, hlsc, -⟩ | ⟨-, hcut⟩ := s.meetEntry_cases l fs n e
  · rw [hfs]
    exact h.yield (by rw [State.lane_congr hlsc]) hm
  · rw [hcut]
    exact h.cut

/-- When all are met, the fragments keep clear of the whole lane. -/
theorem State.Meeting.all (h : State.Meeting l es fs s) :
    State.Meeting l [] (s.meetEntries l n es fs).1 (s.meetEntries l n es fs).2 := by
  induction es generalizing fs s with
  | nil => exact h
  | cons e es ih => exact ih h.step

end Meeting

/-! ### The fragments that remain -/

section Settle
variable {l : Lane} {n : Proposal} {rd : Reading} {s : State}

/-- A fragment that keeps clear of the lane and of the other fragments is settled. -/
theorem State.Meeting.settle {f : Fragment} {fs : List Fragment} (h : State.Meeting l [] (f :: fs) s) :
    State.Meeting l [] fs (s.settleFragment l n rd f) := by
  obtain ⟨hlane, ⟨hfull, hapart⟩, -, -, hclear⟩ := h
  obtain ⟨hf, hfs⟩ := List.forall_mem_cons.mp hfull
  obtain ⟨hnext, hrest⟩ := List.pairwise_cons.mp hapart
  have stays {t : State} (ht : t.lane l = s.lane l) : State.Meeting l [] fs t :=
    ⟨ht ▸ hlane, ⟨hfs, hrest⟩, nofun, .nil, fun x hx _ g hg =>
      hclear x (ht ▸ hx) List.not_mem_nil g (List.mem_cons_of_mem _ hg)⟩
  obtain ⟨g, hg, hsettle⟩ | ⟨-, hsettle⟩ := s.settleFragment_cases l n f rd <;> rw [hsettle]
  · obtain ⟨hstart, hstop, hne⟩ := Fragment.judged_eq_some hg hf
    have hlane' := s.insertFragment_lane l n g l
    by_cases hroom : (s.lane l).length < 16
    · rw [if_pos ⟨rfl, hroom⟩] at hlane'
      refine ⟨?_, ⟨hfs, hrest⟩, nofun, .nil, fun x hx _ k hk => ?_⟩ <;> rw [hlane'] at *
      · refine hlane.insert hroom hne fun x hx => ?_
        have := hclear x hx List.not_mem_nil f List.mem_cons_self
        unfold Fragment.clearOf at this
        dsimp only [Fragment.entry]
        omega
      · obtain rfl | hx := mem_insertEntry.mp hx
        · exact .inr (hstop.trans_le (hnext k hk))
        · exact hclear x hx List.not_mem_nil k (List.mem_cons_of_mem _ hk)
    · rw [if_neg fun h => hroom h.2] at hlane'
      exact stays hlane'
  · exact stays (congrFun (State.lane_congr (State.tallyOwner_lsc s _ _)) l)

theorem State.Meeting.settleAll {fs : List Fragment} (h : State.Meeting l [] fs s) :
    laneSound ((fs.foldl (fun t f => t.settleFragment l n rd f) s).lane l) := by
  induction fs generalizing s with
  | nil => exact h.lane
  | cons f fs ih => exact ih h.settle

theorem State.meeting_whole (hne : n.start < n.stop) (h : laneSound (s.lane l)) :
    State.Meeting l ((s.lane l).filter (·.overlaps n.start n.stop))
      [{ start := n.start, stop := n.stop, lateStart := false, sharedCut := false, trimmed := false }] s where
  lane := h
  fragments := ⟨by simpa using hne, List.pairwise_singleton _ _⟩
  waiting e he := (List.mem_filter.mp he).1
  nodup := h.nodup.filter _
  clear x hx hout f hf := by
    obtain rfl := List.mem_singleton.mp hf
    have hout : ¬ (x.start < n.stop ∧ n.start < x.stop) := by simpa [hx, Entry.overlaps] using hout
    unfold Fragment.clearOf
    dsimp only
    omega

theorem State.propose_laneSound (hne : n.start < n.stop) (h : laneSound (s.lane l)) :
    laneSound ((s.propose l n rd).lane l) := by
  obtain ⟨hlane, ⟨hfull, hapart⟩, hwait, hnodup, hclear⟩ := (State.meeting_whole hne h).all (n := n)
  have remain : State.Meeting l [] (_ : List Fragment) _ :=
    ⟨hlane, ⟨fun f hf => hfull f (List.mem_filter.mp hf).1, hapart.filter fun f => rd.minPulse ≤ f.stop - f.start⟩, hwait,
      hnodup, fun x hx hout f hf => hclear x hx hout f (List.mem_filter.mp hf).1⟩
  exact remain.settleAll

end Settle

/-! ### A window of untracked runs -/

section Overflow
variable {l : Lane} {r : Row} {a b : Nat} {rd : Reading} (s : State)

/-- A proposal of untracked runs has no owner and gives way to all (R141, R144). -/
def Proposal.anonymous (r : Row) (a b : Nat) : Proposal :=
  { row := .ofRow r, start := a, stop := b, owner := none, prec := 0 }

/-- The end that a window gives an entry it extends (R142). -/
def State.extendedTo (s : State) (l : Lane) (e : Entry) (b : Nat) : Nat := max e.stop (s.extendLimit l e b)

/-- A lane with an entry's end moved. -/
def State.extend (s : State) (l : Lane) (e : Entry) (far : Nat) : State :=
  s.setLane l (exchange e { e with stop := far } (s.lane l))

/-- A window is proposed as it is, or extends the last anonymous entry of its row and proposes what is left (R142). -/
theorem State.placeOverflow_cases (l : Lane) (r : Row) (a b : Nat) (rd : Reading) :
    ((∀ e, s.lastInRow l r = some e → e.owner ≠ none ∨ e.stop < a) ∧
      s.placeOverflow l r a b rd = s.propose l (.anonymous r a b) rd) ∨
    ∃ e, s.lastInRow l r = some e ∧ e.owner = none ∧ a ≤ e.stop ∧ s.placeOverflow l r a b rd =
      if s.extendedTo l e b < b then
        (s.extend l e (s.extendedTo l e b)).propose l (.anonymous r (s.extendedTo l e b) b) rd
      else s.extend l e (s.extendedTo l e b) := by
  unfold State.placeOverflow
  cases hlast : s.lastInRow l r with
  | none => exact .inl ⟨nofun, rfl⟩
  | some e =>
    by_cases hjoins : e.owner = none ∧ a ≤ e.stop
    · refine .inr ⟨e, rfl, hjoins.1, hjoins.2, ?_⟩
      have hfilter : (some e).filter (fun e => e.owner.isNone && decide (a ≤ e.stop)) = some e := by simp [hjoins]
      simp only [hfilter]
      rfl
    · refine .inl ⟨fun x hx => ?_, ?_⟩
      · cases hx
        by_cases ho : e.owner = none
        · exact .inr (Nat.lt_of_not_le fun hle => hjoins ⟨ho, hle⟩)
        · exact .inl ho
      · have hfilter : (some e).filter (fun e => e.owner.isNone && decide (a ≤ e.stop)) = none := by
          simpa [Option.filter] using hjoins
        simp only [hfilter]
        rfl

theorem State.extend_edits (e : Entry) (far : Nat) : s.Edits l (s.extend l e far) :=
  s.setLane_edits fun _ => activeCount_exchange rfl

theorem State.placeOverflow_edits (l : Lane) (r : Row) (a b : Nat) (rd : Reading) :
    s.Edits l (s.placeOverflow l r a b rd) := by
  obtain ⟨-, h⟩ | ⟨e, -, -, -, h⟩ := s.placeOverflow_cases l r a b rd
  · rw [h]
    exact s.propose_edits l _ rd
  · rw [h]
    split_ifs
    · exact (s.extend_edits e _).trans (State.propose_edits _ l _ rd)
    · exact s.extend_edits e _

/-- The entry that follows in start order is the first of those that start later. -/
theorem laneSound.nextAfter_le {es : List Entry} (h : laneSound es) {e n x : Entry} (hn : nextAfter es e = some n)
    (hx : x ∈ es) (hlater : e.start < x.start) : n.start ≤ x.start := by
  obtain ⟨hnlater, before, after, rfl, hbefore⟩ := List.find?_eq_some_iff_append.mp hn
  obtain ⟨-, hcons, -⟩ := List.pairwise_append.mp h.starts
  obtain hx | hx := List.mem_append.mp hx
  · have := hbefore x hx
    simp at this
    omega
  · obtain rfl | hx := List.mem_cons.mp hx
    · exact Nat.le_refl _
    · exact Nat.le_of_lt ((List.pairwise_cons.mp hcons).1 x hx)

theorem State.extend_laneSound {e : Entry} (he : e ∈ s.lane l) (h : laneSound (s.lane l)) :
    laneSound ((s.extend l e (s.extendedTo l e b)).lane l) := by
  unfold State.extend
  rw [State.lane_setLane_self]
  refine h.extend (Nat.le_max_left _ _) fun x hx hlater => Nat.max_le.mpr ⟨?_, ?_⟩
  · have := h.clear he hx fun hex => absurd hlater (by simp [hex])
    have := h.2.1 x hx
    omega
  · unfold State.extendLimit
    cases hn : nextAfter (s.lane l) e with
    | none =>
      have := List.find?_eq_none.mp hn x hx
      simp at this
      omega
    | some n => exact (Nat.min_le_right _ _).trans (h.nextAfter_le hn hx hlater)

theorem State.mem_of_lastInRow {e : Entry} (h : s.lastInRow l r = some e) : e ∈ s.lane l ∧ e.row = .ofRow r :=
  State.mem_rowEntries.mp (List.mem_of_getLast? h)

theorem State.placeOverflow_laneSound (hab : a < b) (h : laneSound (s.lane l)) :
    laneSound ((s.placeOverflow l r a b rd).lane l) := by
  obtain ⟨-, hplace⟩ | ⟨e, hlast, -, -, hplace⟩ := s.placeOverflow_cases l r a b rd
  · rw [hplace]
    exact State.propose_laneSound hab h
  · have hext := s.extend_laneSound (b := b) (s.mem_of_lastInRow hlast).1 h
    rw [hplace]
    split_ifs with hleft
    · exact State.propose_laneSound hleft hext
    · exact hext

end Overflow

end Sys2Proof.Machine
end

section
/-! SUPPORT. What keeps lanes and valves sound (`State.Secures`): the valve bus and the air (R151, R156), the lanes
(R121), and the ACTIVE entries (spec/07 section 7.1). -/
-- One proof at a time: elaborated side by side, the proofs take more stacks than the check's memory holds.
set_option Elab.async false
namespace Sys2Proof.Machine

/-! ### The relation -/

/-- The bus shows each valve open exactly while it is in OPEN (R151). -/
def State.busTrue (s : State) : Prop := ∀ l r, lastWrite s.vdr.busWrites l r = some (s.valve l r).isOpen

/-- No valve is open while the air is lost (R156). -/
def State.airTight (s : State) : Prop := s.vdr.air = .lost → ∀ l r, (s.valve l r).isOpen = false

theorem State.valvesSound_iff {s : State} : s.valvesSound ↔ s.busTrue ∧ s.airTight := Iff.rfl

/-- A valve is OPEN for an entry. -/
def Valve.serves (v : Valve) : Prop := v.state = .opened ∧ v.served = .entry

theorem Valve.not_serves {v : Valve} (h : v.state ≠ .opened) : ¬ v.serves := fun hs => h hs.1

theorem Valve.isOpen_eq_false {v : Valve} (h : v.state ≠ .opened) : v.isOpen = false := by simpa [Valve.isOpen] using h

/-- A row of a lane has one ACTIVE entry while its valve serves one, and none else. -/
def State.activeAt (s : State) (l : Lane) (r : Row) : Prop :=
  ((s.valve l r).serves → activeCount r (s.lane l) = 1) ∧ (¬ (s.valve l r).serves → activeCount r (s.lane l) = 0)

theorem State.activitySound_iff_activeAt {s : State} : s.activitySound ↔ ∀ l r, s.activeAt l r := by
  rw [State.activitySound_iff]
  refine forall₂_congr fun l r => ?_
  unfold State.activeAt Valve.serves
  split_ifs with h <;> simp [h]

/-- Each of the four properties that holds of `s` holds of `t`. -/
structure State.Secures (s t : State) : Prop where
  bus : s.busTrue → t.busTrue
  air : s.airTight → t.airTight
  lanes : s.lanesSound → t.lanesSound
  activity : s.lanesSound → (∀ l r, s.activeAt l r) → ∀ l r, t.activeAt l r

section Relation
variable {l : Lane} {r : Row} {s t u : State}

theorem State.Secures.refl (s : State) : s.Secures s := ⟨id, id, id, fun _ => id⟩

theorem State.Secures.trans (h : s.Secures t) (g : t.Secures u) : s.Secures u where
  bus := g.bus ∘ h.bus
  air := g.air ∘ h.air
  lanes := g.lanes ∘ h.lanes
  activity hl ha := g.activity (h.lanes hl) (h.activity hl ha)

theorem State.Secures.foldl_mem {α : Type} {f : State → α → State} (as : List α)
    (h : ∀ t, ∀ a ∈ as, State.Secures t (f t a)) (s : State) : s.Secures (as.foldl f s) := by
  induction as generalizing s with
  | nil => exact .refl s
  | cons a as ih =>
    obtain ⟨ha, has⟩ := List.forall_mem_cons.mp fun x hx t => h t x hx
    exact (ha s).trans (ih (fun t x hx => has x hx t) _)

theorem State.Secures.foldl {α : Type} {f : State → α → State} (h : ∀ t a, State.Secures t (f t a)) (as : List α)
    (s : State) : s.Secures (as.foldl f s) :=
  .foldl_mem as (fun t a _ => h t a) s

theorem State.Secures.of_next (k : s.Secures u)
    (h : (Host.Outcome.next u : Host.Outcome State Fault Refusal) = .next t) : s.Secures t :=
  Host.Outcome.next.inj h ▸ k

theorem State.Secures.of_parts (hlanes : t.lsc.lanes = s.lsc.lanes := by rfl)
    (hvalves : t.vdr.valves = s.vdr.valves := by rfl) (hair : t.vdr.air = s.vdr.air := by rfl)
    (hbus : t.vdr.busWrites = s.vdr.busWrites := by rfl) : s.Secures t := by
  have hlane : t.lane = s.lane := by funext m; simp only [State.lane, hlanes]
  have hvalve : t.valve = s.valve := by funext m q; simp only [State.valve, hvalves]
  refine ⟨fun h => ?_, fun h => ?_, fun h => ?_, fun _ h => ?_⟩
  · unfold State.busTrue
    rwa [hvalve, hbus]
  · unfold State.airTight
    rwa [hvalve, hair]
  · unfold State.lanesSound
    rwa [hlane]
  · unfold State.activeAt
    rwa [hvalve, hlane]

theorem State.Secures.of_blocks (hlsc : t.lsc = s.lsc) (hvdr : t.vdr = s.vdr) : s.Secures t :=
  .of_parts (by rw [hlsc]) (by rw [hvdr]) (by rw [hvdr]) (by rw [hvdr])

/-- What reaches neither lanes nor valves keeps them sound. -/
theorem State.Life.secures (h : s.Life Part.offLanes t) : s.Secures t := .of_blocks h.lsc_offLanes h.vdr_offLanes

/-- An operation on the schedule of one lane. -/
theorem State.Edits.secures (h : s.Edits l t) (hlane : laneSound (s.lane l) → laneSound (t.lane l)) : s.Secures t := by
  have hvalve : t.valve = s.valve := by funext m q; simp only [State.valve, h.vdr]
  refine ⟨fun hb => ?_, fun hb => ?_, fun hs m => ?_, fun _ hs m q => ?_⟩
  · unfold State.busTrue
    rwa [hvalve, h.vdr]
  · unfold State.airTight
    rwa [hvalve, h.vdr]
  · by_cases hm : m = l
    · exact hm ▸ hlane (hs l)
    · exact h.others m hm ▸ hs m
  · have hcount : activeCount q (t.lane m) = activeCount q (s.lane m) := by
      by_cases hm : m = l
      · exact hm ▸ h.active q
      · rw [h.others m hm]
    unfold State.activeAt
    rw [hvalve, hcount]
    exact hs m q

theorem activeCount_eq_rowOf (s : State) (m : Lane) (q : Row) :
    activeCount q (s.lane m) = (s.rowOf m (.ofRow q)).countP (·.active) := by
  unfold activeCount State.rowOf
  rw [List.countP_filter]
  rfl

/-- An operation on one valve and its row of the lane. -/
theorem State.SameBut.secures (h : State.SameBut l r s t) (hbus : s.busTrue → t.busTrue)
    (hair : s.airTight → t.airTight) (hlanes : ∀ m, laneSound (s.lane m) → laneSound (t.lane m))
    (hactive : laneSound (s.lane l) → s.activeAt l r → t.activeAt l r) : s.Secures t := by
  refine ⟨hbus, hair, fun hs m => hlanes m (hs m), fun hs ha m q => ?_⟩
  by_cases hmq : m = l ∧ q = r
  · obtain ⟨rfl, rfl⟩ := hmq
    exact hactive (hs m) (ha m q)
  · have hrow := h.rows m (.ofRow q) fun e => hmq ⟨e.1, EntryRow.ofRow_injective e.2⟩
    unfold State.activeAt
    rw [h.valves m q hmq, activeCount_eq_rowOf t, hrow, ← activeCount_eq_rowOf]
    exact ha m q

end Relation

/-! ### A valve record replaced -/

theorem lastWrite_append (ws : List BusWrite) (w : BusWrite) (l : Lane) (r : Row) :
    lastWrite (ws ++ [w]) l r = if w.lane = l ∧ w.row = r then some w.opened else lastWrite ws l r := by
  unfold lastWrite
  rw [List.reverse_append, List.reverse_singleton, List.singleton_append]
  split_ifs with h
  · rw [List.find?_cons_of_pos (by simpa using h), Option.map_some]
  · rw [List.find?_cons_of_neg (by simpa using h)]

section Valve
variable {l : Lane} {r : Row} {s : State} {v : Valve}

theorem State.setValve_busTrue (h : s.busTrue) (l : Lane) (r : Row) (v : Valve) : (s.setValve l r v).busTrue := by
  intro m q
  have hbus : (s.setValve l r v).vdr.busWrites =
      if (s.valve l r).isOpen = v.isOpen then s.vdr.busWrites else s.vdr.busWrites ++ [⟨l, r, v.isOpen⟩] := by
    unfold State.setValve
    dsimp only
    split_ifs <;> rfl
  rw [hbus, State.valve_setValve]
  by_cases hmq : l = m ∧ r = q
  · obtain ⟨rfl, rfl⟩ := hmq
    rw [if_pos (⟨rfl, rfl⟩ : l = l ∧ r = r)]
    split_ifs with hsame
    · rw [h, hsame]
    · rw [lastWrite_append, if_pos ⟨rfl, rfl⟩]
  · rw [if_neg hmq]
    split_ifs
    · exact h m q
    · rw [lastWrite_append, if_neg hmq, h]

theorem State.setValve_air (s : State) (l : Lane) (r : Row) (v : Valve) : (s.setValve l r v).vdr.air = s.vdr.air :=
  congrArg Steady.air (s.setValve_steady l r v)

theorem State.setValve_airTight (h : s.airTight)
    (hopen : v.isOpen = true → (s.valve l r).isOpen = true ∨ s.vdr.air = .present) : (s.setValve l r v).airTight := by
  intro hair m q
  rw [State.setValve_air] at hair
  rw [State.valve_setValve]
  split_ifs
  · cases hv : v.isOpen with
    | false => rfl
    | true => simp [h hair l r, hair, hv] at hopen
  · exact h hair m q

theorem State.setValve_secures (hopen : v.isOpen = true → (s.valve l r).isOpen = true ∨ s.vdr.air = .present)
    (hserves : v.serves ↔ (s.valve l r).serves) : s.Secures (s.setValve l r v) := by
  refine (State.SameBut.setValve v).secures (fun h => State.setValve_busTrue h l r v)
    (fun h => State.setValve_airTight h hopen) (fun m h => ?_) fun _ ha => ?_
  · rwa [State.setValve_lane]
  · unfold State.activeAt
    rw [State.setValve_lane, State.valve_setValve, if_pos ⟨rfl, rfl⟩, hserves]
    exact ha

/-- A valve that serves nothing is replaced by one that is not OPEN. -/
theorem State.setValve_secures_of_not (hv : v.state ≠ .opened) (hs : ¬ (s.valve l r).serves) :
    s.Secures (s.setValve l r v) :=
  State.setValve_secures (fun h => by rw [Valve.isOpen_eq_false hv] at h; cases h)
    (iff_of_false (Valve.not_serves hv) hs)

end Valve

/-! ### Entries retired -/

section Entries
variable {l : Lane} {r : Row} {e : Entry} {s : State}

theorem State.retire_lsc (s : State) (l : Lane) (e : Entry) (reason : RetireReason) :
    (s.retire l e reason).lsc = (s.setLane l ((s.lane l).erase e)).lsc :=
  (s.retire_tail_life Part.offLanes_endings l e reason).lsc_offLanes

theorem State.retire_lane_self (s : State) (l : Lane) (e : Entry) (reason : RetireReason) :
    (s.retire l e reason).lane l = (s.lane l).erase e :=
  (s.retire_lane l l e reason).trans (if_pos rfl)

theorem State.retire_laneSound {m : Lane} (reason : RetireReason) (h : laneSound (s.lane m)) :
    laneSound ((s.retire l e reason).lane m) := by
  rw [State.retire_lane]
  split_ifs with hl
  · exact hl ▸ h.sublist List.erase_sublist
  · exact h

/-- An entry that no row has ACTIVE retires. -/
theorem State.retire_secures (h : ∀ r, e.activeIn r = false) (reason : RetireReason) :
    s.Secures (s.retire l e reason) :=
  State.Edits.secures (l := l)
    ((s.setLane_edits fun r => activeCount_erase (h r)).trans (.of_parts (s.retire_lsc l e reason) (s.retire_vdr l e reason)))
    (State.retire_laneSound reason)

theorem State.activeEntry_eq_some (h : s.activeEntry l r = some e) :
    e ∈ s.lane l ∧ e.row = .ofRow r ∧ e.activeIn r = true := by
  obtain ⟨hmem, hrow⟩ := State.mem_of_find h
  have hact := List.find?_some h
  exact ⟨hmem, hrow, by simpa [Entry.activeIn, Entry.inRow, hrow] using hact⟩

theorem State.activeEntry_eq_none (h : s.activeEntry l r = none) : activeCount r (s.lane l) = 0 := by
  refine List.countP_eq_zero.mpr fun e he hact => ?_
  simp only [Entry.activeIn, Entry.inRow, Bool.and_eq_true, beq_iff_eq] at hact
  exact List.find?_eq_none.mp h e (State.mem_rowEntries.mpr ⟨he, hact.2⟩) hact.1

/-- A valve with an ACTIVE entry serves it, and when that entry retires the row has none. -/
theorem State.activeAt_retire (h : s.activeAt l r) (he : s.activeEntry l r = some e) (reason : RetireReason) :
    (s.valve l r).serves ∧ activeCount r ((s.retire l e reason).lane l) = 0 := by
  obtain ⟨hmem, -, hact⟩ := State.activeEntry_eq_some he
  have hcount := activeCount_erase_of_mem hmem hact
  rw [State.retire_lane_self]
  by_cases hserves : (s.valve l r).serves
  · have := h.1 hserves
    exact ⟨hserves, by omega⟩
  · have := h.2 hserves
    omega

end Entries

/-! ### A blast ends -/

section Blast
variable {l : Lane} {r : Row} {e : Entry} {s : State} {v : Valve}

/-- The valve closes, and the entry it serves retires. -/
theorem State.closeFor_secures (he : s.activeEntry l r = some e) (hv : v.state ≠ .opened) (reason : RetireReason) :
    s.Secures ((s.setValve l r v).retire l e reason) := by
  have hclosed := Valve.isOpen_eq_false hv
  have hvalve : ((s.setValve l r v).retire l e reason).valve l r = v := by
    rw [State.retire_valve, State.valve_setValve, if_pos ⟨rfl, rfl⟩]
  have hvdr := (s.setValve l r v).retire_vdr l e reason
  have hval : ((s.setValve l r v).retire l e reason).valve = (s.setValve l r v).valve := by
    funext m q; exact State.retire_valve _ _ _ _ _ _
  obtain ⟨-, hrow, -⟩ := State.activeEntry_eq_some he
  refine ((State.SameBut.setValve v).trans (State.SameBut.retire hrow reason)).secures (fun h => ?_) (fun h => ?_)
    (fun m h => State.retire_laneSound reason (by rwa [State.setValve_lane])) fun _ ha => ?_
  · have := State.setValve_busTrue h l r v
    unfold State.busTrue
    rwa [hval, hvdr]
  · have := State.setValve_airTight (l := l) (r := r) (v := v) h (by simp [hclosed])
    unfold State.airTight
    rwa [hval, hvdr]
  · have hlane : ((s.setValve l r v).retire l e reason).lane l = (s.retire l e reason).lane l := by
      rw [State.retire_lane_self, State.retire_lane_self, State.setValve_lane]
    obtain ⟨-, hnone⟩ := State.activeAt_retire ha he reason
    unfold State.activeAt
    rw [hvalve, hlane]
    exact ⟨fun hs => absurd hs (Valve.not_serves hv), fun _ => hnone⟩

/-- The valve closes, with no entry to serve. -/
theorem State.closeIdle_secures (he : s.activeEntry l r = none) (hv : v.state ≠ .opened) :
    s.Secures (s.setValve l r v) := by
  refine (State.SameBut.setValve v).secures (fun h => State.setValve_busTrue h l r v)
    (fun h => State.setValve_airTight h (by simp [Valve.isOpen_eq_false hv]))
    (fun m h => by rwa [State.setValve_lane]) fun _ _ => ?_
  unfold State.activeAt
  rw [State.setValve_lane, State.valve_setValve, if_pos ⟨rfl, rfl⟩]
  exact ⟨fun hs => absurd hs (Valve.not_serves hv), fun _ => State.activeEntry_eq_none he⟩

/-- The entry that a valve bridges to stands in the lane, PENDING and in its row, and is not the one that closes. -/
theorem State.closeEntry_parts (s : State) (l : Lane) (r : Row) (e : Entry) : ∃ reason,
    (∃ n, n ∈ s.lane l ∧ n ≠ e ∧ n.row = .ofRow r ∧ n.active = false ∧ s.closeEntry l r e =
        (s.retire l e reason).setLane l (exchange n { n with active := true } ((s.retire l e reason).lane l))) ∨
      s.closeEntry l r e = (s.retire l e reason).enterRecover l r := by
  refine ⟨if e.lateStart then .firedLate else .fired, ?_⟩
  unfold State.closeEntry
  dsimp only
  generalize (if e.lateStart then RetireReason.firedLate else .fired) = reason
  split
  · next n hn =>
    split_ifs with hb
    · have hlater := List.find?_some hn
      have hpending : n.active = false := by
        simp only [State.bridges, Bool.and_eq_true, Bool.not_eq_true'] at hb
        exact hb.1.2
      exact .inl ⟨n, List.mem_of_find?_eq_some hn, fun h => by simp [h] at hlater, State.bridges_row hb, hpending, rfl⟩
    · exact .inr rfl
  · exact .inr rfl

theorem State.closeEntry_secures (he : s.activeEntry l r = some e) : s.Secures (s.closeEntry l r e) := by
  obtain ⟨reason, ⟨n, hn, hne, hrow, hpending, hclose⟩ | hclose⟩ := s.closeEntry_parts l r e
  · obtain ⟨-, herow, -⟩ := State.activeEntry_eq_some he
    have hlane : (s.closeEntry l r e).lane l = exchange n { n with active := true } ((s.lane l).erase e) := by
      rw [hclose, State.lane_setLane_self, State.retire_lane_self]
    have hvdr : (s.closeEntry l r e).vdr = s.vdr := by
      rw [hclose]
      exact s.retire_vdr l e reason
    have hvalve : (s.closeEntry l r e).valve = s.valve := by funext m q; simp only [State.valve, hvdr]
    refine (State.SameBut.closeEntry herow).secures (fun h => ?_) (fun h => ?_) (fun m h => ?_) fun hs ha => ?_
    · unfold State.busTrue
      rwa [hvalve, hvdr]
    · unfold State.airTight
      rwa [hvalve, hvdr]
    · by_cases hm : m = l
      · subst hm
        rw [hlane]
        exact (h.sublist List.erase_sublist).shrink (Nat.le_refl _) (Nat.le_refl _) id
      · rw [hclose, State.lane_setLane, if_neg (Ne.symm hm)]
        exact State.retire_laneSound reason h
    · obtain ⟨hserves, hnone⟩ := State.activeAt_retire ha he reason
      rw [State.retire_lane_self] at hnone
      have hone := activeCount_exchange_active (new := { n with active := true }) (hs.nodup.erase e)
        ((List.mem_erase_of_ne hne).mpr hn) (Entry.activeIn_of_pending hpending r)
        (by simp [Entry.activeIn, Entry.inRow, hrow])
      unfold State.activeAt
      rw [hvalve, hlane]
      exact ⟨fun _ => by omega, fun h => absurd hserves h⟩
  · have hswap : (s.retire l e reason).enterRecover l r =
        (s.retire l e reason).setValve l r ((s.valve l r).recovering ((s.retire l e reason).own .minOff)) := by
      unfold State.enterRecover
      rw [State.retire_valve]
    have hrecover := (s.valve l r).recovering_ne_opened ((s.retire l e reason).own .minOff)
    obtain ⟨-, herow, -⟩ := State.activeEntry_eq_some he
    have retired (m : Lane) (q : Row) : (s.retire l e reason).valve m q = s.valve m q := s.retire_valve l m e reason q
    have hvdr := s.retire_vdr l e reason
    rw [hclose, hswap]
    generalize (s.valve l r).recovering ((s.retire l e reason).own .minOff) = v at hrecover
    refine ((State.SameBut.retire herow reason).trans (State.SameBut.setValve v)).secures (fun h => ?_) (fun h => ?_)
      (fun m h => by rw [State.setValve_lane]; exact State.retire_laneSound reason h) fun _ ha => ?_
    · refine State.setValve_busTrue (fun m q => ?_) l r v
      rw [hvdr, retired]
      exact h m q
    · refine State.setValve_airTight (fun hair m q => ?_) (by simp [Valve.isOpen_eq_false hrecover])
      rw [retired]
      exact h (hvdr ▸ hair) m q
    · obtain ⟨-, hnone⟩ := State.activeAt_retire ha he reason
      unfold State.activeAt
      rw [State.setValve_lane, State.valve_setValve, if_pos ⟨rfl, rfl⟩]
      exact ⟨fun hs => absurd hs (Valve.not_serves hrecover), fun _ => hnone⟩

end Blast

/-! ### The judgment of a valve -/

section Judgment
variable {l : Lane} {r : Row} {e : Entry} {s : State}

theorem State.openFor_secures (he : s.firstPending l r = some e) (hv : (s.valve l r).state = .closed)
    (hair : s.vdr.air = .present) (late : Bool) : s.Secures (s.openFor l r e late) := by
  obtain ⟨hmem, hrow⟩ := State.mem_of_find he
  have hpending : e.active = false := by simpa using List.find?_some he
  have hvalve : ((s.openFor l r e late).valve l r).serves := by
    have : (s.openFor l r e late).valve l r = (s.setValve l r _).valve l r := rfl
    rw [this, State.valve_setValve, if_pos ⟨rfl, rfl⟩]
    exact ⟨rfl, rfl⟩
  have hlane : (s.openFor l r e late).lane l =
      exchange e { e with active := true, lateStart := e.lateStart || late } (s.lane l) := by
    unfold State.openFor
    dsimp only
    rw [State.lane_setLane_self, State.setValve_lane]
  refine (State.SameBut.openFor hrow late).secures (fun h => State.setValve_busTrue h l r _)
    (fun h => State.setValve_airTight h fun _ => .inr hair) (fun m h => ?_) fun hs ha => ?_
  · by_cases hm : m = l
    · subst hm
      rw [hlane]
      exact h.shrink (Nat.le_refl _) (Nat.le_refl _) id
    · have hother : (s.openFor l r e late).lane m = s.lane m := by
        unfold State.openFor
        dsimp only
        rw [State.lane_setLane, if_neg (Ne.symm hm), State.setValve_lane]
      rwa [hother]
  · have hnone := ha.2 (Valve.not_serves (by simp [hv]))
    have hone := activeCount_exchange_active (new := { e with active := true, lateStart := e.lateStart || late })
      hs.nodup hmem (Entry.activeIn_of_pending hpending r) (by simp [Entry.activeIn, Entry.inRow, hrow])
    unfold State.activeAt
    rw [hlane]
    exact ⟨fun _ => by omega, fun h => absurd hvalve h⟩

/-- While the air is lost a CLOSED valve opens for nothing (R150). -/
theorem State.judgeStep_closed_lost {o : Opening} {p : Bool} {x : State × Bool} (h : s.judgeStep l r o p = some x)
    (hv : (s.valve l r).state = .closed) (hair : s.vdr.air = .lost) :
    ∃ e, s.missedPending l r = some e ∧ x.1 = s.retire l e .airLost := by
  unfold State.judgeStep at h
  dsimp only at h
  rw [hv, hair] at h
  obtain ⟨e, he, rfl⟩ := Option.map_eq_some_iff.mp h
  exact ⟨e, he, rfl⟩

theorem State.missed_secures (h : s.missedPending l r = some e) (reason : RetireReason) :
    s.Secures (s.retire l e reason) := by
  have hpending : e.active = false := by
    have := List.find?_some h
    simp only [Bool.and_eq_true, Bool.not_eq_true'] at this
    exact this.1
  exact State.retire_secures (Entry.activeIn_of_pending hpending) reason

theorem State.judgeStep_secures {o : Opening} {p : Bool} {x : State × Bool} (h : s.judgeStep l r o p = some x) :
    s.Secures x.1 := by
  obtain ⟨e, reason, he, hx, -, -⟩ | ⟨e, he, hx, -⟩ | ⟨e, late, he, hx, hv⟩ := s.judgeStep_cases h
  · exact hx ▸ State.missed_secures he reason
  · exact hx ▸ State.closeEntry_secures he
  · cases hair : s.vdr.air with
    | present => exact hx ▸ State.openFor_secures he hv hair late
    | lost =>
      obtain ⟨e, he, hx⟩ := State.judgeStep_closed_lost h hv hair
      exact hx ▸ State.missed_secures he .airLost

theorem State.judgeLoop_secures (s : State) (l : Lane) (r : Row) (o : Opening) (n : Nat) (p : Bool) :
    s.Secures (s.judgeLoop l r o n p) := by
  induction n generalizing s p with
  | zero => exact .refl s
  | succ n ih =>
    unfold State.judgeLoop
    split
    · next t q h => exact (State.judgeStep_secures h).trans (ih t q)
    · exact .refl s

theorem State.judge_secures (s : State) (l : Lane) (r : Row) (o : Opening) : s.Secures (s.judge l r o) :=
  s.judgeLoop_secures l r o _ _

theorem State.judgeAll_secures (s : State) (o : Opening) : s.Secures (s.judgeAll o) :=
  .foldl (fun t _ => t.judge_secures _ _ o) valveOrder s

theorem State.computeLeads_secures (s : State) : s.Secures s.computeLeads := by
  have computed (a b : Nat) : s.Secures { s with vdr.leadOpen := a, vdr.leadClose := b } := .of_parts
  exact (computed _ _).trans (State.judgeAll_secures _ _)

end Judgment

end Sys2Proof.Machine
end

section
/-! SUPPORT. Placements, valves, faults and the flush keep lanes and valves sound (`State.Secures`). -/
-- One proof at a time: elaborated side by side, the proofs take more stacks than the check's memory holds.
set_option Elab.async false
namespace Sys2Proof.Machine

section Ops
variable (s : State)

/-! ### Operations beside the lanes and valves -/

theorem State.count_secures (c : Counter) (n : Nat) : s.Secures (s.count c n) := .of_parts

theorem State.offer_secures (n : Notice) : s.Secures (s.offer n) := .of_blocks (s.offer_lsc n) (s.offer_vdr n)

theorem State.setEngine_secures (st : EngState) (c : EngCause) : s.Secures (s.setEngine st c) :=
  .of_blocks (s.setEngine_lsc st c) (s.setEngine_vdr st c)

theorem State.raiseFault_secures (k : FaultKind) : s.Secures (s.raiseFault k) :=
  (s.raiseFault_life Part.offLanes_endings k ⟨nofun, nofun⟩).secures

theorem State.tallyOwner_secures (o : Option (Slot × PieceNo)) (f : Piece → Piece) : s.Secures (s.tallyOwner o f) :=
  .of_blocks (s.tallyOwner_lsc o f) (s.tallyOwner_vdr o f)

theorem State.completeIfDone_secures (i : Slot) : s.Secures (s.completeIfDone i) :=
  .of_blocks (s.completeIfDone_lsc i) (s.completeIfDone_vdr i)

/-- The segmenter's line leaves what stands beside the piece table. -/
theorem State.segmentLine_aside (ln : Line) : (s.segmentLine ln).aside = s.aside := by
  obtain ⟨-, -, -, hlinked, -⟩ :=
    Linking.foldl_untracked ln s.eng.state (segmentsOf ln.marks) ⟨s, s.matchSet, []⟩
  have ended (t : State) : (t.endLineAll ln).aside = t.aside := by
    rw [State.endLineAll_eq]
    rfl
  have disposed (t : State) (is : List Slot) : (is.foldl (State.dispose s.eng.state) t).aside = t.aside :=
    (State.Beside.foldl (fun u i => u.dispose_beside s.eng.state i) is t).1
  unfold State.segmentLine
  dsimp only
  split_ifs
  · exact ((disposed _ _).trans (ended _)).trans hlinked
  · exact ((disposed _ _).trans (ended _)).trans hlinked

theorem State.segmentLine_secures (ln : Line) : s.Secures (s.segmentLine ln) := by
  have haside := s.segmentLine_aside ln
  simp only [State.aside, Prod.mk.injEq] at haside
  obtain ⟨hlanes, hvdr, -⟩ := haside
  exact .of_parts hlanes (by rw [hvdr]) (by rw [hvdr]) (by rw [hvdr])

/-! ### Placements -/

theorem State.propose_secures (l : Lane) (n : Proposal) (rd : Reading) (h : n.start < n.stop) :
    s.Secures (s.propose l n rd) :=
  (s.propose_edits l n rd).secures (State.propose_laneSound h)

theorem State.judgeChanged_secures (b : State) : s.Secures (b.judgeChanged s) :=
  .foldl (fun t v => by
    split_ifs
    · exact .refl t
    · exact t.judge_secures _ _ _) valveOrder s

theorem State.proposeOrLate_secures (l : Lane) (n : Proposal) (rd : Reading) : s.Secures (s.proposeOrLate l n rd) := by
  unfold State.proposeOrLate
  split_ifs with h
  · exact (s.tallyOwner_secures _ _).trans (State.propose_secures _ l n rd h)
  · exact (s.tallyOwner_secures _ _).trans (State.count_secures _ _ _)

theorem State.proposeBlow_secures (l : Lane) (r : Row) (n : Proposal) (rd : Reading) :
    s.Secures (s.proposeBlow l r n rd) := by
  unfold State.proposeBlow
  split_ifs
  · exact s.proposeOrLate_secures l n rd
  · exact s.tallyOwner_secures _ _

theorem State.placePiece_secures (i : Slot) (p : Piece) (c : Classification) (a b : Nat) (x : Run) :
    s.Secures (s.placePiece i p c a b x) := by
  have fresh : s.Secures (s.updatePiece i fun q => { q with tallies := {}, pendingEntries := 0 }) := .of_parts
  unfold State.placePiece
  dsimp only
  refine State.Secures.trans (State.Secures.trans ?placed (State.completeIfDone_secures _ i))
    (State.judgeChanged_secures _ s)
  case placed =>
    split
    · exact fresh.trans (.foldl (fun t l => t.proposeBlow_secures l _ _ _) _ _)
    · split_ifs
      · exact fresh
      · exact fresh.trans (.foldl (fun t l => t.proposeOrLate_secures l _ _) _ _)

theorem State.placeUntracked_secures (a b : Nat) (rs : List Run) : s.Secures (s.placeUntracked a b rs) := by
  unfold State.placeUntracked
  split
  · exact .refl s
  · refine State.Secures.trans (.foldl (fun t l => ?_) _ s) (State.judgeChanged_secures _ s)
    split_ifs with _ hreach
    · exact (t.placeOverflow_edits l _ _ _ _).secures (State.placeOverflow_laneSound t hreach)
    · exact t.count_secures .droppedLate 1
    · exact .refl t

theorem State.placeHandoff_secures (h : Handoff) : s.Secures (s.placeHandoff h) := by
  unfold State.placeHandoff
  split
  · exact s.placeUntracked_secures _ _ _
  · split
    · split
      · split_ifs
        · exact s.placePiece_secures _ _ _ _ _ _
        · exact .refl s
      · exact .refl s
    · exact .refl s

theorem State.placeAllHandoffs_secures : s.Secures s.placeAllHandoffs :=
  State.Secures.trans (t := { s with lsc.handoffs := [] }) .of_parts
    (.foldl (fun t h => t.placeHandoff_secures h) _ _)

/-! ### GUARD entries -/

theorem State.retireGuards_secures : s.Secures s.retireGuards := by
  refine .foldl (fun t l => .foldl_mem _ (fun u e he => ?_) t) _ s
  have hguard : e.row = .guard := by
    have := (List.mem_filter.mp he).2
    simp only [Bool.and_eq_true, beq_iff_eq] at this
    exact this.1
  exact State.retire_secures (fun r => Entry.activeIn_of_row (by cases r <;> simp [hguard, EntryRow.ofRow])) _

/-! ### Valves -/

section Valve
variable {s} {l : Lane} {r : Row}

theorem Valve.idleIn_ne_opened (v : Valve) {st : ValveState} (h : st ≠ .opened) : (v.idleIn st).state ≠ .opened := h

/-- A valve taken out of OPEN, with the entry it serves. -/
theorem State.closeServed_secures (v : Valve) (hv : v.state ≠ .opened) (reason : RetireReason) :
    s.Secures (match s.activeEntry l r with
      | some e => (s.setValve l r v).retire l e reason
      | none => s.setValve l r v) := by
  cases he : s.activeEntry l r with
  | some e => exact State.closeFor_secures he hv reason
  | none => exact State.closeIdle_secures he hv

theorem State.truncate_secures (s : State) (l : Lane) (r : Row) : s.Secures (s.truncate l r) :=
  (State.closeServed_secures (l := l) (r := r) ((s.valve l r).recovering (s.own .minOff))
    (Valve.recovering_ne_opened _ _) .truncated).trans (State.judge_secures _ l r .late)

theorem State.endRecover_secures (h : (s.valve l r).state = .recover) : s.Secures (s.endRecover l r) :=
  (State.setValve_secures_of_not (Valve.idleIn_ne_opened (st := .closed) _ nofun)
    (Valve.not_serves (by simp [h]))).trans (State.judge_secures _ l r .late)

theorem State.endPulse_secures (h : (s.valve l r).served = .pulse) : s.Secures (s.endPulse l r) :=
  (State.setValve_secures_of_not (Valve.recovering_ne_opened _ _) fun hs => by
    have := hs.2
    simp [h] at this).trans (State.judge_secures _ l r .late)

theorem State.loseAirAt_secures (s : State) (l : Lane) (r : Row) : s.Secures (s.loseAirAt l r) := by
  unfold State.loseAirAt
  split_ifs
  · exact State.closeServed_secures ((s.valve l r).idleIn .closed) nofun .airLost
  · exact .refl s

theorem State.loseAirAt_valve (s : State) (l m : Lane) (r q : Row) :
    ((s.loseAirAt l r).valve m q).state = .opened → (s.valve m q).state = .opened ∧ ¬ (m = l ∧ q = r) := by
  have closed (u : State) (hu : u.valve m q = (s.setValve l r ((s.valve l r).idleIn .closed)).valve m q)
      (h : (u.valve m q).state = .opened) : (s.valve m q).state = .opened ∧ ¬ (m = l ∧ q = r) := by
    rw [hu, State.valve_setValve] at h
    split_ifs at h with hmq
    · cases h
    · exact ⟨h, fun e => hmq ⟨e.1.symm, e.2.symm⟩⟩
  unfold State.loseAirAt
  split_ifs with hopen
  · dsimp only
    split
    · exact closed _ (State.retire_valve _ l m _ _ q)
    · exact closed _ rfl
  · exact fun h => ⟨h, by rintro ⟨rfl, rfl⟩; exact hopen h⟩

/-- Once each valve has been reached none is OPEN. -/
theorem State.foldl_loseAirAt_valve {m : Lane} {q : Row} (vs : List (Lane × Row)) (s : State)
    (h : ((vs.foldl (fun t v => t.loseAirAt v.1 v.2) s).valve m q).state = .opened) : (m, q) ∉ vs := by
  have opened : ∀ (vs : List (Lane × Row)) (s : State),
      ((vs.foldl (fun t v => t.loseAirAt v.1 v.2) s).valve m q).state = .opened →
        (s.valve m q).state = .opened ∧ (m, q) ∉ vs := by
    intro vs
    induction vs with
    | nil => exact fun _ h => ⟨h, List.not_mem_nil⟩
    | cons v vs ih =>
      intro s h
      obtain ⟨hafter, hrest⟩ := ih _ h
      obtain ⟨hbefore, hne⟩ := s.loseAirAt_valve v.1 m v.2 q hafter
      exact ⟨hbefore, List.not_mem_cons_of_ne_of_not_mem (fun e => hne (by cases e; exact ⟨rfl, rfl⟩)) hrest⟩
  exact (opened vs s h).2

/-- At a loss of the air every valve closes (R156). -/
theorem State.loseAir_secures (s : State) : s.Secures s.loseAir := by
  have closing := State.Secures.foldl (fun (t : State) v => t.loseAirAt_secures v.1 v.2) valveOrder
    ({ s with vdr.air := .lost } : State)
  have raised := State.raiseFault_secures
    (valveOrder.foldl (fun (t : State) v => t.loseAirAt v.1 v.2) { s with vdr.air := .lost }) .airLost
  exact {
    bus := fun h => raised.bus (closing.bus h)
    air := fun _ => raised.air fun _ l r => Valve.isOpen_eq_false fun h =>
      State.foldl_loseAirAt_valve valveOrder _ h (mem_valveOrder l r)
    lanes := fun h => raised.lanes (closing.lanes h)
    activity := fun hl ha => raised.activity (closing.lanes hl) (closing.activity hl ha) }

theorem State.regainAir_secures (s : State) : s.Secures s.regainAir := by
  have regained : s.Secures { s with vdr.air := .present } := ⟨id, fun _ => nofun, id, fun _ => id⟩
  exact (regained.trans (State.offer_secures _ _)).trans (State.judgeAll_secures _ _)

/-- The entries of a row that all retire leave no ACTIVE one. -/
theorem State.foldl_retire_lane (es : List Entry) (s : State) (l : Lane) (reason : RetireReason) :
    (es.foldl (fun t e => t.retire l e reason) s).lane l = (s.lane l).diff es := by
  induction es generalizing s with
  | nil => rfl
  | cons e es ih => rw [List.foldl_cons, ih, State.retire_lane_self, List.diff_cons]

theorem State.foldl_retire_sameBut (es : List Entry) (he : ∀ e ∈ es, e.row = .ofRow r) (s : State) (reason : RetireReason) :
    State.SameBut l r s (es.foldl (fun t e => t.retire l e reason) s) ∧
      (es.foldl (fun t e => t.retire l e reason) s).vdr = s.vdr ∧
      ∀ m, laneSound (s.lane m) → laneSound ((es.foldl (fun t e => t.retire l e reason) s).lane m) := by
  induction es generalizing s with
  | nil => exact ⟨.refl s, rfl, fun _ => id⟩
  | cons e es ih =>
    obtain ⟨hrow, hes⟩ := List.forall_mem_cons.mp he
    obtain ⟨hsame, hvdr, hsound⟩ := ih hes (s.retire l e reason)
    exact ⟨(State.SameBut.retire hrow reason).trans hsame, hvdr.trans (s.retire_vdr l e reason),
      fun m h => hsound m (State.retire_laneSound reason h)⟩

theorem State.retireRow_lane (s : State) (l : Lane) (r : Row) :
    (s.retireRow l r).lane l = (s.lane l).filter fun e => !e.inRow r := by
  have hperm : ((s.rowEntries l r).filter (·.active) ++ (s.rowEntries l r).filter fun e => !e.active).Perm
      (s.rowEntries l r) := List.filter_append_perm _ _
  exact (s.foldl_retire_lane _ l .unavailable).trans ((hperm.diff_left _).trans (diff_filter _ _))

/-- A valve goes out of service with every entry of its row (R158, R159). -/
theorem State.takeOut_secures (s : State) (l : Lane) (r : Row) {st : ValveState} (hst : st ≠ .opened) :
    s.Secures (s.takeOut l r st) := by
  have hrow : ∀ e ∈ (s.rowEntries l r).filter (·.active) ++ (s.rowEntries l r).filter fun e => !e.active,
      e.row = .ofRow r := fun e he =>
    (State.mem_rowEntries.mp ((List.filter_append_perm _ _).mem_iff.mp he)).2
  have hrows : (s.setValve l r ((s.valve l r).idleIn st)).rowEntries l r = s.rowEntries l r := by
    unfold State.rowEntries
    rw [State.setValve_lane]
  obtain ⟨hsame, hvdr, hsound⟩ := State.foldl_retire_sameBut (l := l) _ (hrows ▸ hrow)
    (s.setValve l r ((s.valve l r).idleIn st)) .unavailable
  have hvalve : (s.takeOut l r st).valve = (s.setValve l r ((s.valve l r).idleIn st)).valve := by
    funext m q
    exact congrArg (fun x => (look x.valves m).get q) hvdr
  refine ((State.SameBut.setValve _).trans hsame).secures (fun h => ?_) (fun h => ?_)
    (fun m h => hsound m (by rwa [State.setValve_lane])) fun _ _ => ?_
  · have := State.setValve_busTrue h l r ((s.valve l r).idleIn st)
    unfold State.busTrue at this ⊢
    rw [← hvalve, ← hvdr] at this
    exact this
  · have := State.setValve_airTight (l := l) (r := r) (v := (s.valve l r).idleIn st) h
      (by simp [Valve.isOpen_eq_false (v := (s.valve l r).idleIn st) hst])
    unfold State.airTight at this ⊢
    rw [← hvalve, ← hvdr] at this
    exact this
  · have hnone : activeCount r ((s.takeOut l r st).lane l) = 0 := by
      unfold State.takeOut
      rw [State.retireRow_lane]
      refine List.countP_eq_zero.mpr fun e he => ?_
      have := (List.mem_filter.mp he).2
      simp only [Bool.not_eq_true'] at this
      simp [Entry.activeIn, this]
    have hout : (s.takeOut l r st).valve l r = (s.valve l r).idleIn st := by
      rw [hvalve, State.valve_setValve, if_pos ⟨rfl, rfl⟩]
    have hidle : ¬ ((s.takeOut l r st).valve l r).serves := hout ▸ Valve.not_serves (Valve.idleIn_ne_opened _ hst)
    exact ⟨fun hs => absurd hs hidle, fun _ => hnone⟩

theorem State.takeReport_secures (s : State) (c : CoilReport) : s.Secures (s.takeReport c) := by
  have reported : s.Secures (s.setValve c.lane c.row { s.valve c.lane c.row with coil := c.coil }) :=
    State.setValve_secures .inl Iff.rfl
  have faulted (t : State) : t.Secures (t.takeOut c.lane c.row .faulted) := t.takeOut_secures c.lane c.row nofun
  unfold State.takeReport
  dsimp only
  split_ifs
  · exact (reported.trans (faulted _)).trans (State.raiseFault_secures _ .valveFault)
  · exact reported

theorem State.enable_secures (s : State) (l : Lane) (r : Row) : s.Secures (s.enable l r) := by
  unfold State.enable
  split_ifs with h
  · have hout : ¬ (s.valve l r).serves := Valve.not_serves (by obtain h | h := h <;> simp [h])
    exact (State.setValve_secures_of_not (Valve.idleIn_ne_opened (st := .closed) _ nofun) hout).trans
      (State.judge_secures _ l r _)
  · exact .refl s

theorem State.disable_secures (s : State) (l : Lane) (r : Row) : s.Secures (s.disable l r) := by
  unfold State.disable
  split_ifs
  · exact .refl s
  · exact s.takeOut_secures l r nofun

/-- A CLOSED valve opens for a test pulse while the air is there (R161). -/
theorem State.openPulse_secures (d n : Nat) (hair : s.vdr.air = .present) (hv : (s.valve l r).state ≠ .opened) :
    s.Secures (s.setValve l r
      { s.valve l r with state := .opened, served := .pulse, pulse := some d, actuations := n }) :=
  State.setValve_secures (fun _ => .inr hair) (iff_of_false (fun h => by cases h.2) (Valve.not_serves hv))

end Valve

/-! ### The flush -/

theorem State.flushValve_valves (s : State) (l : Lane) (r : Row) :
    (s.busTrue → (s.flushValve l r).busTrue) ∧ (s.airTight → (s.flushValve l r).airTight) := by
  unfold State.flushValve
  split_ifs
  · exact ⟨fun h => State.setValve_busTrue h l r _,
      fun h => State.setValve_airTight h (by simp [Valve.isOpen_eq_false (Valve.recovering_ne_opened _ _)])⟩
  · exact ⟨id, id⟩

theorem State.foldl_flushValve_valves (vs : List (Lane × Row)) (s : State) :
    (s.busTrue → (vs.foldl (fun u v => u.flushValve v.1 v.2) s).busTrue) ∧
      (s.airTight → (vs.foldl (fun u v => u.flushValve v.1 v.2) s).airTight) := by
  induction vs generalizing s with
  | nil => exact ⟨id, id⟩
  | cons v vs ih =>
    obtain ⟨hbus, hair⟩ := s.flushValve_valves v.1 v.2
    obtain ⟨hbus', hair'⟩ := ih (s.flushValve v.1 v.2)
    exact ⟨hbus' ∘ hbus, hair' ∘ hair⟩

/-- The lanes are emptied, and no valve stays OPEN (R146, R166). -/
theorem State.flushLanes_secures (s : State) : s.Secures s.flushLanes.flushValves.endDraining := by
  have after (u : State) : u.Secures u.endScheduled.endDraining := by
    obtain ⟨-, hlsc, hvdr, -⟩ := u.endScheduled_parts
    obtain ⟨-, hlsc', hvdr', -⟩ := u.endScheduled.endDraining_parts
    exact .of_blocks (hlsc'.trans hlsc) (hvdr'.trans hvdr)
  have hbus : s.busTrue → s.flushLanes.busTrue := id
  have hair : s.airTight → s.flushLanes.airTight := id
  have hempty (l : Lane) : s.flushLanes.lane l = [] := by simp [State.lane, State.flushLanes]
  rw [State.flushValves_eq]
  generalize s.flushLanes = t at *
  have hlane (l : Lane) : (valveOrder.foldl (fun u v => u.flushValve v.1 v.2) t).lane l = [] := by
    obtain ⟨hlsc, -⟩ := State.foldl_flushValve_parts valveOrder t
    rw [State.lane_congr hlsc, hempty]
  have hvalve (l : Lane) (r : Row) :
      ((valveOrder.foldl (fun u v => u.flushValve v.1 v.2) t).valve l r).state ≠ .opened := by
    rw [State.valve_foldl_flushValve, if_pos (mem_valveOrder l r)]
    exact Valve.flushed_ne_opened _ _
  obtain ⟨hbus', hair'⟩ := State.foldl_flushValve_valves valveOrder t
  generalize valveOrder.foldl (fun u v => u.flushValve v.1 v.2) t = u at *
  have hsound : u.lanesSound := fun l => by
    rw [hlane]
    exact laneSound_nil
  exact {
    bus := (after u).bus ∘ hbus' ∘ hbus
    air := (after u).air ∘ hair' ∘ hair
    lanes := fun _ => (after u).lanes hsound
    activity := fun _ _ => (after u).activity hsound fun l r =>
      ⟨fun h => absurd h (Valve.not_serves (hvalve l r)), fun _ => by rw [hlane]; rfl⟩ }

theorem State.flushed_secures (s : State) : s.Secures s.flushed :=
  have ended (t : State) (is : List Slot) : t.Secures (t.flushAll is) :=
    (t.flushAll_life Part.offLanes_endings is).secures
  have emptied (t : State) (x : Cls) : t.Secures { t with cls := x } := .of_parts
  (((s.placeAllHandoffs_secures.trans (ended _ _)).trans (emptied _ _)).trans (ended _ _)).trans
    (State.flushLanes_secures _)

end Ops

end Sys2Proof.Machine
end

section
/-! SUPPORT. The events keep lanes and valves sound (`State.Secures`): sensor lines, belt, baseline tracker, segmenter,
classifier, lanes, valves, link and monitors. -/
-- One proof at a time: elaborated side by side, the proofs take more stacks than the check's memory holds.
set_option Elab.async false
namespace Sys2Proof.Machine

section Events
variable {s t : State}

/-! ### Sensor lines -/

theorem apartFromLines_vdr : ApartFromLines State.vdr where
  life := fun _ _ h => h.vdr_eq id
  sli := fun _ _ => rfl
  handed := fun _ _ => rfl

theorem State.declareMissing_secures (s : State) (x : Trigger) : s.Secures (s.declareMissing x) :=
  .of_blocks (apartFromLines_lsc.declareMissing s x) (apartFromLines_vdr.declareMissing s x)

theorem State.takeTrigger_secures (s : State) (seq : SeqNo) (start stop : Nat) :
    s.Secures (s.takeTrigger seq start stop) :=
  .of_blocks (apartFromLines_lsc.takeTrigger s (fun _ => rfl) seq start stop)
    (apartFromLines_vdr.takeTrigger s (fun _ => rfl) seq start stop)

theorem execLineRequestSend_secures (h : execLineRequestSend s = .next t) : s.Secures t := by
  unfold execLineRequestSend at h
  split at h <;> cases h
  · exact .refl s
  · exact .of_parts

theorem State.matchFrame_secures (s : State) (bytes : List Byte) : s.Secures (s.matchFrame bytes) := by
  have processed (u : State) (x : Trigger) : u.Secures (u.processFrame x bytes) := .of_parts
  unfold State.matchFrame
  dsimp only
  split
  · exact s.count_secures .stray 1
  · next x rest _ =>
    have unlisted : s.Secures { s with sli.outstanding := rest } := .of_parts
    exact (unlisted.trans (.foldl (fun u o => u.declareMissing_secures o) _ _)).trans (processed _ x)

theorem execSensorFrameEnd_secures {bytes : List Byte} {broken : Bool}
    (h : execSensorFrameEnd bytes broken s = .next t) : s.Secures t := by
  have ended : s.Secures { s with sli.inFrame := false } := .of_parts
  unfold execSensorFrameEnd at h
  dsimp only at h
  split_ifs at h <;> cases h
  · exact ended.trans (State.matchFrame_secures _ bytes)
  · exact ended.trans (State.count_secures _ .frameErrors 1)
  · exact .refl s

/-! ### Belt -/

theorem State.backwardTick_secures (s : State) : s.Secures s.backwardTick := by
  have indebted (x : Bool) : s.Secures { s with bpu.debt := s.bpu.debt + 1, bpu.excursion := x } := .of_parts
  unfold State.backwardTick
  dsimp only
  split_ifs
  · exact (indebted true).trans (State.raiseFault_secures _ _)
  · exact indebted s.bpu.excursion
  · exact s.count_secures .reverseLost 1

theorem State.lineTimer_secures (s : State) : s.Secures s.lineTimer := by
  have timed (stop : Nat) : s.Secures { s with bpu.nextLine := stop, bpu.seq := s.bpu.seq + 1 } := .of_parts
  unfold State.lineTimer
  dsimp only
  split_ifs
  · exact ((timed _).trans (State.count_secures _ .triggered 1)).trans (State.takeTrigger_secures _ _ _ _)
  · exact .refl s

theorem State.moved_secures (s : State) : s.Secures s.moved := by
  have moved : s.Secures { s with bpu.pos := s.bpu.pos + 1 } := .of_parts
  unfold State.moved
  split_ifs
  · exact moved.trans (State.raiseFault_secures _ _)
  · exact moved

theorem State.forwardTick_secures (s : State) : s.Secures s.forwardTick := by
  unfold State.forwardTick
  split_ifs
  · exact .of_parts
  · rw [State.advance_eq]
    exact ((s.moved_secures.trans (State.lineTimer_secures _)).trans (State.judgeAll_secures _ _)).trans
      (State.retireGuards_secures _)
  · exact .refl s

theorem execEncoderTransition_secures {a b : Bool} (h : execEncoderTransition a b s = .next t) : s.Secures t := by
  have paired : s.Secures (s.paired a b) := .of_parts
  obtain rfl | rfl | ⟨-, rfl⟩ | rfl := exec_encoder_cases s a b h
  · exact .refl _
  · exact paired.trans (State.count_secures _ .encoderErrors 1)
  · exact paired.trans (State.forwardTick_secures _)
  · exact paired.trans (State.backwardTick_secures _)

theorem execSpeedUpdate_secures (h : execSpeedUpdate s = .next t) : s.Secures t := by
  have estimated (v : Nat) (x : Vector Nat 8) :
      s.Secures { s with bpu.speed := v, bpu.history := x, sinceSpeed := 0 } := .of_parts
  exact ((estimated _ _).trans (State.computeLeads_secures _)).of_next h

/-! ### Baseline tracker -/

theorem State.surveyLine_secures (s : State) (ln : Line) (sm : Samples) : s.Secures (s.surveyLine ln sm) := by
  have blt (b : Blt) : s.Secures { s with blt := b } := .of_parts
  unfold State.surveyLine
  dsimp only
  split_ifs
  · exact ((blt _).trans (State.setEngine_secures _ _ _)).trans (State.offer_secures _ _)
  · exact ((blt _).trans (State.setEngine_secures _ _ _)).trans (State.offer_secures _ _)
  · exact blt _

theorem execBltTakeLine_secures (h : execBltTakeLine s = .next t) : s.Secures t := by
  unfold execBltTakeLine at h
  split at h
  · cases h; exact .refl s
  · next ln rest _ =>
    have taken : s.Secures { s with bltLines := rest } := .of_parts
    dsimp only at h
    split_ifs at h <;> cases h
    · refine taken.trans ?_
      unfold State.surveyTakes
      split_ifs
      · exact .of_parts
      · split
        · exact State.surveyLine_secures _ _ _
        · exact .refl _
    · exact taken.trans .of_parts
    · exact taken

/-! ### Segmenter and classifier -/

theorem execSegTakeLine_secures (h : execSegTakeLine s = .next t) : s.Secures t := by
  unfold execSegTakeLine at h
  split at h
  · cases h; exact .refl s
  · next ln rest _ =>
    have taken : s.Secures { s with segLines := rest } := .of_parts
    dsimp only at h
    split_ifs at h <;> cases h
    · exact taken.trans (State.segmentLine_secures _ ln)
    · exact taken

theorem execWalkStart_secures (h : execWalkStart s = .next t) : s.Secures t := by
  unfold execWalkStart at h
  split at h
  · split at h <;> cases h
    exact .of_parts
  · cases h; exact .refl s

theorem execTestEvaluate_secures (h : execTestEvaluate s = .next t) : s.Secures t := by
  unfold execTestEvaluate at h
  split at h
  · cases h; exact .refl s
  · split at h
    · cases h; exact .refl s
    · split at h
      · cases h; exact .of_parts
      · cases h

theorem State.completeCapture_secures (s : State) : s.Secures s.completeCapture := by
  have full (x : Nat) : s.Secures { s with cap.state := .full, freeIndex := x } := .of_parts
  unfold State.completeCapture
  dsimp only
  split
  · exact (full _).trans (State.offer_secures _ _)
  · exact (full _).trans (State.offer_secures _ _)

theorem State.announce_secures (s : State) (x : PieceNo) (k : PieceClass) : s.Secures (s.announce x k) := by
  have named : s.Secures { s with cap.piece := some x } := .of_parts
  unfold State.announce
  dsimp only
  split_ifs
  · exact named.trans (State.completeCapture_secures _)
  · exact .of_parts
  · exact .refl s

theorem State.finishWalk_secures (s : State) (w : Walk) (p : Piece) (k : PieceClass) (f : Bool) (m : Dest × Terms) :
    s.Secures (s.finishWalk w p k f m) := by
  have announced (x : Piece) :
      s.Secures (((s.setSlot w.slot (some x)).handOff (.piece .classifier w.slot)).announce p.number k) :=
    State.Secures.trans .of_parts (State.announce_secures _ _ _)
  have ended (u : State) : u.Secures { u with cls.walk := none } := .of_parts
  unfold State.finishWalk
  dsimp only
  refine State.Secures.trans ?_ (ended _)
  split_ifs
  · exact (announced _).trans (State.count_secures _ .chainFaults 1)
  · exact announced _

theorem execWalkEnd_secures (h : execWalkEnd s = .next t) : s.Secures t := by
  unfold execWalkEnd at h
  split at h
  · cases h; exact .refl s
  · split at h
    · cases h; exact .refl s
    · split at h
      · cases h
      · split at h <;> cases h
        exact State.finishWalk_secures _ _ _ _ _ _

/-! ### Lane scheduler -/

theorem State.dropHandoff_secures (s : State) (h : Handoff) : s.Secures (s.dropHandoff h) := .of_parts

theorem execPlacePiece_secures {src : HandoffSource} (h : execPlacePiece src s = .next t) : s.Secures t := by
  unfold execPlacePiece at h
  split at h
  · split at h
    · split at h
      · split_ifs at h
        cases h
        exact (s.dropHandoff_secures _).trans (State.placePiece_secures _ _ _ _ _ _ _)
      · cases h
    · cases h
  · cases h; exact .refl s

theorem execPlaceUntracked_secures (h : execPlaceUntracked s = .next t) : s.Secures t := by
  unfold execPlaceUntracked at h
  split at h <;> cases h
  · exact (s.dropHandoff_secures _).trans (State.placeUntracked_secures _ _ _ _)
  · exact .refl s

/-! ### Valves -/

theorem execMaxOnExpiry_secures {l : Lane} {r : Row} (h : execMaxOnExpiry l r s = .next t) : s.Secures t := by
  unfold execMaxOnExpiry at h
  split_ifs at h <;> cases h
  · exact s.truncate_secures l r
  · exact .refl s

theorem execMinOffExpiry_secures {l : Lane} {r : Row} (h : execMinOffExpiry l r s = .next t) : s.Secures t := by
  unfold execMinOffExpiry at h
  split_ifs at h with hv <;> cases h
  · exact State.endRecover_secures hv
  · exact .refl s

theorem execPulseExpiry_secures {l : Lane} {r : Row} (h : execPulseExpiry l r s = .next t) : s.Secures t := by
  unfold execPulseExpiry at h
  split_ifs at h with hv <;> cases h
  · exact State.endPulse_secures hv.2
  · exact .refl s

theorem execAirLost_secures (h : execAirLost s = .next t) : s.Secures t := by
  unfold execAirLost at h
  split at h
  · exact s.loseAir_secures.of_next h
  · exact (State.Secures.refl s).of_next h

theorem execAirRestored_secures (h : execAirRestored s = .next t) : s.Secures t := by
  unfold execAirRestored at h
  split at h
  · exact s.regainAir_secures.of_next h
  · exact (State.Secures.refl s).of_next h

theorem execValveReturnFrame_secures {reports : List CoilReport} {good broken : Bool}
    (h : execValveReturnFrame reports good broken s = .next t) : s.Secures t := by
  have ended : s.Secures { s with vdr.inFrame := false } := .of_parts
  unfold execValveReturnFrame at h
  dsimp only at h
  split_ifs at h <;> cases h
  · exact ended.trans (State.Secures.foldl (fun u x => u.takeReport_secures x) reports _)
  · exact ended
  · exact .refl s

/-! ### Link -/

theorem State.dropFrame_secures (s : State) (d : Counter) : s.Secures (s.dropFrame d) := .of_parts

theorem execLinkFrameStart_secures (h : execLinkFrameStart s = .next t) : s.Secures t := by
  have begun (u : State) : u.Secures { u with lnk.inFrame := true } := .of_parts
  unfold execLinkFrameStart at h
  cases h
  refine State.Secures.trans ?_ (begun _)
  split_ifs
  · exact s.dropFrame_secures _
  · exact .refl s

theorem State.judgeFrame_secures (s : State) (bytes : List Byte) (m : Nat) : s.Secures (s.judgeFrame bytes m) := by
  have good : s.Secures (State.count .framesGood 1 { s with lnk.inFrame := false }) := .of_parts
  unfold State.judgeFrame State.receive
  split_ifs
  · exact good.trans .of_parts
  · exact good.trans (State.count_secures _ .overruns 1)
  · exact s.dropFrame_secures _

theorem execLinkFrameEnd_secures {bytes : List Byte} (h : execLinkFrameEnd bytes s = .next t) : s.Secures t := by
  unfold execLinkFrameEnd at h
  dsimp only at h
  split_ifs at h <;> cases h
  · exact .refl s
  · exact s.dropFrame_secures _
  · exact .refl s
  · exact s.judgeFrame_secures _ _

theorem execLinkFramingError_secures (h : execLinkFramingError s = .next t) : s.Secures t := by
  unfold execLinkFramingError at h
  split_ifs at h <;> cases h
  · exact s.dropFrame_secures _
  · exact .refl s

theorem execGapAbort_secures (h : execGapAbort s = .next t) : s.Secures t := by
  unfold execGapAbort at h
  split_ifs at h <;> cases h
  · exact s.dropFrame_secures _
  · exact .refl s

theorem execTransmitFrame_secures (h : execTransmitFrame s = .next t) : s.Secures t := by
  unfold execTransmitFrame at h
  split_ifs at h <;> cases h
  · unfold State.choose
    split
    · exact .of_parts
    · exact .of_parts
    · exact .refl s
  · exact .refl s

theorem execLinkFrameSent_secures (h : execLinkFrameSent s = .next t) : s.Secures t := by
  unfold execLinkFrameSent at h
  split at h <;> cases h
  · exact .refl s
  · exact .of_parts

theorem execUnknownKind_secures (h : execUnknownKind s = .next t) : s.Secures t := by
  unfold execUnknownKind at h
  split at h
  · cases h; exact .refl s
  · split_ifs at h <;> cases h
    · exact .of_parts
    · exact .refl s

/-! ### Monitors -/

theorem execLdmTakeLine_secures (h : execLdmTakeLine s = .next t) : s.Secures t := by
  unfold execLdmTakeLine at h
  split at h
  · cases h; exact .refl s
  · next ln rest _ =>
    have added (u : State) (ls : List Line) (d : Ldm) : u.Secures { u with ldmLines := ls, ldm := d } := .of_parts
    dsimp only at h
    split_ifs at h <;> cases h
    · refine (added s rest (s.ldm.add ln)).trans ?_
      unfold State.endBlock
      dsimp only
      split_ifs
      · exact added _ rest _
      · exact (added _ _ _).trans (State.offer_secures _ _)
    · exact added s rest _

theorem execCapTakeLine_secures (h : execCapTakeLine s = .next t) : s.Secures t := by
  unfold execCapTakeLine at h
  split at h
  · cases h; exact .refl s
  · next ln rest _ =>
    have taken : s.Secures { s with capLines := rest } := .of_parts
    have recorded (m : Nat) : s.Secures
        { s with capLines := rest, cap.ring := pushRecord s.cap.ring (ln.record s.cap.mode), cap.post := m } := .of_parts
    dsimp only at h
    split at h
    · cases h; exact recorded _
    · split_ifs at h <;> cases h
      · exact (recorded _).trans (State.completeCapture_secures _)
      · exact recorded _
    · cases h; exact taken
    · cases h; exact taken

end Events

end Sys2Proof.Machine
end

section
/-! PROOF. Lanes and valves through every command (R121, R151, R156, spec/07 section 7.1): the requests, the resets, and
the settled statement. -/
-- One proof at a time: elaborated side by side, the proofs take more stacks than the check's memory holds.
set_option Elab.async false
namespace Sys2Proof.Machine

/-! ### The requests -/

section Answers
variable (s : State)

theorem State.stopDrain_secures : s.Secures s.stopDrain := by
  unfold State.stopDrain
  split_ifs
  · exact (s.setEngine_secures _ _).trans (State.judgeDrained_life _ Part.offLanes_endings).secures
  · exact .refl s

theorem State.stopAbandon_secures : s.Secures s.stopAbandon := by
  have draining : s.Secures (if s.eng.state = .sorting then s.setEngine .draining .stopAbandon else s) := by
    split_ifs
    · exact s.setEngine_secures _ _
    · exact .refl s
  exact ((draining.trans (State.abandonOpen_life _ Part.offLanes_endings).secures).trans
    (State.abandonClassifier_life _ Part.offLanes_endings).secures).trans
      (State.judgeDrained_life _ Part.offLanes_endings).secures

theorem State.setSettings_secures (body : List Byte) : s.Secures (s.setSettings body).state := by
  have written (d : Cdu) : s.Secures { s with cdu := d } := .of_parts
  unfold State.setSettings
  dsimp only
  split
  · exact .refl s
  · unfold State.withSettings State.accept
    dsimp only
    split_ifs
    · exact written _
    · exact (written _).trans (State.computeLeads_secures _)

theorem State.sortStart_secures : s.Secures s.sortStart.state := by
  unfold State.sortStart
  split_ifs
  · exact .refl s
  · exact .refl s
  · exact s.setEngine_secures _ _

theorem State.sortStop_secures (body : List Byte) : s.Secures (s.sortStop body).state := by
  unfold State.sortStop
  dsimp only
  split_ifs
  · exact .refl s
  · exact .refl s
  · exact s.stopDrain_secures
  · exact s.stopAbandon_secures

theorem State.flush_secures : s.Secures s.flush.state := by
  have flushed := s.flushed_secures
  unfold State.flush State.accept
  dsimp only
  exact flushed

theorem State.clear_secures : s.Secures s.clear.state := by
  have cleared : s.Secures { s with eng.flags := {} } := .of_parts
  unfold State.clear
  split_ifs
  · exact cleared.trans (State.setEngine_secures _ _ _)
  · exact .refl s
  · exact cleared

theorem State.surveyStart_secures (body : List Byte) : s.Secures (s.surveyStart body).state := by
  have started (b : Blt) : s.Secures { s with blt := b } := .of_parts
  unfold State.surveyStart
  dsimp only
  split_ifs
  · exact .refl s
  · exact (started _).trans (State.setEngine_secures _ _ _)

theorem State.surveyStop_secures : s.Secures s.surveyStop.state := by
  unfold State.surveyStop
  split_ifs
  · exact (s.abortSurvey_life Part.offLanes_endings _).secures
  · exact .refl s

theorem State.surveyResult_secures : s.Secures s.surveyResult.state := by
  unfold State.surveyResult
  split
  · exact .refl s
  · exact .refl s

theorem State.baselineRead_secures (body : List Byte) : s.Secures (s.baselineRead body).state := by
  unfold State.baselineRead
  dsimp only
  split
  · exact .refl s
  · split_ifs
    · exact .refl s
    · exact .refl s

theorem State.baselineWrite_secures (body : List Byte) : s.Secures (s.baselineWrite body).state := by
  unfold State.baselineWrite
  dsimp only
  split
  · exact .refl s
  · split
    · exact .refl s
    · split
      · exact .refl s
      · split
        · exact .refl s
        · exact .of_parts

theorem State.laneRead_secures (body : List Byte) : s.Secures (s.laneRead body).state := by
  unfold State.laneRead
  split
  · exact .refl s
  · exact .refl s

theorem State.valveSet_secures (body : List Byte) : s.Secures (s.valveSet body).state := by
  unfold State.valveSet
  split
  · split_ifs
    · exact s.enable_secures _ _
    · exact s.disable_secures _ _
    · exact .refl s
  · exact .refl s

theorem State.valvePulse_secures (body : List Byte) : s.Secures (s.valvePulse body).state := by
  unfold State.valvePulse
  dsimp only
  split
  · split_ifs with _ _ hair hbusy
    · exact .refl s
    · exact .refl s
    · exact .refl s
    · exact .refl s
    · obtain ⟨-, hclosed, -⟩ := not_or.mp hbusy |>.imp_right not_or.mp
      have hpresent : s.vdr.air = .present := by
        cases h : s.vdr.air with
        | present => rfl
        | lost => exact absurd h hair
      exact State.openPulse_secures _ _ hpresent hclosed
  · exact .refl s

theorem State.captureArm_secures (body : List Byte) : s.Secures (s.captureArm body).state := by
  unfold State.captureArm
  dsimp only
  split_ifs
  · exact .refl s
  · exact .refl s
  · exact .of_parts
  · exact .of_parts

theorem State.captureRead_secures (body : List Byte) : s.Secures (s.captureRead body).state := by
  unfold State.captureRead
  split_ifs
  · exact .refl s
  · split
    · exact .refl s
    · exact .refl s

theorem State.statsAnswer_secures (body : List Byte) : s.Secures (s.statsAnswer body).state := by
  unfold State.statsAnswer
  dsimp only
  split_ifs
  · exact .refl s
  · exact .of_parts
  · exact .refl s

theorem State.recipeOpen_secures : s.Secures s.recipeOpen.state := by
  unfold State.recipeOpen
  dsimp only
  split
  · exact .of_parts
  · exact .of_parts
  · exact .refl s
  · exact .refl s

theorem State.recipePutRecords_secures (body : List Byte) : s.Secures (s.recipePutRecords body).state := by
  unfold State.recipePutRecords
  dsimp only
  split
  · exact .refl s
  · split_ifs
    · exact .refl s
    · exact .of_parts

theorem State.recipePutClasses_secures (body : List Byte) : s.Secures (s.recipePutClasses body).state := by
  unfold State.recipePutClasses
  dsimp only
  split
  · exact .refl s
  · split_ifs
    · exact .refl s
    · exact .of_parts
    · exact .refl s

theorem State.recipeCommit_secures (body : List Byte) : s.Secures (s.recipeCommit body).state := by
  unfold State.recipeCommit
  dsimp only
  split
  · exact .refl s
  · split_ifs
    · exact .refl s
    · split
      · exact .refl s
      · exact .of_parts

theorem State.recipeAbandon_secures : s.Secures s.recipeAbandon.state := by
  unfold State.recipeAbandon
  split
  · exact .refl s
  · exact .of_parts

end Answers

/-- A request keeps sound what its block's answer keeps sound. -/
theorem State.takeRequest_secures {kind : Nat} {mine : List Byte → Bool} {act : List Byte → State → Answer} {s t : State}
    (hact : ∀ body u, State.Secures u (act body u).state) (h : s.takeRequest kind mine act = .next t) : s.Secures t := by
  have queued (u : State) (x : Lnk) : u.Secures { u with lnk := x } := .of_parts
  unfold State.takeRequest at h
  split at h
  · cases h; exact .refl s
  · next f rest _ =>
    split_ifs at h
    · obtain rfl := Host.Outcome.next.inj h
      unfold State.takeFrame judgedLength
      split_ifs
      · exact ((queued s _).trans (hact f.body { s with lnk.inbound := rest })).trans .of_parts
      · exact .of_parts
    · cases h; exact .refl s

/-! ### The resets -/

theorem Valve.softened_ne_opened (v : Valve) : v.softened.state ≠ .opened := by
  unfold Valve.softened
  dsimp only
  split_ifs <;> nofun

/-- A state with empty lanes, no OPEN valve and a bus that has shown each valve closed. -/
theorem State.Secures.of_rest {s t : State} (hlane : ∀ l, t.lane l = []) (hvalve : ∀ l r, (t.valve l r).state ≠ .opened)
    (hbus : t.vdr.busWrites = closedBus) : s.Secures t where
  bus _ l r := by rw [hbus, lastWrite_closedBus, Valve.isOpen_eq_false (hvalve l r)]
  air _ _ l r := Valve.isOpen_eq_false (hvalve l r)
  lanes _ l := by rw [hlane]; exact laneSound_nil
  activity _ _ l r := ⟨fun h => absurd h (Valve.not_serves (hvalve l r)), fun _ => by rw [hlane]; rfl⟩

theorem State.judgeAir_secures (s : State) : s.Secures s.judgeAir := by
  unfold State.judgeAir
  split
  · exact .refl s
  · exact s.raiseFault_secures .airLost

theorem execSoftReset_secures {s t : State} {a b : Bool} {air : Air} (h : execSoftReset a b air s = .next t) :
    s.Secures t := by
  unfold execSoftReset at h
  split_ifs at h <;> cases h
  · have rests : s.Secures (s.softened a b air) := .of_rest State.lane_reset (fun l r => by
      rw [State.valve_softened]
      exact Valve.softened_ne_opened _) rfl
    exact rests.trans (State.judgeAir_secures _)
  · exact .refl s

theorem execHardReset_secures {s t : State} {a b : Bool} {air : Air} {straps : Fin 4}
    (h : execHardReset a b air straps s = .next t) : s.Secures t := by
  have hvalve (l : Lane) (r : Row) : ((s.hardened a b air straps).valve l r).state ≠ .opened := by
    rw [show (s.hardened a b air straps).valve l r = State.reset.valve l r from rfl, State.valve_reset]
    nofun
  have rests : s.Secures (s.hardened a b air straps) := .of_rest State.lane_reset hvalve rfl
  cases h
  exact rests.trans (State.judgeAir_secures _)

/-! ### Every command -/

/-- Every command keeps lanes and valves sound. -/
theorem exec_secures {c : Instr} {s t : State} (h : exec c s = .next t) : s.Secures t := by
  cases c with
  | encoderTransition a b => exact execEncoderTransition_secures h
  | speedUpdate => exact execSpeedUpdate_secures h
  | lineRequestSend => exact execLineRequestSend_secures h
  | sensorFrameEnd bytes broken => exact execSensorFrameEnd_secures h
  | bltTakeLine => exact execBltTakeLine_secures h
  | segTakeLine => exact execSegTakeLine_secures h
  | ldmTakeLine => exact execLdmTakeLine_secures h
  | capTakeLine => exact execCapTakeLine_secures h
  | walkStart => exact execWalkStart_secures h
  | testEvaluate => exact execTestEvaluate_secures h
  | walkEnd => exact execWalkEnd_secures h
  | placePiece src => exact execPlacePiece_secures h
  | placeUntracked => exact execPlaceUntracked_secures h
  | maxOnExpiry l r => exact execMaxOnExpiry_secures h
  | minOffExpiry l r => exact execMinOffExpiry_secures h
  | pulseExpiry l r => exact execPulseExpiry_secures h
  | airLost => exact execAirLost_secures h
  | airRestored => exact execAirRestored_secures h
  | valveReturnFrame reports good broken => exact execValveReturnFrame_secures h
  | linkFrameEnd bytes => exact execLinkFrameEnd_secures h
  | linkFramingError => exact execLinkFramingError_secures h
  | gapAbort => exact execGapAbort_secures h
  | transmitFrame => exact execTransmitFrame_secures h
  | unknownKind => exact execUnknownKind_secures h
  | linkFrameStart => exact execLinkFrameStart_secures h
  | sensorFrameStart => cases h; exact .of_parts
  | returnFrameStart => cases h; exact .of_parts
  | linkFrameSent => exact execLinkFrameSent_secures h
  | softReset a b air => exact execSoftReset_secures h
  | hardReset a b air straps => exact execHardReset_secures h
  | hello => exact State.takeRequest_secures (fun _ u => .refl u) h
  | status => exact State.takeRequest_secures (fun _ u => .refl u) h
  | set => exact State.takeRequest_secures (fun body u => u.setSettings_secures body) h
  | get => exact State.takeRequest_secures (fun _ u => .refl u) h
  | hold => exact State.takeRequest_secures (fun _ _ => .of_parts) h
  | release => exact State.takeRequest_secures (fun _ _ => .of_parts) h
  | sortStart => exact State.takeRequest_secures (fun _ u => u.sortStart_secures) h
  | sortStopDrain => exact State.takeRequest_secures (fun body u => u.sortStop_secures body) h
  | sortStopAbandon => exact State.takeRequest_secures (fun body u => u.sortStop_secures body) h
  | flush => exact State.takeRequest_secures (fun _ u => u.flush_secures) h
  | clear => exact State.takeRequest_secures (fun _ u => u.clear_secures) h
  | reset => exact State.takeRequest_secures (fun _ _ => .of_parts) h
  | surveyStart => exact State.takeRequest_secures (fun body u => u.surveyStart_secures body) h
  | surveyStop => exact State.takeRequest_secures (fun _ u => u.surveyStop_secures) h
  | surveyResult => exact State.takeRequest_secures (fun _ u => u.surveyResult_secures) h
  | baselineRead => exact State.takeRequest_secures (fun body u => u.baselineRead_secures body) h
  | baselineWrite => exact State.takeRequest_secures (fun body u => u.baselineWrite_secures body) h
  | recipeOpen => exact State.takeRequest_secures (fun _ u => u.recipeOpen_secures) h
  | recipePutRecords => exact State.takeRequest_secures (fun body u => u.recipePutRecords_secures body) h
  | recipePutClasses => exact State.takeRequest_secures (fun body u => u.recipePutClasses_secures body) h
  | recipeCommit => exact State.takeRequest_secures (fun body u => u.recipeCommit_secures body) h
  | recipeAbandon => exact State.takeRequest_secures (fun _ u => u.recipeAbandon_secures) h
  | recipeInfo => exact State.takeRequest_secures (fun _ u => .refl u) h
  | laneRead => exact State.takeRequest_secures (fun body u => u.laneRead_secures body) h
  | valveEnable => exact State.takeRequest_secures (fun body u => u.valveSet_secures body) h
  | valveDisable => exact State.takeRequest_secures (fun body u => u.valveSet_secures body) h
  | valvePulse => exact State.takeRequest_secures (fun body u => u.valvePulse_secures body) h
  | valveState => exact State.takeRequest_secures (fun _ u => .refl u) h
  | captureArmNow => exact State.takeRequest_secures (fun body u => u.captureArm_secures body) h
  | captureArmClass => exact State.takeRequest_secures (fun body u => u.captureArm_secures body) h
  | captureCancel => exact State.takeRequest_secures (fun _ _ => .of_parts) h
  | captureRead => exact State.takeRequest_secures (fun body u => u.captureRead_secures body) h
  | statsRead => exact State.takeRequest_secures (fun body u => u.statsAnswer_secures body) h
  | statsReadClear => exact State.takeRequest_secures (fun body u => u.statsAnswer_secures body) h

/-- One microsecond moves the timers alone. -/
theorem State.microsecond_secures (s : State) : s.Secures s.microsecond := by
  have hvalve := s.valve_microsecond
  have hvdr : s.microsecond.vdr.air = s.vdr.air ∧ s.microsecond.vdr.busWrites = s.vdr.busWrites ∧
      s.microsecond.lsc = s.lsc := by
    rw [State.microsecond_eq]
    exact ⟨rfl, rfl, rfl⟩
  obtain ⟨hair, hbus, hlsc⟩ := hvdr
  have hlane := State.lane_congr hlsc
  refine ⟨fun h l r => ?_, fun h hlost l r => ?_, fun h l => ?_, fun _ h l r => ?_⟩
  · rw [hbus, hvalve]
    exact h l r
  · rw [hvalve]
    exact h (hair ▸ hlost) l r
  · rw [hlane]
    exact h l
  · unfold State.activeAt
    rw [hlane, hvalve]
    exact h l r

theorem step_secures {s t : State} (h : step s = .next t) : s.Secures t := by
  unfold step at h
  split at h
  · next c rest _ =>
    have popped : s.Secures { s with pending := rest } := .of_parts
    exact popped.trans (exec_secures h)
  · cases h
    exact s.microsecond_secures

/-- Settles O44: every command and every microsecond keeps the bus true, the air tight, the lanes sound, and the ACTIVE
entries with the valves that serve them (`State.Secures`). -/
theorem lanesAndValvesStaySound : Obligations.LanesAndValvesStaySound := by
  refine ⟨fun s t h => ⟨fun hs => ?_, fun hl ha => ?_⟩, fun s t h => (step_secures h).lanes⟩
  · obtain ⟨hbus, hair⟩ := State.valvesSound_iff.mp hs
    exact State.valvesSound_iff.mpr ⟨(step_secures h).bus hbus, (step_secures h).air hair⟩
  · exact State.activitySound_iff_activeAt.mpr
      ((step_secures h).activity hl (State.activitySound_iff_activeAt.mp ha))

end Sys2Proof.Machine
end

section
/-! PROOF. Fragments cut, judged late and inserted (R131, R137 to R139, R143). -/
-- One proof at a time: elaborated side by side, the proofs take more stacks than the check's memory holds.
set_option Elab.async false
namespace Sys2Proof.Machine

section Insert
variable {s : State} {l : Lane} {n : Proposal} {f : Fragment}

/-- The counts of an inserted fragment (R139, R143). -/
theorem State.insertFragment_counts (h : (s.lane l).length < 16) :
    (s.insertFragment l n f).sta.get .placed = min 4294967295 (s.sta.get .placed + 1) ∧
      (s.insertFragment l n f).sta.get .anonymous =
        if n.owner = none then min 4294967295 (s.sta.get .anonymous + 1) else s.sta.get .anonymous := by
  rw [State.insertFragment_of_room s l n f h]
  cases ho : n.owner with
  | none => simp [State.get_count, State.tallyOwner_sta]
  | some o => simp [State.get_count, State.tallyOwner_sta]

/-- The owner's record after an insertion (R139). -/
theorem State.piece_insertFragment {i : Slot} {num : PieceNo} {p : Piece} (ho : n.owner = some (i, num))
    (hp : s.piece i = some p) : (s.insertFragment l n f).piece i =
      some (if (s.lane l).length < 16 then p.gainEntry else p.tallyFull) := by
  split_ifs with hroom
  · rw [State.insertFragment_of_room s l n f hroom, ho]
    exact State.piece_tallyOwner_self (s := s.setLane l (insertEntry (f.entry n) (s.lane l))) hp Piece.gainEntry
  · rw [State.insertFragment_of_full s l n f (Nat.le_of_not_lt hroom), ho]
    exact State.piece_tallyOwner_self hp Piece.tallyFull

end Insert

/-- Settles O33: cuts by positions, lateness by the trigger judged, and the insertion at the place that the start
gives. -/
theorem fragmentsAreCutJudgedAndInserted : Obligations.FragmentsAreCutJudgedAndInserted := by
  refine ⟨⟨fun a b c d hab hcd => ⟨covers_cutWindow a b c d, fun w hw => ?nonempty, cutWindow_pairwise hcd⟩,
    fun f row rd => ⟨fun hrow => ⟨fun hearly => ?early, fun hlate hfits => ?fits, fun hlate hfits => ?dropped⟩,
      fun hrow => ?guard⟩⟩, fun s l n f => ⟨fun m hm => ?others, ?vdr, s.insertFragment_steady l n f, fun hroom => ?placed,
      fun hfull => ?full, fun i num p ho hp => State.piece_insertFragment ho hp⟩⟩
  case nonempty =>
    obtain ⟨-, -, hne, -⟩ := mem_cutWindow hw
    exact hne hab
  case early => exact Fragment.judged_early hrow (by omega)
  case fits => exact (Fragment.judged_late hrow (by omega)).trans (if_pos (by omega))
  case dropped => exact (Fragment.judged_late hrow (by omega)).trans (if_neg (by omega))
  case guard =>
    subst hrow
    exact ⟨fun hended => (f.judged_guard rd).trans (if_pos hended),
      fun hahead => (f.judged_guard rd).trans (if_neg (Nat.not_le_of_lt hahead))⟩
  case others => exact (s.insertFragment_edits l n f).others m hm
  case vdr => exact (s.insertFragment_edits l n f).vdr
  case placed =>
    obtain ⟨before, after, hlane, hinserted, hbefore, hafter⟩ := insertEntry_split (f.entry n) (s.lane l)
    obtain ⟨hplaced, hanonymous⟩ := State.insertFragment_counts (n := n) (f := f) hroom
    exact ⟨before, after, hlane, ((s.insertFragment_lane l n f l).trans (if_pos ⟨rfl, hroom⟩)).trans hinserted, hbefore,
      hafter, hplaced, hanonymous⟩
  case full =>
    refine ⟨(s.insertFragment_lane l n f l).trans (if_neg fun h => Nat.not_le_of_lt h.2 hfull), ?_⟩
    rw [State.insertFragment_of_full s l n f hfull, State.get_count, if_pos rfl, State.tallyOwner_sta]

end Sys2Proof.Machine
end

section
/-! PROOF. Arbitration of a proposal with an entry of its lane (R131 to R135, R144). -/
-- One proof at a time: elaborated side by side, the proofs take more stacks than the check's memory holds.
set_option Elab.async false
namespace Sys2Proof.Machine

section Cut
variable {s : State} {l : Lane} {e : Entry} {fs : List Fragment} {i : Slot} {num : PieceNo} {p : Piece}

/-- Every part but the count of trimmed proposals and entries. -/
def Part.untrimmed (x : Part) : Prop := x ≠ .count .trimmed

theorem Part.untrimmed_endings : Endings Part.untrimmed := fun c hc e => by cases e; cases hc

theorem State.countCut_trimmed (s : State) (e : Entry) :
    (s.countCut e).sta.get .trimmed = min 4294967295 (s.sta.get .trimmed + 1) := by
  rw [State.countCut, State.get_count, if_pos rfl, State.tallyOwner_sta]

/-- A cut is counted once (R134). -/
theorem State.cutEntry_trimmed (s : State) (l : Lane) (e : Entry) (fs : List Fragment) :
    (s.cutEntry l e fs).sta.get .trimmed = min 4294967295 (s.sta.get .trimmed + 1) := by
  match h : s.remains e fs with
  | [] =>
    rw [State.cutEntry_of_none s l e fs h, (State.ownerDone_life _ Part.untrimmed_endings _).count_eq fun h => h rfl,
      State.tallyOwner_sta]
    exact s.countCut_trimmed e
  | [w] =>
    rw [State.cutEntry_of_one s l e fs h]
    exact s.countCut_trimmed e
  | w :: x :: ws =>
    rw [State.cutEntry_of_two s l e fs h]
    split_ifs
    · rw [State.tallyOwner_sta]
      exact s.countCut_trimmed e
    · rw [State.get_count, if_neg nofun, State.tallyOwner_sta]
      exact s.countCut_trimmed e

/-- The cut of an anonymous entry reaches no piece (R144). -/
theorem State.cutEntry_seg_of_anonymous (h : e.owner = none) : (s.cutEntry l e fs).seg = s.seg := by
  have hcut : (s.countCut e).seg = s.seg := by rw [State.countCut, State.count_seg, h]; rfl
  match hleft : s.remains e fs with
  | [] => rw [State.cutEntry_of_none s l e fs hleft, h]; exact hcut
  | [w] => rw [State.cutEntry_of_one s l e fs hleft]; exact hcut
  | w :: x :: ws =>
    rw [State.cutEntry_of_two s l e fs hleft, h]
    split_ifs <;> exact hcut

theorem State.piece_countCut (ho : e.owner = some (i, num)) (hp : s.piece i = some p) :
    (s.countCut e).piece i = some p.tallyTrimmed := by
  rw [State.countCut, ho]
  exact State.piece_tallyOwner_self hp _

/-- The owner of an entry cut to nothing, before its completion is judged. -/
theorem State.piece_cutEntry_of_none (ho : e.owner = some (i, num)) (hp : s.piece i = some p)
    (hleft : s.remains e fs = []) : ∃ t : State, s.cutEntry l e fs = t.completeIfDone i ∧
      t.piece i = some p.tallyTrimmed.loseEntry := by
  have hcut := State.cutEntry_of_none s l e fs hleft
  rw [ho] at hcut
  exact ⟨_, hcut,
    State.piece_tallyOwner_self (s := (s.countCut e).setLane l _) (State.piece_countCut ho hp) Piece.loseEntry⟩

theorem State.completeIfDone_of_pending {q : Piece} (h : s.piece i = some q) (hq : q.pendingEntries ≠ 0) :
    s.completeIfDone i = s := by
  unfold State.completeIfDone
  rw [h]
  exact if_neg fun hd => hq hd.2

theorem State.piece_completeIfDone_of_done {q : Piece} (h : s.piece i = some q) (hphase : q.phase = .scheduled)
    (hnone : q.pendingEntries = 0) (hclassed : q.classed ≠ none) : (s.completeIfDone i).piece i = none := by
  obtain ⟨c, hc⟩ := Option.ne_none_iff_exists'.mp hclassed
  unfold State.completeIfDone State.complete
  simp only [h, hphase, hnone, hc, and_self, if_true]
  rw [State.piece_freeSlot, if_pos rfl]

end Cut

/-- Settles O34: the three ways of R132 to R134, and of the last the four cuts by what remains of the entry. -/
theorem proposalMeetsAnEntry : Obligations.ProposalMeetsAnEntry := by
  intro s l n e fs hsound hmem
  refine ⟨State.meetEntry_share s l fs, State.meetEntry_trim s l fs, fun hrow hact hprec =>
    ⟨s.cutEntry l e fs, State.meetEntry_cut s l fs hrow hact hprec, ?_⟩⟩
  intro left cut swap
  have hlane {ws : List (Nat × Nat)} (hleft : left = ws) : (s.cutEntry l e fs).lane l = cutLane e (s.lane l) ws :=
    hleft ▸ (s.cutEntry_lane l e fs l).trans (if_pos rfl)
  refine ⟨fun hleft => ?removed, fun w hleft => hlane hleft, fun w x hleft hroom => ?split, fun w x hleft hfull => ?full,
    (s.cutEntry_edits l e fs hact).others, (s.cutEntry_edits l e fs hact).vdr, s.cutEntry_steady l e fs,
    s.cutEntry_trimmed l e fs, State.cutEntry_seg_of_anonymous, fun i num p ho hp => ?owner⟩
  case removed =>
    refine ((hlane hleft).trans (hsound.nodup.erase_eq_filter e)).trans (List.filter_congr fun x _ => ?_)
    by_cases hx : x = e <;> simp [hx]
  case split => exact (hlane hleft).trans (if_pos hroom)
  case full =>
    have hnot := Nat.not_lt_of_le hfull
    refine ⟨(hlane hleft).trans (if_neg hnot), ?_⟩
    have hbefore : ((s.countCut e).setLane l (cutLane e (s.lane l) [w, x])).sta.get .droppedFull =
        s.sta.get .droppedFull := by
      rw [State.setLane_sta, State.countCut, State.get_count, if_neg nofun, State.tallyOwner_sta]
    rw [State.cutEntry_of_two s l e fs hleft, if_neg hnot, State.get_count, if_pos rfl, State.tallyOwner_sta, hbefore]
  case owner =>
    have hcut := State.piece_countCut ho hp
    intro q
    refine ⟨fun hleft hmore hpos => ?more, fun hleft hlast hphase hclassed => ?last, fun w hleft => ?one,
      fun w x hleft hroom => ?gains, fun w x hleft hfull => ?drops⟩
    case more =>
      obtain ⟨t, ht, hpiece⟩ := State.piece_cutEntry_of_none (l := l) ho hp hleft
      have hpending : p.tallyTrimmed.loseEntry.pendingEntries = p.pendingEntries - 1 := rfl
      rw [ht, State.completeIfDone_of_pending hpiece (by omega)]
      exact hpiece
    case last =>
      obtain ⟨t, ht, hpiece⟩ := State.piece_cutEntry_of_none (l := l) ho hp hleft
      have hpending : p.tallyTrimmed.loseEntry.pendingEntries = p.pendingEntries - 1 := rfl
      rw [ht]
      exact State.piece_completeIfDone_of_done hpiece hphase (by omega) hclassed
    case one =>
      rw [State.cutEntry_of_one s l e fs hleft]
      exact hcut
    case gains =>
      rw [State.cutEntry_of_two s l e fs hleft, if_pos hroom, ho]
      exact State.piece_tallyOwner_self (s := (s.countCut e).setLane l _) hcut Piece.gainEntry
    case drops =>
      rw [State.cutEntry_of_two s l e fs hleft, if_neg (Nat.not_lt_of_le hfull), ho]
      exact State.piece_tallyOwner_self (s := (s.countCut e).setLane l _) hcut Piece.tallyFull

end Sys2Proof.Machine
end

section
/-! SUPPORT. A placement over several lanes and the judgments that end it (R123 to R150): what stands of the lanes and
valves they do not reach, and what one lane comes to. -/
-- One proof at a time: elaborated side by side, the proofs take more stacks than the check's memory holds.
set_option Elab.async false
namespace Sys2Proof.Machine

/-! ### One lane after another -/

section Lanes
variable {op : State → Lane → State} {s : State}

/-- Operations on the schedules of some lanes leave the valves, the other lanes and the hand-offs. -/
theorem State.foldl_edits (h : ∀ t m, State.Edits m t (op t m)) (ls : List Lane) (s : State) :
    (ls.foldl op s).vdr = s.vdr ∧ (ls.foldl op s).lsc.handoffs = s.lsc.handoffs ∧
      ∀ m, m ∉ ls → (ls.foldl op s).lane m = s.lane m := by
  induction ls generalizing s with
  | nil => exact ⟨rfl, rfl, fun _ _ => rfl⟩
  | cons l ls ih =>
    obtain ⟨hvdr, hhandoffs, hlanes⟩ := ih (op s l)
    obtain ⟨hvdr', hhandoffs', hothers, -⟩ := h s l
    refine ⟨hvdr.trans hvdr', hhandoffs.trans hhandoffs', fun m hm => ?_⟩
    obtain ⟨hne, hm⟩ := List.ne_and_not_mem_of_not_mem_cons hm
    exact (hlanes m hm).trans (hothers m hne)

/-- Each lane is reached once, as it stood before. -/
theorem State.foldl_edits_lane (h : ∀ t m, State.Edits m t (op t m)) (hsteady : ∀ t m, (op t m).steady = t.steady)
    {ls : List Lane} (hnodup : ls.Nodup) {m : Lane} (hm : m ∈ ls) (s : State) : ∃ t : State,
      t.lane m = s.lane m ∧ t.vdr = s.vdr ∧ t.steady = s.steady ∧ (ls.foldl op s).lane m = (op t m).lane m := by
  obtain ⟨before, after, rfl⟩ := List.append_of_mem hm
  obtain ⟨-, hcons, hdisj⟩ := List.nodup_append.mp hnodup
  have hbefore : m ∉ before := fun hb => hdisj m hb m List.mem_cons_self rfl
  obtain ⟨hvdr, -, hlanes⟩ := State.foldl_edits h before s
  obtain ⟨-, -, hafter⟩ := State.foldl_edits h after (op (before.foldl op s) m)
  refine ⟨before.foldl op s, hlanes m hbefore, hvdr, State.foldl_steady _ hsteady before s, ?_⟩
  rw [List.foldl_append, List.foldl_cons]
  exact hafter m (List.nodup_cons.mp hcons).1

end Lanes

/-! ### Proposals -/

section Proposals
variable (s : State)

theorem State.meetEntries_eq (l : Lane) (n : Proposal) (es : List Entry) (fs : List Fragment) :
    s.meetEntries l n es fs = es.foldl (fun a e => a.2.meetEntry l n e a.1) (fs, s) := by
  induction es generalizing s fs with
  | nil => rfl
  | cons e es ih => exact ih _ _

/-- The whole window of a proposal as one fragment. -/
def Proposal.whole (n : Proposal) : Fragment :=
  { start := n.start, stop := n.stop, lateStart := false, sharedCut := false, trimmed := false }

/-- A lane with no entries takes the whole window, where it is neither short nor late (R136 to R139). -/
theorem State.propose_of_empty {s : State} {l : Lane} {n : Proposal} {rd : Reading} (hempty : s.lane l = [])
    (hlong : rd.minPulse ≤ n.stop - n.start) (hjudged : n.whole.judged n.row rd = some n.whole) :
    (s.propose l n rd).lane l = [n.whole.entry n] := by
  have hpropose : s.propose l n rd = s.settleFragment l n rd n.whole := by
    unfold State.propose
    rw [hempty]
    dsimp only [List.filter_nil, State.meetEntries]
    rw [List.filter_cons_of_pos (by simpa using hlong)]
    rfl
  have hsettle : s.settleFragment l n rd n.whole = s.insertFragment l n n.whole := by
    unfold State.settleFragment
    rw [hjudged]
  rw [hpropose, hsettle, State.insertFragment_lane, if_pos ⟨rfl, by simp [hempty]⟩, hempty]
  rfl

theorem State.proposeOrLate_edits (l : Lane) (n : Proposal) (rd : Reading) : s.Edits l (s.proposeOrLate l n rd) := by
  have tallied (f : Piece → Piece) : s.Edits l (s.tallyOwner n.owner f) :=
    .of_parts (s.tallyOwner_lsc _ f) (s.tallyOwner_vdr _ f)
  unfold State.proposeOrLate
  split_ifs
  · exact (tallied _).trans (State.propose_edits _ l n rd)
  · exact (tallied _).trans (.of_parts rfl rfl)

theorem State.proposeBlow_edits (l : Lane) (r : Row) (n : Proposal) (rd : Reading) :
    s.Edits l (s.proposeBlow l r n rd) := by
  unfold State.proposeBlow
  split_ifs
  · exact s.proposeOrLate_edits l n rd
  · exact .of_parts (s.tallyOwner_lsc _ _) (s.tallyOwner_vdr _ _)

theorem State.proposeOrLate_of_empty {s : State} {l : Lane} {n : Proposal} {rd : Reading} (hempty : s.lane l = [])
    (hreach : n.start < n.stop) (hlong : rd.minPulse ≤ n.stop - n.start)
    (hjudged : n.whole.judged n.row rd = some n.whole) : (s.proposeOrLate l n rd).lane l = [n.whole.entry n] := by
  unfold State.proposeOrLate
  rw [if_pos hreach]
  exact State.propose_of_empty (by rwa [State.lane_congr (s.tallyOwner_lsc _ _)]) hlong hjudged

/-- A window beyond reach leaves the lane. -/
theorem State.proposeOrLate_of_late {s : State} {n : Proposal} (hreach : n.stop ≤ n.start) (l : Lane) (rd : Reading) :
    (s.proposeOrLate l n rd).lane = s.lane := by
  unfold State.proposeOrLate
  rw [if_neg (Nat.not_lt_of_le hreach)]
  exact State.lane_congr (s.tallyOwner_lsc _ _)

end Proposals

/-! ### The judgment of one valve -/

/-- Nothing but a lane and its valves differs. -/
structure State.OnlyLane (l : Lane) (s t : State) : Prop where
  handoffs : t.lsc.handoffs = s.lsc.handoffs
  lanes : ∀ m, m ≠ l → t.lane m = s.lane m
  valves : ∀ m, m ≠ l → ∀ q, t.valve m q = s.valve m q

section Judge
variable {l : Lane} {r : Row} {s t u : State}

theorem State.OnlyLane.refl (s : State) : State.OnlyLane l s s := ⟨rfl, fun _ _ => rfl, fun _ _ _ => rfl⟩

theorem State.OnlyLane.trans (h : State.OnlyLane l s t) (g : State.OnlyLane l t u) : State.OnlyLane l s u :=
  ⟨g.handoffs.trans h.handoffs, fun m hm => (g.lanes m hm).trans (h.lanes m hm),
    fun m hm q => (g.valves m hm q).trans (h.valves m hm q)⟩

theorem State.OnlyLane.setLane (s : State) (es : List Entry) : State.OnlyLane l s (s.setLane l es) :=
  ⟨rfl, fun m hm => (s.lane_setLane l m es).trans (if_neg (Ne.symm hm)), fun _ _ _ => rfl⟩

theorem State.OnlyLane.setValve (s : State) (r : Row) (v : Valve) : State.OnlyLane l s (s.setValve l r v) :=
  ⟨by rw [State.setValve_lsc], fun m _ => s.setValve_lane l m r v,
    fun m hm q => (s.valve_setValve l m r q v).trans (if_neg fun h => hm h.1.symm)⟩

theorem State.OnlyLane.retire (s : State) (e : Entry) (reason : RetireReason) :
    State.OnlyLane l s (s.retire l e reason) :=
  ⟨by rw [State.retire_lsc]; rfl, fun m hm => (s.retire_lane l m e reason).trans (if_neg (Ne.symm hm)),
    fun m _ q => s.retire_valve l m e reason q⟩

theorem State.OnlyLane.closeEntry (s : State) (r : Row) (e : Entry) : State.OnlyLane l s (s.closeEntry l r e) := by
  obtain ⟨reason, ⟨n, -, h⟩ | h⟩ := s.closeEntry_cases l r e
  · exact h ▸ (State.OnlyLane.retire s e reason).trans (.setLane _ _)
  · exact h ▸ (State.OnlyLane.retire s e reason).trans (.setValve _ r _)

theorem State.OnlyLane.judgeStep {o : Opening} {p : Bool} {x : State × Bool} (h : s.judgeStep l r o p = some x) :
    State.OnlyLane l s x.1 := by
  obtain ⟨e, reason, -, hx, -⟩ | ⟨e, -, hx, -⟩ | ⟨e, late, -, hx, -⟩ := s.judgeStep_cases h
  · exact hx ▸ .retire s e reason
  · exact hx ▸ .closeEntry s r e
  · exact hx ▸ (State.OnlyLane.setValve s r _).trans (.setLane _ _)

theorem State.OnlyLane.judgeLoop (s : State) (o : Opening) (n : Nat) (p : Bool) :
    State.OnlyLane l s (s.judgeLoop l r o n p) := by
  induction n generalizing s p with
  | zero => exact .refl s
  | succ n ih =>
    unfold State.judgeLoop
    split
    · next t q h => exact (State.OnlyLane.judgeStep h).trans (ih t q)
    · exact .refl s

theorem State.OnlyLane.judge (s : State) (l : Lane) (r : Row) (o : Opening) : State.OnlyLane l s (s.judge l r o) :=
  .judgeLoop s o _ _

/-- A judgment in which no step applies leaves everything. -/
theorem State.judge_of_settled {o : Opening} (h : s.judgeStep l r o false = none) : s.judge l r o = s := by
  unfold State.judge State.judgeLoop
  rw [h]

/-- Where a lane holds one PENDING entry with both its triggers ahead, no step of a judgment applies. -/
theorem State.judgeStep_of_ahead {e : Entry} (hlane : s.lane l = [e]) (hpending : e.active = false)
    (hopen : s.bpu.pos + s.vdr.leadOpen < e.start) (hclose : s.bpu.pos + s.vdr.leadClose < e.stop) (r : Row)
    (o : Opening) (p : Bool) : s.judgeStep l r o p = none := by
  have hrow {x : Entry} (hx : x ∈ s.rowEntries l r) : x = e := by
    simpa [hlane] using (State.mem_rowEntries.mp hx).1
  have hmissed : s.missedPending l r = none := List.find?_eq_none.mpr fun x hx => by
    rw [hrow hx]
    simp [State.closeReached, hclose]
  have hactive : s.activeEntry l r = none := List.find?_eq_none.mpr fun x hx => by simp [hrow hx, hpending]
  have hfirst : ∀ x, s.firstPending l r = some x → s.openReached x = false := fun x hx => by
    rw [hrow (List.mem_of_find?_eq_some hx)]
    simpa [State.openReached] using hopen
  unfold State.judgeStep
  simp only [hmissed, hactive, Option.map_none]
  cases (s.valve l r).state with
  | opened => cases (s.valve l r).served <;> rfl
  | closed =>
    cases s.vdr.air with
    | lost => rfl
    | present =>
      cases hf : s.firstPending l r with
      | none => rfl
      | some x => simp [hfirst x hf]
  | _ => rfl

end Judge

/-! ### The judgments that end a placement -/

section Changed
variable {b s : State} {m : Lane}

theorem State.pos_congr {t : State} (h : t.steady = s.steady) : t.bpu.pos = s.bpu.pos ∧
    t.vdr.leadOpen = s.vdr.leadOpen ∧ t.vdr.leadClose = s.vdr.leadClose :=
  ⟨congrArg (fun x => x.bpu.pos) h, congrArg Steady.leadOpen h, congrArg Steady.leadClose h⟩

theorem State.openReach_congr {t : State} (h : t.steady = s.steady) : t.openReach = s.openReach := by
  obtain ⟨hpos, hopen, -⟩ := State.pos_congr h
  rw [State.openReach, hpos, hopen]
  rfl

/-- A lane stands through the judgments where each of its rows is unchanged or finds no step to apply. -/
theorem State.judgeChanged_quiet (h : ∀ r, b.rowEntries m r = s.rowEntries m r ∨
      ∀ t : State, t.lane m = s.lane m → t.steady = s.steady → ∀ o, t.judgeStep m r o false = none) :
    (b.judgeChanged s).lane m = s.lane m ∧ ∀ q, (b.judgeChanged s).valve m q = s.valve m q := by
  have quiet : ∀ (vs : List (Lane × Row)) (o : Opening) (t : State), t.lane m = s.lane m → t.steady = s.steady →
      (∀ q, t.valve m q = s.valve m q) →
      (vs.foldl (fun t v => if b.rowEntries v.1 v.2 = s.rowEntries v.1 v.2 then t else t.judge v.1 v.2 o) t).lane m =
          s.lane m ∧
        ∀ q, (vs.foldl (fun t v =>
          if b.rowEntries v.1 v.2 = s.rowEntries v.1 v.2 then t else t.judge v.1 v.2 o) t).valve m q =
            s.valve m q := by
    intro vs o
    induction vs with
    | nil => exact fun t hlane _ hvalve => ⟨hlane, hvalve⟩
    | cons v vs ih =>
      intro t hlane hsteady hvalve
      rw [List.foldl_cons]
      split_ifs with hrow
      · exact ih t hlane hsteady hvalve
      · by_cases hv : v.1 = m
        · have hnone := (h v.2).resolve_left (hv ▸ hrow) t hlane hsteady o
          rw [hv, State.judge_of_settled hnone]
          exact ih t hlane hsteady hvalve
        · obtain ⟨-, hlanes, hvalves⟩ := State.OnlyLane.judge t v.1 v.2 o
          exact ih _ ((hlanes m (Ne.symm hv)).trans hlane) ((t.judge_steady _ _ _).trans hsteady)
            fun q => (hvalves m (Ne.symm hv) q).trans (hvalve q)
  exact quiet valveOrder _ s rfl rfl fun _ => rfl

theorem State.rowEntries_congr {t : State} (h : t.lane m = s.lane m) (r : Row) :
    t.rowEntries m r = s.rowEntries m r := by
  unfold State.rowEntries
  rw [h]

/-- A lane that a placement left stands through the judgments. -/
theorem State.judgeChanged_of_same (h : s.lane m = b.lane m) :
    (b.judgeChanged s).lane m = s.lane m ∧ ∀ q, (b.judgeChanged s).valve m q = s.valve m q :=
  State.judgeChanged_quiet fun r => .inl (State.rowEntries_congr h r).symm

/-- A lane with one PENDING entry ahead of both its triggers stands through the judgments. -/
theorem State.judgeChanged_of_ahead {e : Entry} (hlane : s.lane m = [e]) (hpending : e.active = false)
    (hopen : s.bpu.pos + s.vdr.leadOpen < e.start) (hclose : s.bpu.pos + s.vdr.leadClose < e.stop) :
    (b.judgeChanged s).lane m = s.lane m ∧ ∀ q, (b.judgeChanged s).valve m q = s.valve m q := by
  refine State.judgeChanged_quiet fun r => .inr fun t ht hsteady o => ?_
  obtain ⟨hpos, hleadOpen, hleadClose⟩ := State.pos_congr hsteady
  exact State.judgeStep_of_ahead (ht.trans hlane) hpending (by rwa [hpos, hleadOpen]) (by rwa [hpos, hleadClose]) r o _

theorem State.judgeChanged_handoffs (b s : State) : (b.judgeChanged s).lsc.handoffs = s.lsc.handoffs := by
  unfold State.judgeChanged
  have : ∀ (vs : List (Lane × Row)) (o : Opening) (t : State), (vs.foldl (fun t v =>
      if b.rowEntries v.1 v.2 = s.rowEntries v.1 v.2 then t else t.judge v.1 v.2 o) t).lsc.handoffs =
        t.lsc.handoffs := by
    intro vs o
    induction vs with
    | nil => exact fun _ => rfl
    | cons v vs ih =>
      intro t
      rw [List.foldl_cons, ih]
      split_ifs
      · rfl
      · exact (State.OnlyLane.judge t v.1 v.2 o).handoffs
  exact this valveOrder _ s

/-- Where no row changed no valve is judged. -/
theorem State.judgeChanged_of_unchanged (h : s.lane = b.lane) : b.judgeChanged s = s := by
  have hrows (v : Lane × Row) : b.rowEntries v.1 v.2 = s.rowEntries v.1 v.2 := by
    unfold State.rowEntries
    rw [h]
  unfold State.judgeChanged
  simp only [hrows, if_true]
  exact List.foldl_fixed valveOrder

end Changed

end Sys2Proof.Machine
end

section
/-! SUPPORT. The tallies of a piece that say what a placement planned for it (R126, R127): which operations leave
them, and what each covered lane adds. -/
-- One proof at a time: elaborated side by side, the proofs take more stacks than the check's memory holds.
set_option Elab.async false
namespace Sys2Proof.Machine

/-! ### The tallies planned and dropUnavailable -/

/-- A change of a record that leaves what was planned for the piece. -/
def KeepsPlan (f : Piece → Piece) : Prop := ∀ p,
  (f p).tallies.planned = p.tallies.planned ∧ (f p).tallies.dropUnavailable = p.tallies.dropUnavailable

/-- A piece that still holds the slot held it before, with `a` fewer proposals planned and `b` fewer lanes dropped for
an unavailable valve. -/
def State.Plans (i : Slot) (a b : Nat) (s t : State) : Prop := ∀ q, t.piece i = some q → ∃ p, s.piece i = some p ∧
  q.tallies.planned = p.tallies.planned + a ∧ q.tallies.dropUnavailable = p.tallies.dropUnavailable + b

section Plans
variable {i : Slot} {a b a' b' : Nat} {s t u : State}

theorem State.Plans.refl (s : State) : s.Plans i 0 0 s := fun q hq => ⟨q, hq, rfl, rfl⟩

theorem State.Plans.add (h : s.Plans i a b t) (g : t.Plans i a' b' u) : s.Plans i (a + a') (b + b') u := fun q hq => by
  obtain ⟨p, hp, hplanned, hdropped⟩ := g q hq
  obtain ⟨o, ho, hplanned', hdropped'⟩ := h p hp
  exact ⟨o, ho, by omega, by omega⟩

theorem State.Plans.trans (h : s.Plans i 0 0 t) (g : t.Plans i 0 0 u) : s.Plans i 0 0 u := h.add g

theorem State.Plans.foldl {α : Type} {f : State → α → State} (h : ∀ t x, State.Plans i 0 0 t (f t x)) (xs : List α)
    (s : State) : s.Plans i 0 0 (xs.foldl f s) := by
  induction xs generalizing s with
  | nil => exact .refl s
  | cons x xs ih => exact (h s x).trans (ih _)

theorem State.Plans.of_seg (h : t.seg = s.seg) : s.Plans i 0 0 t := fun q hq =>
  ⟨q, by rwa [State.piece_congr h] at hq, rfl, rfl⟩

theorem State.tallyOwner_plans (o : Option (Slot × PieceNo)) (f : Piece → Piece) (hf : KeepsPlan f) :
    s.Plans i 0 0 (s.tallyOwner o f) := by
  cases o with
  | none => exact .refl s
  | some o =>
    intro q hq
    rw [State.tallyOwner, State.piece_updatePiece] at hq
    split_ifs at hq with hi
    · obtain ⟨p, hp, rfl⟩ := Option.map_eq_some_iff.mp hq
      exact ⟨p, hi ▸ hp, (hf p).1, (hf p).2⟩
    · exact ⟨q, hq, rfl, rfl⟩

theorem State.tallyOwner_plans_self {num : PieceNo} (f : Piece → Piece)
    (hf : ∀ p, (f p).tallies.planned = p.tallies.planned + a ∧
      (f p).tallies.dropUnavailable = p.tallies.dropUnavailable + b) :
    s.Plans i a b (s.tallyOwner (some (i, num)) f) := fun q hq => by
  rw [State.tallyOwner, State.piece_updatePiece_self] at hq
  obtain ⟨p, hp, rfl⟩ := Option.map_eq_some_iff.mp hq
  exact ⟨p, hp, hf p⟩

theorem State.tallyCount_plans (o : Option (Slot × PieceNo)) (f : Piece → Piece) (hf : KeepsPlan f) (c : Counter)
    (n : Nat) : s.Plans i 0 0 ((s.tallyOwner o f).count c n) :=
  (State.tallyOwner_plans o f hf).trans (.of_seg (State.count_seg _ c n))

/-! ### The end of a piece -/

theorem State.complete_plans (j : Slot) : s.Plans i 0 0 (s.complete j) := by
  unfold State.complete
  split
  · exact .refl s
  · next p _ =>
    split
    · exact .refl s
    · next c _ =>
      intro q hq
      rw [State.piece_freeSlot] at hq
      split_ifs at hq
      · exact State.Plans.of_seg (by simp) q hq
      · exact State.Plans.of_seg rfl q hq

theorem State.completeIfDone_plans (j : Slot) : s.Plans i 0 0 (s.completeIfDone j) := by
  unfold State.completeIfDone
  split
  · split_ifs
    · exact State.complete_plans j
    · exact .refl s
  · exact .refl s

theorem State.ownerDone_plans (o : Option (Slot × PieceNo)) : s.Plans i 0 0 (s.ownerDone o) := by
  cases o with
  | none => exact .refl s
  | some o => exact State.completeIfDone_plans o.1

/-! ### The judgment of a valve -/

theorem Piece.retireOne_keepsPlan {reason : RetireReason} (h : reason ≠ .unavailable) :
    KeepsPlan (Piece.retireOne reason) := fun _ => by
  cases reason with
  | unavailable => exact absurd rfl h
  | _ => exact ⟨rfl, rfl⟩

theorem State.retire_plans (l : Lane) (e : Entry) {reason : RetireReason} (h : reason ≠ .unavailable) :
    s.Plans i 0 0 (s.retire l e reason) :=
  ((State.Plans.of_seg (t := (s.setLane l ((s.lane l).erase e)).count (.ofRetire reason) 1) rfl).trans
    (State.tallyOwner_plans e.owner _ (Piece.retireOne_keepsPlan h))).trans (State.ownerDone_plans e.owner)

theorem State.closeEntry_plans (l : Lane) (r : Row) (e : Entry) : s.Plans i 0 0 (s.closeEntry l r e) := by
  have hreason : (if e.lateStart then RetireReason.firedLate else .fired) ≠ .unavailable := by split_ifs <;> nofun
  unfold State.closeEntry
  dsimp only
  generalize (if e.lateStart then RetireReason.firedLate else .fired) = reason at hreason
  have retired : s.Plans i 0 0 (s.retire l e reason) := State.retire_plans l e hreason
  have recovered (v : Valve) := retired.trans (.of_seg (State.setValve_seg l r v))
  split
  · split_ifs
    · exact retired.trans (.of_seg rfl)
    · exact recovered _
  · exact recovered _

theorem State.openFor_plans (l : Lane) (r : Row) (e : Entry) (late : Bool) : s.Plans i 0 0 (s.openFor l r e late) :=
  .of_seg (State.setValve_seg l r _)

/-- No step of a judgment retires an entry for an unavailable valve. -/
theorem State.judgeStep_plans {l : Lane} {r : Row} {o : Opening} {p : Bool} {x : State × Bool}
    (h : s.judgeStep l r o p = some x) : s.Plans i 0 0 x.1 := by
  have missed (reason : RetireReason) (hreason : reason ≠ .unavailable)
      (hx : (s.missedPending l r).map (fun e => (s.retire l e reason, p)) = some x) : s.Plans i 0 0 x.1 := by
    obtain ⟨e, -, rfl⟩ := Option.map_eq_some_iff.mp hx
    exact State.retire_plans l e hreason
  unfold State.judgeStep at h
  dsimp only at h
  split at h
  case h_1 =>
    split at h
    · split at h
      · split_ifs at h
        cases h
        exact State.closeEntry_plans l r _
      · cases h
    · exact missed .recoverMiss nofun h
    · cases h
  case h_2 => exact missed .recoverMiss nofun h
  case h_3 =>
    split at h
    · exact missed .airLost nofun h
    · split at h
      · split_ifs at h
        cases h
        exact State.openFor_plans l r _ _
      · cases h
  case h_4 => cases h
  case h_5 => cases h

theorem State.judge_plans (l : Lane) (r : Row) (o : Opening) : s.Plans i 0 0 (s.judge l r o) := by
  have loop : ∀ (n : Nat) (p : Bool) (s : State), s.Plans i 0 0 (s.judgeLoop l r o n p) := by
    intro n
    induction n with
    | zero => exact fun _ s => .refl s
    | succ n ih =>
      intro p s
      unfold State.judgeLoop
      split
      · next h => exact (State.judgeStep_plans h).trans (ih _ _)
      · exact .refl s
  exact loop _ _ s

theorem State.judgeChanged_plans (b : State) : s.Plans i 0 0 (b.judgeChanged s) :=
  .foldl (fun t v => by
    split_ifs
    · exact .refl t
    · exact State.judge_plans _ _ _) valveOrder s

/-! ### Proposals -/

section Propose
variable (l : Lane) (n : Proposal)

theorem State.cutEntry_plans (e : Entry) (fs : List Fragment) : s.Plans i 0 0 (s.cutEntry l e fs) := by
  have cut (es : List Entry) : s.Plans i 0 0 ((s.countCut e).setLane l es) :=
    (State.tallyCount_plans e.owner Piece.tallyTrimmed (fun _ => ⟨rfl, rfl⟩) .trimmed 1).trans (.of_seg rfl)
  match h : s.remains e fs with
  | [] =>
    rw [State.cutEntry_of_none s l e fs h]
    exact ((cut _).trans (State.tallyOwner_plans e.owner Piece.loseEntry fun _ => ⟨rfl, rfl⟩)).trans
      (State.ownerDone_plans e.owner)
  | [w] =>
    rw [State.cutEntry_of_one s l e fs h]
    exact cut _
  | w :: x :: ws =>
    rw [State.cutEntry_of_two s l e fs h]
    split_ifs
    · exact (cut _).trans (State.tallyOwner_plans e.owner Piece.gainEntry fun _ => ⟨rfl, rfl⟩)
    · exact (cut _).trans (State.tallyCount_plans e.owner Piece.tallyFull (fun _ => ⟨rfl, rfl⟩) .droppedFull 1)

theorem State.meetEntry_plans (e : Entry) (fs : List Fragment) : s.Plans i 0 0 (s.meetEntry l n e fs).2 := by
  unfold State.meetEntry
  split_ifs
  · exact State.tallyOwner_plans n.owner Piece.tallyShared fun _ => ⟨rfl, rfl⟩
  · exact State.tallyCount_plans n.owner Piece.tallyTrimmed (fun _ => ⟨rfl, rfl⟩) .trimmed 1
  · exact State.cutEntry_plans l e fs

theorem State.meetEntries_plans (es : List Entry) (fs : List Fragment) :
    s.Plans i 0 0 (s.meetEntries l n es fs).2 := by
  induction es generalizing s fs with
  | nil => exact .refl s
  | cons e es ih => exact (State.meetEntry_plans l n e fs).trans (ih _)

theorem State.insertFragment_plans (f : Fragment) : s.Plans i 0 0 (s.insertFragment l n f) := by
  have placed : s.Plans i 0 0
      (((s.setLane l (insertEntry (f.entry n) (s.lane l))).tallyOwner n.owner Piece.gainEntry).count .placed 1) :=
    (State.Plans.of_seg (State.setLane_seg s l _)).trans
      (State.tallyCount_plans n.owner Piece.gainEntry (fun _ => ⟨rfl, rfl⟩) .placed 1)
  by_cases hroom : (s.lane l).length < 16
  · rw [State.insertFragment_of_room s l n f hroom]
    split_ifs
    · exact placed.trans (.of_seg rfl)
    · exact placed
  · rw [State.insertFragment_of_full s l n f (Nat.le_of_not_lt hroom)]
    exact State.tallyCount_plans n.owner Piece.tallyFull (fun _ => ⟨rfl, rfl⟩) .droppedFull 1

theorem State.settleFragment_plans (rd : Reading) (f : Fragment) : s.Plans i 0 0 (s.settleFragment l n rd f) := by
  obtain ⟨g, -, h⟩ | ⟨-, h⟩ := s.settleFragment_cases l n f rd
  · exact h ▸ State.insertFragment_plans l n g
  · exact h ▸ State.tallyCount_plans n.owner Piece.tallyLate (fun _ => ⟨rfl, rfl⟩) .droppedLate 1

theorem State.propose_plans (rd : Reading) : s.Plans i 0 0 (s.propose l n rd) :=
  (State.meetEntries_plans l n _ _).trans (.foldl (fun _ f => State.settleFragment_plans l n rd f) _ _)

end Propose

/-! ### The covered lanes of a piece to be blown -/

/-- A window in reach is tallied planned (R127). -/
theorem State.proposeOrLate_plans {n : Proposal} {num : PieceNo} (ho : n.owner = some (i, num)) (l : Lane)
    (rd : Reading) : s.Plans i (if n.start < n.stop then 1 else 0) 0 (s.proposeOrLate l n rd) := by
  unfold State.proposeOrLate
  rw [ho]
  split_ifs
  · exact (State.tallyOwner_plans_self Piece.tallyPlanned (a := 1) (b := 0) fun _ => ⟨rfl, rfl⟩).add
      (State.propose_plans l n rd)
  · exact State.tallyCount_plans _ Piece.tallyLate (fun _ => ⟨rfl, rfl⟩) .droppedLate 1

/-- One covered lane adds a planned proposal where its valve is available and the window is in reach, and a drop where
the valve is not available (R126, R127). -/
theorem State.proposeBlow_plans {n : Proposal} {num : PieceNo} (ho : n.owner = some (i, num)) (l : Lane) (r : Row)
    (rd : Reading) :
    s.Plans i (if (s.valve l r).available = true then (if n.start < n.stop then 1 else 0) else 0)
      (if (s.valve l r).available = true then 0 else 1) (s.proposeBlow l r n rd) := by
  unfold State.proposeBlow
  by_cases hv : (s.valve l r).available = true
  · simp only [hv, if_true]
    exact State.proposeOrLate_plans ho l rd
  · simp only [hv]
    exact ho ▸ State.tallyOwner_plans_self Piece.tallyUnavailable (a := 0) (b := 1) fun _ => ⟨rfl, rfl⟩

/-- What the covered lanes add together. -/
theorem State.proposeBlows_plans {n : Proposal} {num : PieceNo} (ho : n.owner = some (i, num)) (r : Row) (rd : Reading)
    (ls : List Lane) (s : State) :
    s.Plans i (if n.start < n.stop then (ls.filter fun l => (s.valve l r).available).length else 0)
      (ls.filter fun l => !(s.valve l r).available).length (ls.foldl (fun t l => t.proposeBlow l r n rd) s) := by
  induction ls generalizing s with
  | nil => simpa using State.Plans.refl s
  | cons l ls ih =>
    have hrest := ih (s.proposeBlow l r n rd)
    have hvalve (m : Lane) : (s.proposeBlow l r n rd).valve m r = s.valve m r := by
      simp only [State.valve, (s.proposeBlow_edits l r n rd).vdr]
    simp only [hvalve] at hrest
    have hsum := (State.proposeBlow_plans (s := s) ho l r rd).add hrest
    rw [List.foldl_cons]
    convert hsum using 1
    · by_cases hn : n.start < n.stop <;> by_cases hv : (s.valve l r).available = true <;> simp [hn, hv, Nat.add_comm]
    · by_cases hv : (s.valve l r).available = true <;> simp [hv, Nat.add_comm]

end Plans

end Sys2Proof.Machine
end

section
/-! O35: a piece is placed over the lanes it covers (R123 to R130, R150). -/
-- One proof at a time: elaborated side by side, the proofs take more stacks than the check's memory holds.
set_option Elab.async false
namespace Sys2Proof.Machine

/-! ### The oldest hand-off of a block -/

section Handoffs
variable {s : State} {src : HandoffSource} {older rest : List Handoff} {h : Handoff}

theorem State.oldestHandoff_of_first (hs : s.lsc.handoffs = older ++ h :: rest)
    (hfirst : ∀ x ∈ older, x.isFrom src = false) (hfrom : h.isFrom src = true) : s.oldestHandoff src = some h := by
  have hnone : older.find? (·.isFrom src) = none := List.find?_eq_none.mpr fun x hx => by simp [hfirst x hx]
  rw [State.oldestHandoff, hs, List.find?_append, hnone, Option.none_or, List.find?_cons_of_pos hfrom]

theorem State.dropHandoff_of_first (hs : s.lsc.handoffs = older ++ h :: rest)
    (hfirst : ∀ x ∈ older, x.isFrom src = false) (hfrom : h.isFrom src = true) :
    s.dropHandoff h = { s with lsc.handoffs := older ++ rest } := by
  have hnot : h ∉ older := fun hm => by simp [hfirst h hm] at hfrom
  rw [State.dropHandoff, hs, List.erase_append_right _ hnot, List.erase_cons_head]

end Handoffs

/-! ### The parts of a placement -/

section Placement
variable (s : State) (i : Slot) (p : Piece) (c : Classification) (first last : Nat) (x : Run)

/-- What a piece proposes to each lane it covers (R124, R128, R131). -/
def State.pieceProposal (row : EntryRow) : Proposal :=
  { row := row, start := first + s.own .barOffset - (s.placingTerms c).lead,
    stop := capPos (last + s.own .barOffset + (s.placingTerms c).trail), owner := some (i, p.number),
    prec := (s.placingTerms c).prec }

/-- The lanes a piece covers (R125). -/
def State.pieceLanes : List Lane :=
  lanesOver (x.left - (s.placingTerms c).widen) (min 95 (x.right + (s.placingTerms c).widen))

/-- A piece's record as its placement begins. -/
def State.freshPiece : State := s.updatePiece i fun q => { q with tallies := {}, pendingEntries := 0 }

/-- A piece proposed to every lane it covers (R126, R127, R129). -/
def State.proposedPiece : State :=
  match c.dest.row? with
  | some r => (s.pieceLanes c x).foldl
      (fun t l => t.proposeBlow l r (s.pieceProposal i p c first last (.ofRow r)) s.reading) (s.freshPiece i)
  | none => if (s.placingTerms c).prec = 0 then s.freshPiece i else (s.pieceLanes c x).foldl
      (fun t l => t.proposeOrLate l (s.pieceProposal i p c first last .guard) s.reading) (s.freshPiece i)

theorem State.placePiece_eq : s.placePiece i p c first last x =
    s.judgeChanged ((s.proposedPiece i p c first last x).completeIfDone i) := rfl

theorem nodup_lanesOver (a b : Nat) : (lanesOver a b).Nodup := (List.nodup_finRange 48).filter _

end Placement

section Proposed
variable {s : State} {i : Slot} {p : Piece} {c : Classification} {first last : Nat} {x : Run} {m : Lane} {r : Row}

theorem State.proposedPiece_of_row (hr : c.dest.row? = some r) : s.proposedPiece i p c first last x =
    (s.pieceLanes c x).foldl
      (fun t l => t.proposeBlow l r (s.pieceProposal i p c first last (.ofRow r)) s.reading) (s.freshPiece i) := by
  unfold State.proposedPiece
  rw [hr]

theorem State.proposedPiece_of_pass (hd : c.dest = .pass) (hprec : (s.placingTerms c).prec = 0) :
    s.proposedPiece i p c first last x = s.freshPiece i := by
  unfold State.proposedPiece
  rw [hd]
  exact if_pos hprec

theorem State.proposedPiece_of_guard (hd : c.dest = .pass) (hprec : (s.placingTerms c).prec ≠ 0) :
    s.proposedPiece i p c first last x = (s.pieceLanes c x).foldl
      (fun t l => t.proposeOrLate l (s.pieceProposal i p c first last .guard) s.reading) (s.freshPiece i) := by
  unfold State.proposedPiece
  rw [hd]
  exact if_neg hprec

/-- A placement's proposals leave the valves, the hand-offs and the lanes the piece does not cover. -/
theorem State.proposedPiece_frame : (s.proposedPiece i p c first last x).vdr = s.vdr ∧
    (s.proposedPiece i p c first last x).lsc.handoffs = s.lsc.handoffs ∧
    ∀ m, m ∉ s.pieceLanes c x → (s.proposedPiece i p c first last x).lane m = s.lane m := by
  unfold State.proposedPiece
  split
  · next r _ => exact State.foldl_edits (fun t l => t.proposeBlow_edits l r _ _) _ (s.freshPiece i)
  · split_ifs
    · exact ⟨rfl, rfl, fun _ _ => rfl⟩
    · exact State.foldl_edits (fun t l => t.proposeOrLate_edits l _ _) _ (s.freshPiece i)

theorem State.proposedPiece_steady : (s.proposedPiece i p c first last x).steady = s.steady := by
  unfold State.proposedPiece
  split
  · exact State.foldl_steady _ (fun t l => t.proposeBlow_steady l _ _ _) _ _
  · split_ifs
    · rfl
    · exact State.foldl_steady _ (fun t l => t.proposeOrLate_steady l _ _) _ _

/-- A covered lane gets the proposal of a piece to be blown as the lane stood. -/
theorem State.proposedPiece_lane_of_row (hr : c.dest.row? = some r) (hm : m ∈ s.pieceLanes c x) : ∃ t : State,
    t.lane m = s.lane m ∧ t.valve m r = s.valve m r ∧ (s.proposedPiece i p c first last x).lane m =
      (t.proposeBlow m r (s.pieceProposal i p c first last (.ofRow r)) s.reading).lane m := by
  obtain ⟨t, hlane, hvdr, -, h⟩ := State.foldl_edits_lane
    (op := fun t l => t.proposeBlow l r (s.pieceProposal i p c first last (.ofRow r)) s.reading)
    (fun t l => t.proposeBlow_edits l r _ _) (fun t l => t.proposeBlow_steady l r _ _) (nodup_lanesOver _ _) hm
    (s.freshPiece i)
  refine ⟨t, hlane, ?_, State.proposedPiece_of_row hr ▸ h⟩
  simp only [State.valve, hvdr]
  rfl

/-- A covered lane gets the GUARD proposal as the lane stood. -/
theorem State.proposedPiece_lane_of_guard (hd : c.dest = .pass) (hprec : (s.placingTerms c).prec ≠ 0)
    (hm : m ∈ s.pieceLanes c x) : ∃ t : State, t.lane m = s.lane m ∧ (s.proposedPiece i p c first last x).lane m =
      (t.proposeOrLate m (s.pieceProposal i p c first last .guard) s.reading).lane m := by
  obtain ⟨t, hlane, -, -, h⟩ := State.foldl_edits_lane
    (op := fun t l => t.proposeOrLate l (s.pieceProposal i p c first last .guard) s.reading)
    (fun t l => t.proposeOrLate_edits l _ _) (fun t l => t.proposeOrLate_steady l _ _) (nodup_lanesOver _ _) hm
    (s.freshPiece i)
  exact ⟨t, hlane, State.proposedPiece_of_guard hd hprec ▸ h⟩

end Proposed

/-! ### A placement with its judgments -/

section Placed
variable {s : State} {i : Slot} {p : Piece} {c : Classification} {first last : Nat} {x : Run} {m : Lane}

theorem State.proposedDone_lane : ((s.proposedPiece i p c first last x).completeIfDone i).lane =
    (s.proposedPiece i p c first last x).lane := State.lane_congr (State.completeIfDone_lsc _ i)

theorem State.proposedDone_valve (m : Lane) (q : Row) :
    ((s.proposedPiece i p c first last x).completeIfDone i).valve m q = s.valve m q := by
  simp only [State.valve, State.completeIfDone_vdr, State.proposedPiece_frame.1]

theorem State.proposedDone_steady :
    ((s.proposedPiece i p c first last x).completeIfDone i).steady = s.steady :=
  (State.completeIfDone_steady _ i).trans State.proposedPiece_steady

theorem State.placePiece_handoffs : (s.placePiece i p c first last x).lsc.handoffs = s.lsc.handoffs := by
  rw [State.placePiece_eq, State.judgeChanged_handoffs, State.completeIfDone_lsc, State.proposedPiece_frame.2.1]

/-- A lane that the proposals left stands. -/
theorem State.placePiece_same (h : (s.proposedPiece i p c first last x).lane m = s.lane m) :
    (s.placePiece i p c first last x).lane m = s.lane m ∧
      ∀ q, (s.placePiece i p c first last x).valve m q = s.valve m q := by
  have hdone := (congrFun State.proposedDone_lane m).trans h
  obtain ⟨hlane, hvalve⟩ := State.judgeChanged_of_same hdone
  exact ⟨hlane.trans hdone, fun q => (hvalve q).trans (State.proposedDone_valve m q)⟩

/-- A lone PENDING entry ahead of both its triggers stands. -/
theorem State.placePiece_ahead {e : Entry} (h : (s.proposedPiece i p c first last x).lane m = [e])
    (hpending : e.active = false) (hopen : s.bpu.pos + s.vdr.leadOpen < e.start)
    (hclose : s.bpu.pos + s.vdr.leadClose < e.stop) : (s.placePiece i p c first last x).lane m = [e] ∧
      ∀ q, (s.placePiece i p c first last x).valve m q = s.valve m q := by
  have hdone := (congrFun State.proposedDone_lane m).trans h
  obtain ⟨hpos, hleadOpen, hleadClose⟩ := State.pos_congr
    (State.proposedDone_steady (s := s) (i := i) (p := p) (c := c) (first := first) (last := last) (x := x))
  obtain ⟨hlane, hvalve⟩ := State.judgeChanged_of_ahead (b := s) hdone hpending (by rwa [hpos, hleadOpen])
    (by rwa [hpos, hleadClose])
  exact ⟨hlane.trans hdone, fun q => (hvalve q).trans (State.proposedDone_valve m q)⟩

/-- A lone GUARD entry in a lane that was empty stands: no valve's row changed. -/
theorem State.placePiece_guard {e : Entry} (h : (s.proposedPiece i p c first last x).lane m = [e])
    (hrow : e.row = .guard) (hempty : s.lane m = []) : (s.placePiece i p c first last x).lane m = [e] ∧
      ∀ q, (s.placePiece i p c first last x).valve m q = s.valve m q := by
  have hdone := (congrFun State.proposedDone_lane m).trans h
  have hnone (r : Row) : e.inRow r = false := by
    cases r <;> simp [Entry.inRow, hrow, EntryRow.ofRow]
  obtain ⟨hlane, hvalve⟩ := State.judgeChanged_quiet (b := s) (m := m)
    (s := (s.proposedPiece i p c first last x).completeIfDone i)
    fun r => .inl (by simp [State.rowEntries, hempty, hdone, hnone])
  exact ⟨hlane.trans hdone, fun q => (hvalve q).trans (State.proposedDone_valve m q)⟩

/-- The tallies of a piece to be blown, where it still holds its slot (R126, R127). -/
theorem State.placePiece_tallies {q : Piece} {r : Row} (hr : c.dest.row? = some r)
    (hq : (s.placePiece i p c first last x).piece i = some q) :
    q.tallies.planned = (if (s.pieceProposal i p c first last (.ofRow r)).start <
        (s.pieceProposal i p c first last (.ofRow r)).stop then
      ((s.pieceLanes c x).filter fun l => (s.valve l r).available).length else 0) ∧
    q.tallies.dropUnavailable = ((s.pieceLanes c x).filter fun l => !(s.valve l r).available).length := by
  have hproposed := State.proposeBlows_plans (i := i) (n := s.pieceProposal i p c first last (.ofRow r)) rfl r s.reading
    (s.pieceLanes c x) (s.freshPiece i)
  rw [← State.proposedPiece_of_row hr] at hproposed
  have hjudged := (State.completeIfDone_plans (i := i) (s := s.proposedPiece i p c first last x) i).trans
    (State.judgeChanged_plans s)
  obtain ⟨o, ho, hplanned, hdropped⟩ := hproposed.add hjudged q hq
  rw [State.freshPiece, State.piece_updatePiece_self] at ho
  obtain ⟨o, -, rfl⟩ := Option.map_eq_some_iff.mp ho
  exact ⟨hplanned.trans (Nat.zero_add _), hdropped.trans (Nat.zero_add _)⟩

/-- A covered lane whose valve is out of service stands, and so does each where the window is beyond reach. -/
theorem State.placePiece_left {r : Row} (hr : c.dest.row? = some r) (h : (s.valve m r).available = false ∨
      (s.pieceProposal i p c first last (.ofRow r)).stop ≤ (s.pieceProposal i p c first last (.ofRow r)).start) :
    (s.placePiece i p c first last x).lane m = s.lane m := by
  refine (State.placePiece_same ?_).1
  by_cases hm : m ∈ s.pieceLanes c x
  · obtain ⟨t, hlane, hvalve, hproposed⟩ :=
      State.proposedPiece_lane_of_row (i := i) (p := p) (first := first) (last := last) hr hm
    refine hproposed.trans (Eq.trans ?_ hlane)
    unfold State.proposeBlow
    rw [hvalve]
    split_ifs with hv
    · rw [State.proposeOrLate_of_late (h.resolve_left (by simp [hv]))]
    · rw [State.lane_congr (State.tallyOwner_lsc _ _ _)]
  · exact State.proposedPiece_frame.2.2 m hm

/-- An empty covered lane with its valve available holds the whole window, where it is neither late nor short. -/
theorem State.placePiece_blown {r : Row} {n : Proposal} (hn : n = s.pieceProposal i p c first last (.ofRow r))
    (hr : c.dest.row? = some r) (hm : m ∈ s.pieceLanes c x) (hv : (s.valve m r).available = true)
    (hempty : s.lane m = []) (hopen : s.bpu.pos + s.vdr.leadOpen < n.start)
    (hclose : s.bpu.pos + s.vdr.leadClose < n.stop) (hreach : n.start < n.stop)
    (hlong : s.own .minPulse ≤ n.stop - n.start) :
    (s.placePiece i p c first last x).lane m = [n.whole.entry n] ∧
      ∀ q, (s.placePiece i p c first last x).valve m q = s.valve m q := by
  obtain ⟨t, hlane, hvalve, h⟩ :=
    State.proposedPiece_lane_of_row (i := i) (p := p) (first := first) (last := last) hr hm
  have hrow : n.row ≠ .guard := by
    rw [hn]
    cases r <;> nofun
  have hplaced := State.proposeOrLate_of_empty (rd := s.reading) (hlane.trans hempty) hreach hlong
    (Fragment.judged_early hrow hopen)
  unfold State.proposeBlow at h
  rw [hvalve, if_pos hv, ← hn, hplaced] at h
  exact State.placePiece_ahead h rfl hopen hclose

/-- An empty covered lane holds the whole GUARD window, where it is neither late nor short. -/
theorem State.placePiece_guarded {n : Proposal} (hn : n = s.pieceProposal i p c first last .guard)
    (hd : c.dest = .pass) (hprec : (s.placingTerms c).prec ≠ 0) (hm : m ∈ s.pieceLanes c x) (hempty : s.lane m = [])
    (hpos : s.bpu.pos < n.stop) (hreach : n.start < n.stop) (hlong : s.own .minPulse ≤ n.stop - n.start) :
    (s.placePiece i p c first last x).lane m = [n.whole.entry n] ∧
      ∀ q, (s.placePiece i p c first last x).valve m q = s.valve m q := by
  obtain ⟨t, hlane, h⟩ :=
    State.proposedPiece_lane_of_guard (i := i) (p := p) (first := first) (last := last) hd hprec hm
  have hjudged : n.whole.judged n.row s.reading = some n.whole := by
    rw [hn]
    exact if_neg (Nat.not_le_of_lt (hn ▸ hpos))
  have hplaced := State.proposeOrLate_of_empty (rd := s.reading) (hlane.trans hempty) hreach hlong hjudged
  rw [← hn, hplaced] at h
  exact State.placePiece_guard h (by rw [hn]; rfl) hempty

end Placed

/-! ### The command -/

/-- PLACE_PIECE places the piece of the oldest hand-off of its source. -/
theorem exec_placePiece_of_first {s : State} {src : HandoffSource} {older rest : List Handoff} {i : Slot} {p : Piece}
    {c : Classification} {f l : SeqNo × Nat} {x : Run} (hs : s.lsc.handoffs = older ++ .piece src i :: rest)
    (hfirst : ∀ h ∈ older, h.isFrom src = false) (hp : s.piece i = some p) (hphase : p.phase = .scheduled)
    (hc : p.classed = some c) (hf : p.first = some f) (hl : p.last = some l) (hx : p.extent = some x) :
    exec (.placePiece src) s =
      .next (State.placePiece i p c f.2 l.2 x { s with lsc.handoffs := older ++ rest }) := by
  have hfrom : (Handoff.piece src i).isFrom src = true := by simp [Handoff.isFrom]
  have hground : p.ground = some (c, f.2, l.2, x) := by simp [Piece.ground, hc, hf, hl, hx]
  change execPlacePiece src s = _
  unfold execPlacePiece
  rw [State.oldestHandoff_of_first hs hfirst hfrom]
  simp only [hp, hground, hphase, if_true, State.dropHandoff_of_first hs hfirst hfrom]

theorem State.placingTerms_eq (s : State) (c : Classification) : s.placingTerms c = { c.terms with
    lead := if c.cls = .overflow then s.own .ovfMargin else c.terms.lead
    trail := if c.cls = .overflow then s.own .ovfMargin else c.terms.trail } := by
  unfold State.placingTerms
  split_ifs <;> rfl

/-- The rule of one proposal, its steps written out (R131, R136, R137, R139). -/
theorem State.propose_eq (s : State) (m : Lane) (n : Proposal) (rd : Reading) : s.propose m n rd =
    ((((s.lane m).filter fun e => e.start < n.stop ∧ n.start < e.stop).foldl
      (fun (a : List Fragment × State) e => a.2.meetEntry m n e a.1) ([n.whole], s)).1.filter
        fun f => rd.minPulse ≤ f.stop - f.start).foldl (fun t f => t.settleFragment m n rd f)
      (((s.lane m).filter fun e => e.start < n.stop ∧ n.start < e.stop).foldl
        (fun (a : List Fragment × State) e => a.2.meetEntry m n e a.1) ([n.whole], s)).2 := by
  have hoverlaps : (fun e : Entry => e.overlaps n.start n.stop) =
      fun e => decide (e.start < n.stop ∧ n.start < e.stop) := by
    funext e
    simp [Entry.overlaps]
  unfold State.propose
  dsimp only
  rw [State.meetEntries_eq, hoverlaps]
  rfl

/-- Settles O35: the command is the placement of the piece its oldest hand-off names, of which the lemmas above say what
each lane comes to. -/
theorem pieceIsPlaced : Obligations.PieceIsPlaced := by
  unfold Obligations.PieceIsPlaced
  refine ⟨fun s m n rd => State.propose_eq s m n rd, ?_⟩
  intro s src older rest i p c f l x hs hfirst hp hphase hc hf hl hx lead trail start stop covered entry rd proposal
    proposed lanes u fresh placed done
  have hterms : u.placingTerms c = { c.terms with lead := lead, trail := trail } := State.placingTerms_eq u c
  have hproposal (row : EntryRow) : proposal row = u.pieceProposal i p c f.2 l.2 row := by
    unfold State.pieceProposal
    rw [hterms]
    rfl
  have hlanes : lanes = u.pieceLanes c x := by
    unfold State.pieceLanes
    rw [hterms]
    rfl
  have hcovered (m : Lane) : covered m = true ↔ m ∈ u.pieceLanes c x := by
    rw [← hlanes]
    simp [lanes]
  have hprec : (u.placingTerms c).prec = c.terms.prec := by rw [hterms]
  have hfresh : fresh = u.freshPiece i := 
    (State.updatePiece_of_piece (s := u) hp fun q => { q with tallies := {}, pendingEntries := 0 }).symm
  have hplaced : placed = u.proposedPiece i p c f.2 l.2 x := by
    unfold State.proposedPiece
    rw [hprec, ← hlanes, ← hfresh]
    simp only [← hproposal]
    rfl
  have hexec : exec (.placePiece src) s = .next (u.placePiece i p c f.2 l.2 x) :=
    exec_placePiece_of_first hs hfirst hp hphase hc hf hl hx
  have hdone : (u.placePiece i p c f.2 l.2 x) = u.judgeChanged done := by
    rw [State.placePiece_eq, ← hplaced]
  have hreach : done.openReach = s.bpu.pos + s.vdr.leadOpen := by
    rw [show done = (u.proposedPiece i p c f.2 l.2 x).completeIfDone i by rw [← hplaced],
      State.openReach_congr State.proposedDone_steady]
    rfl
  refine ⟨?fold, ?pass, _, hexec, State.placePiece_steady _ _ _ _ _ _ _, State.placePiece_handoffs, ?uncovered,
    ?blown, ?guarded, ?left, ?tallies⟩
  case fold =>
    rw [hexec, hdone, ← hreach]
    rfl
  case pass =>
    intro hd hnone
    have hpassed : placed = fresh := by
      rw [hplaced, hfresh, State.proposedPiece_of_pass hd (hprec.trans hnone)]
    have hcomplete : done = fresh.complete i := by
      have hpiece : fresh.piece i = some { p with tallies := {}, pendingEntries := 0 } := by
        rw [hfresh, State.freshPiece, State.piece_updatePiece_self]
        exact congrArg (Option.map _) hp
      change placed.completeIfDone i = _
      rw [hpassed]
      unfold State.completeIfDone
      rw [hpiece]
      exact if_pos ⟨hphase, rfl⟩
    have hstands : done.lane = u.lane := by
      refine (State.lane_congr (State.completeIfDone_lsc _ i)).trans ?_
      rw [hpassed, hfresh]
      rfl
    rw [hexec, hdone, State.judgeChanged_of_unchanged hstands, hcomplete]
  case uncovered =>
    intro m hm
    exact State.placePiece_same (State.proposedPiece_frame.2.2 m (by simp [← hcovered, hm]))
  case blown =>
    intro m r hm hr hv hempty hopen hclose hne hlong
    exact State.placePiece_blown (hproposal (.ofRow r)) hr ((hcovered m).mp hm) hv hempty hopen hclose hne hlong
  case guarded =>
    intro m hm hd hpos hempty hend hne hlong
    exact State.placePiece_guarded (hproposal .guard) hd (by omega) ((hcovered m).mp hm) hempty hend hne hlong
  case left =>
    intro m r hr h
    refine State.placePiece_left hr (h.imp_right fun hlate => ?_)
    rwa [← hproposal]
  case tallies =>
    intro q r hq hr
    obtain ⟨hplanned, hdropped⟩ := State.placePiece_tallies hr hq
    have hcount (g : Lane → Bool) :
        (u.pieceLanes c x).filter g = (List.finRange 48).filter fun m => covered m && g m := by
      rw [← hlanes, List.filter_filter]
      simp only [Bool.and_comm]
    rw [← hproposal, hcount] at hplanned
    rw [hcount] at hdropped
    exact ⟨hplanned, hdropped⟩

end Sys2Proof.Machine
end

section
/-! O36: untracked runs extend anonymous entries or become new ones (R141 to R144, R150). -/
-- One proof at a time: elaborated side by side, the proofs take more stacks than the check's memory holds.
set_option Elab.async false
namespace Sys2Proof.Machine

/-! ### The last entry of a row and the entry that follows it -/

section Last
variable {s : State} {l : Lane} {r : Row} {e n : Entry} {a b : Nat} {rd : Reading}

theorem State.start_le_of_lastInRow (h : laneSound (s.lane l)) (hlast : s.lastInRow l r = some e) {x : Entry}
    (hx : x ∈ s.lane l) (hrow : x.row = .ofRow r) : x.start ≤ e.start := by
  obtain ⟨before, hrows⟩ := List.getLast?_eq_some_iff.mp hlast
  have hstarts : (before ++ [e]).Pairwise fun y z => y.start < z.start := hrows ▸ h.starts.filter _
  have hmem : x ∈ before ++ [e] := hrows ▸ State.mem_rowEntries.mpr ⟨hx, hrow⟩
  obtain hx | hx := List.mem_append.mp hmem
  · exact Nat.le_of_lt ((List.pairwise_append.mp hstarts).2.2 x hx e List.mem_cons_self)
  · rw [List.mem_singleton.mp hx]

/-- The last entry of a row is the one with the greatest start. -/
theorem State.lastInRow_eq_some (h : laneSound (s.lane l)) : s.lastInRow l r = some e ↔
    e ∈ s.lane l ∧ e.row = .ofRow r ∧ ∀ x ∈ s.lane l, x.row = .ofRow r → x.start ≤ e.start := by
  constructor
  · intro hlast
    obtain ⟨he, hrow⟩ := s.mem_of_lastInRow hlast
    exact ⟨he, hrow, fun x hx hxrow => State.start_le_of_lastInRow h hlast hx hxrow⟩
  · rintro ⟨he, hrow, hgreatest⟩
    cases hlast : s.lastInRow l r with
    | none =>
      have hmem : e ∈ s.rowEntries l r := State.mem_rowEntries.mpr ⟨he, hrow⟩
      rw [List.getLast?_eq_none_iff.mp hlast] at hmem
      cases hmem
    | some z =>
      obtain ⟨hz, hzrow⟩ := s.mem_of_lastInRow hlast
      have hsame := Nat.le_antisymm (hgreatest z hz hzrow) (State.start_le_of_lastInRow h hlast he hrow)
      rw [h.eq_of_start hz he hsame]

theorem State.extendedTo_of_last (h : ∀ x ∈ s.lane l, x.start ≤ e.start) (b : Nat) :
    s.extendedTo l e b = max e.stop b := by
  have hnone : nextAfter (s.lane l) e = none := List.find?_eq_none.mpr fun x hx => by simpa using h x hx
  rw [State.extendedTo, State.extendLimit, hnone]

theorem State.extendedTo_of_follower (h : laneSound (s.lane l)) (hn : n ∈ s.lane l) (hlater : e.start < n.start)
    (hfirst : ∀ x ∈ s.lane l, e.start < x.start → n.start ≤ x.start) (b : Nat) :
    s.extendedTo l e b = max e.stop (min b n.start) := by
  rw [State.extendedTo, State.extendLimit]
  cases hnext : nextAfter (s.lane l) e with
  | none => exact absurd (List.find?_eq_none.mp hnext n hn) (by simpa using hlater)
  | some x =>
    have hx : x ∈ s.lane l := List.mem_of_find?_eq_some hnext
    have hxlater : e.start < x.start := by simpa using List.find?_some hnext
    have hsame := Nat.le_antisymm (h.nextAfter_le hnext hn hlater) (hfirst x hx hxlater)
    simp only [hsame]

/-- A window that the last entry of the row reaches, where that has no owner, extends it (R142). -/
theorem State.placeOverflow_of_last (hlast : s.lastInRow l r = some e) (ho : e.owner = none) (hreach : a ≤ e.stop) :
    s.placeOverflow l r a b rd = if s.extendedTo l e b < b then
        (s.extend l e (s.extendedTo l e b)).propose l (.anonymous r (s.extendedTo l e b) b) rd
      else s.extend l e (s.extendedTo l e b) := by
  obtain ⟨hnot, -⟩ | ⟨x, hx, -, -, h⟩ := s.placeOverflow_cases l r a b rd
  · obtain h | h := hnot e hlast
    · exact absurd ho h
    · exact absurd hreach (Nat.not_le_of_lt h)
  · obtain rfl : e = x := Option.some.inj (hlast.symm.trans hx)
    exact h

/-- Any other window is proposed as it is (R142). -/
theorem State.placeOverflow_of_not_last (h : ∀ e, s.lastInRow l r = some e → e.owner ≠ none ∨ e.stop < a) :
    s.placeOverflow l r a b rd = s.propose l (.anonymous r a b) rd := by
  obtain ⟨-, hplace⟩ | ⟨e, hlast, ho, hreach, -⟩ := s.placeOverflow_cases l r a b rd
  · exact hplace
  · obtain h | h := h e hlast
    · exact absurd ho h
    · exact absurd hreach (Nat.not_le_of_lt h)

end Last

/-! ### A line's untracked runs -/

section Untracked
variable (s : State) (r : Row) (a b : Nat) (runs : List Run)

/-- The lanes that untracked runs cover (R141). -/
def untrackedLanes : List Lane :=
  (List.finRange 48).filter fun l => runs.any fun x => decide (x.left / 2 ≤ l.val) && decide (l.val ≤ x.right / 2)

/-- What one covered lane comes to under a row and window (R141). -/
def State.placeWindow (l : Lane) (rd : Reading) (s : State) : State :=
  if (s.valve l r).available then
    if a < b then s.placeOverflow l r a b rd else s.count .droppedLate 1
  else s

/-- Untracked runs placed into every lane they cover, before the judgments. -/
def State.placeWindows : State :=
  (untrackedLanes runs).foldl (fun t l => t.placeWindow r a b l s.reading) s

/-- The start of the window of untracked runs (R141). -/
def State.untrackedStart (first : Nat) : Nat := first + s.own .barOffset - s.own .ovfMargin

/-- The end of the window of untracked runs (R141). -/
def State.untrackedStop (last : Nat) : Nat := capPos (last + s.own .barOffset + s.own .ovfMargin)

end Untracked

section Window
variable {s : State} {r : Row} {a b : Nat} {l m : Lane} {runs : List Run} {rd : Reading}

theorem State.placeUntracked_of_row (h : (Dest.ofCode (s.own .overflowDest)).row? = some r) (a b : Nat)
    (runs : List Run) : s.placeUntracked a b runs =
      s.judgeChanged (s.placeWindows r (s.untrackedStart a) (s.untrackedStop b) runs) := by
  unfold State.placeUntracked
  rw [h]
  rfl

theorem State.placeUntracked_of_pass (h : (Dest.ofCode (s.own .overflowDest)).row? = none) (a b : Nat)
    (runs : List Run) : s.placeUntracked a b runs = s := by
  unfold State.placeUntracked
  rw [h]

theorem State.placeWindow_edits (s : State) (r : Row) (a b : Nat) (l : Lane) (rd : Reading) :
    s.Edits l (s.placeWindow r a b l rd) := by
  unfold State.placeWindow
  split_ifs
  · exact s.placeOverflow_edits l r a b rd
  · exact .of_parts rfl rfl
  · exact .refl s

theorem State.placeWindow_steady (s : State) (r : Row) (a b : Nat) (l : Lane) (rd : Reading) :
    (s.placeWindow r a b l rd).steady = s.steady := by
  unfold State.placeWindow
  split_ifs
  · exact s.placeOverflow_steady l r a b rd
  · rfl
  · rfl

theorem State.placeWindows_steady : (s.placeWindows r a b runs).steady = s.steady :=
  State.foldl_steady _ (fun t l => t.placeWindow_steady r a b l _) _ _

theorem State.placeWindows_frame : (s.placeWindows r a b runs).vdr = s.vdr ∧
    (s.placeWindows r a b runs).lsc.handoffs = s.lsc.handoffs ∧
    ∀ m, m ∉ untrackedLanes runs → (s.placeWindows r a b runs).lane m = s.lane m :=
  State.foldl_edits (fun t l => t.placeWindow_edits r a b l _) _ s

/-- A covered lane gets the window as the lane stood. -/
theorem State.placeWindows_lane (hm : m ∈ untrackedLanes runs) : ∃ t : State, t.lane m = s.lane m ∧
    t.valve m r = s.valve m r ∧ (s.placeWindows r a b runs).lane m = (t.placeWindow r a b m s.reading).lane m := by
  obtain ⟨t, hlane, hvdr, -, h⟩ := State.foldl_edits_lane (op := fun t l => t.placeWindow r a b l s.reading)
    (fun t l => t.placeWindow_edits r a b l _) (fun t l => t.placeWindow_steady r a b l _)
    ((List.nodup_finRange 48).filter _) hm s
  exact ⟨t, hlane, by simp only [State.valve, hvdr], h⟩

/-- Where the valve is out of service or the window beyond reach, the lane is left. -/
theorem State.placeWindow_left (h : (s.valve l r).available = false ∨ b ≤ a) :
    (s.placeWindow r a b l rd).lane = s.lane := by
  unfold State.placeWindow
  split_ifs with hv hab
  · obtain h | h := h
    · simp [hv] at h
    · exact absurd hab (Nat.not_lt_of_le h)
  · rfl
  · rfl

theorem State.placeWindow_of_available (hv : (s.valve l r).available = true) (hab : a < b) :
    s.placeWindow r a b l rd = s.placeOverflow l r a b rd :=
  (if_pos hv).trans (if_pos hab)

/-- An empty lane takes the whole window, where it is neither late nor short. -/
theorem State.placeOverflow_of_empty (hempty : s.lane l = []) (hopen : rd.pos + rd.leadOpen < a)
    (hlong : rd.minPulse ≤ b - a) : (s.placeOverflow l r a b rd).lane l =
      [(Proposal.anonymous r a b).whole.entry (Proposal.anonymous r a b)] := by
  have hlast : s.lastInRow l r = none := by simp [State.lastInRow, State.rowEntries, hempty]
  have hrow : (Proposal.anonymous r a b).row ≠ .guard := by cases r <;> nofun
  rw [State.placeOverflow_of_not_last (by simp [hlast])]
  exact State.propose_of_empty hempty hlong (Fragment.judged_early hrow hopen)

/-- A lone anonymous entry that the window reaches is extended to the window's end. -/
theorem State.placeOverflow_of_lone {e : Entry} (hlane : s.lane l = [e]) (hrow : e.row = .ofRow r)
    (ho : e.owner = none) (hreach : a ≤ e.stop) (hstop : e.stop ≤ b) :
    (s.placeOverflow l r a b rd).lane l = [{ e with stop := b }] := by
  have hlast : s.lastInRow l r = some e := by simp [State.lastInRow, State.rowEntries, hlane, Entry.inRow, hrow]
  have hfar : s.extendedTo l e b = b :=
    (State.extendedTo_of_last (by simp [hlane]) b).trans (Nat.max_eq_right hstop)
  rw [State.placeOverflow_of_last hlast ho hreach, hfar, if_neg (Nat.lt_irrefl b), State.extend,
    State.lane_setLane_self, hlane]
  simp [exchange]

end Window

/-! ### The windows with their judgments -/

section Placed
variable {s : State} {a b : Nat} {m : Lane} {runs : List Run}

theorem State.placeUntracked_handoffs (a b : Nat) (runs : List Run) :
    (s.placeUntracked a b runs).lsc.handoffs = s.lsc.handoffs := by
  cases hr : (Dest.ofCode (s.own .overflowDest)).row? with
  | none => rw [State.placeUntracked_of_pass hr]
  | some r => rw [State.placeUntracked_of_row hr, State.judgeChanged_handoffs, State.placeWindows_frame.2.1]

theorem State.placeWindows_valve (r : Row) (m : Lane) (q : Row) :
    (s.placeWindows r a b runs).valve m q = s.valve m q := by
  simp only [State.valve, State.placeWindows_frame.1]

/-- A lane that the runs do not cover stands. -/
theorem State.placeUntracked_uncovered (hm : m ∉ untrackedLanes runs) :
    (s.placeUntracked a b runs).lane m = s.lane m ∧ ∀ q, (s.placeUntracked a b runs).valve m q = s.valve m q := by
  cases hr : (Dest.ofCode (s.own .overflowDest)).row? with
  | none => simp [State.placeUntracked_of_pass hr]
  | some r =>
    have hsame := (State.placeWindows_frame (s := s) (r := r) (a := s.untrackedStart a)
      (b := s.untrackedStop b)).2.2 m hm
    obtain ⟨hlane, hvalve⟩ := State.judgeChanged_of_same hsame
    rw [State.placeUntracked_of_row hr]
    exact ⟨hlane.trans hsame, fun q => (hvalve q).trans (State.placeWindows_valve r m q)⟩

variable {r : Row} (hr : (Dest.ofCode (s.own .overflowDest)).row? = some r)
include hr

/-- A lane stands where its valve is out of service or the window is beyond reach. -/
theorem State.placeUntracked_left (hm : m ∈ untrackedLanes runs)
    (h : (s.valve m r).available = false ∨ s.untrackedStop b ≤ s.untrackedStart a) :
    (s.placeUntracked a b runs).lane m = s.lane m := by
  obtain ⟨t, hlane, hvalve, hwindow⟩ :=
    State.placeWindows_lane (s := s) (r := r) (a := s.untrackedStart a) (b := s.untrackedStop b) hm
  have hsame := (hwindow.trans (congrFun (State.placeWindow_left (hvalve ▸ h)) m)).trans hlane
  rw [State.placeUntracked_of_row hr]
  exact (State.judgeChanged_of_same hsame).1.trans hsame

/-- A lane that the window leaves with one PENDING entry ahead of both its triggers stands as the window left it. -/
theorem State.placeUntracked_ahead {e : Entry} (hm : m ∈ untrackedLanes runs) (hv : (s.valve m r).available = true)
    (hwindow : s.untrackedStart a < s.untrackedStop b)
    (hplaced : ∀ t : State, t.lane m = s.lane m →
      (t.placeOverflow m r (s.untrackedStart a) (s.untrackedStop b) s.reading).lane m = [e])
    (hpending : e.active = false) (hopen : s.bpu.pos + s.vdr.leadOpen < e.start)
    (hclose : s.bpu.pos + s.vdr.leadClose < e.stop) : (s.placeUntracked a b runs).lane m = [e] := by
  obtain ⟨t, hlane, hvalve, h⟩ :=
    State.placeWindows_lane (s := s) (r := r) (a := s.untrackedStart a) (b := s.untrackedStop b) hm
  rw [State.placeWindow_of_available (hvalve ▸ hv) hwindow, hplaced t hlane] at h
  obtain ⟨hpos, hleadOpen, hleadClose⟩ := State.pos_congr (State.placeWindows_steady (s := s) (r := r)
    (a := s.untrackedStart a) (b := s.untrackedStop b) (runs := runs))
  rw [State.placeUntracked_of_row hr]
  exact (State.judgeChanged_of_ahead h hpending (by rwa [hpos, hleadOpen]) (by rwa [hpos, hleadClose])).1.trans h

end Placed

/-! ### The command -/

theorem Dest.row?_ofCode_of_row (r : Row) : (Dest.ofCode (if r = .up then 0 else 1)).row? = some r := by
  cases r <;> rfl

theorem Dest.row?_ofCode_of_pass {n : Nat} (h : 2 ≤ n) : (Dest.ofCode n).row? = none := by
  match n, h with
  | n + 2, _ => rfl

/-- PLACE_UNTRACKED places the runs of the segmenter's oldest hand-off. -/
theorem exec_placeUntracked_of_first {s : State} {older rest : List Handoff} {q : SeqNo} {a b : Nat} {runs : List Run}
    (hs : s.lsc.handoffs = older ++ .untracked q a b runs :: rest)
    (hfirst : ∀ h ∈ older, h.isFrom .segmenter = false) :
    exec .placeUntracked s = .next (State.placeUntracked a b runs { s with lsc.handoffs := older ++ rest }) := by
  change execPlaceUntracked s = _
  unfold execPlaceUntracked
  rw [State.oldestHandoff_of_first hs hfirst rfl]
  simp only [State.dropHandoff_of_first hs hfirst rfl]

/-- Settles O36: the window of one lane by the last entry of its row, the command lane by lane and through the judgments
that end it. -/
theorem untrackedRunsArePlaced : Obligations.UntrackedRunsArePlaced := by
  unfold Obligations.UntrackedRunsArePlaced
  refine ⟨?window, ?command⟩
  case window =>
    intro s m r ws we rd hsound last rest follows
    have hlast (e : Entry) : last e ↔ s.lastInRow m r = some e := (State.lastInRow_eq_some hsound).symm
    refine ⟨fun e far he ho hreach hfar => ?_, fun h => ?_⟩
    · have hextended : s.extendedTo m e we = far := by
        obtain ⟨hnone, rfl⟩ | ⟨n, ⟨hn, hlater, hfirst⟩, rfl⟩ := hfar
        · exact State.extendedTo_of_last hnone we
        · exact State.extendedTo_of_follower hsound hn hlater hfirst we
      rw [State.placeOverflow_of_last ((hlast e).mp he) ho hreach, hextended]
      rfl
    · exact State.placeOverflow_of_not_last fun e he => h e ((hlast e).mpr he)
  case command =>
    intro s older rest q a b runs hs hfirst ws we covered rd u
    have hexec : exec .placeUntracked s = .next (u.placeUntracked a b runs) := exec_placeUntracked_of_first hs hfirst
    have hcovered (m : Lane) : covered m = true ↔ m ∈ untrackedLanes runs := by simp [covered, untrackedLanes]
    have hrow {r : Row} (h : s.own .overflowDest = if r = .up then 0 else 1) :
        (Dest.ofCode (u.own .overflowDest)).row? = some r := by
      change (Dest.ofCode (s.own .overflowDest)).row? = some r
      rw [h, Dest.row?_ofCode_of_row]
    refine ⟨fun r h => ?fold, fun h => ?pass, _, hexec, State.placeUntracked_steady _ _ _ _,
      State.placeUntracked_handoffs _ _ _, fun m hm => ?uncovered, fun m r h hm => ?covered⟩
    case fold =>
      have hreach : (u.placeWindows r ws we runs).openReach = s.bpu.pos + s.vdr.leadOpen :=
        State.openReach_congr State.placeWindows_steady
      rw [hexec, State.placeUntracked_of_row (hrow h), ← hreach]
      rfl
    case pass =>
      have hcode : 2 ≤ u.own .overflowDest := h
      have hpass : u.placeUntracked a b runs = u :=
        State.placeUntracked_of_pass (Dest.row?_ofCode_of_pass hcode) a b runs
      rw [hexec, hpass]
    case uncovered =>
      exact State.placeUntracked_uncovered (by simp [← hcovered, hm])
    case covered =>
      have hm := (hcovered m).mp hm
      refine ⟨State.placeUntracked_left (hrow h) hm, ?empty, ?lone⟩
      case empty =>
        intro hv hne hopen hclose hlong hempty
        exact State.placeUntracked_ahead (hrow h) hm hv hne
          (fun t ht => State.placeOverflow_of_empty (ht.trans hempty) hopen hlong) rfl hopen hclose
      case lone =>
        intro e hv hne hlane her ho hpending hreach hstop hopen hclose
        exact State.placeUntracked_ahead (hrow h) hm hv hne
          (fun t ht => State.placeOverflow_of_lone (ht.trans hlane) her ho hreach hstop) hpending hopen
          (hclose.trans_le hstop)

end Sys2Proof.Machine
end

section
/-! PROOF. The retirement of an entry, the outcome of a piece and its completion (R163 to R165). -/
-- One proof at a time: elaborated side by side, the proofs take more stacks than the check's memory holds.
set_option Elab.async false
namespace Sys2Proof.Machine

/-! ### Counts that a notice raises -/

/-- The counts that the offer of a notice may raise (R194, R195). -/
def Counter.ofOffer : Counter → Bool
  | .suppressed => true
  | .noticesLost => true
  | .piecesLost => true
  | _ => false

section Counts
variable {s : State} {c : Counter} {i : Slot} {p : Piece}

theorem Counter.ne_of_ofOffer {d : Counter} (hc : c.ofOffer = false) (hd : d.ofOffer = true) : c ≠ d :=
  fun h => by simp [h, hd] at hc

theorem State.offer_get (hc : c.ofOffer = false) (n : Notice) : (s.offer n).sta.get c = s.sta.get c := by
  unfold State.offer
  split_ifs
  · exact s.get_count_of_ne (Counter.ne_of_ofOffer hc rfl) 1
  · rfl
  · exact s.get_count_of_ne (Counter.ne_of_ofOffer hc rfl) 1

theorem State.offerPiece_get (hc : c.ofOffer = false) (o : PieceOutcome) :
    (s.offerPiece p o).sta.get c = s.sta.get c := by
  unfold State.offerPiece
  split_ifs
  · exact s.get_count_of_ne (Counter.ne_of_ofOffer hc rfl) 1
  · exact s.get_count_of_ne (Counter.ne_of_ofOffer hc rfl) 1
  · rfl

theorem State.judgeDrained_get (hc : c.ofOffer = false) : s.judgeDrained.sta.get c = s.sta.get c := by
  unfold State.judgeDrained State.setEngine
  split_ifs
  · rfl
  · exact State.offer_get hc _
  · rfl

theorem State.freeSlot_get (hc : c.ofOffer = false) : (s.freeSlot i).sta.get c = s.sta.get c :=
  (State.judgeDrained_get hc).trans (by rw [State.releaseSlot_sta])

/-- One occupied slot less. -/
theorem State.releaseSlot_occupied (h : s.piece i = some p) : (s.releaseSlot i).occupied + 1 = s.occupied := by
  have hsame : (s.releaseSlot i).occupied = (s.endPiece .complete i).occupied := by
    unfold State.occupied
    simp only [State.piece_releaseSlot, State.piece_endPiece]
  have hends := s.endPiece_occupied .complete i
  rw [if_neg (by simp [h])] at hends
  rw [hsame, hends]

end Counts

/-! ### The outcome -/

theorem Tallies.noDrops_iff (g : Tallies) : g.noDrops = true ↔
    g.dropUnavailable + g.dropFull + g.dropLate + g.dropRecoverMiss + g.dropAirLost = 0 := by
  simp only [Tallies.noDrops, Bool.and_eq_true, beq_iff_eq]
  omega

/-- The table of R164, a sum for each row of zeros. -/
theorem Tallies.outcome_eq (g : Tallies) (d : Dest) : g.outcome d =
    if d = .pass ∧ g.planned = 0 then .notEjected
    else if g.trimmed + g.firedLate + g.truncated +
      (g.dropUnavailable + g.dropFull + g.dropLate + g.dropRecoverMiss + g.dropAirLost) = 0 then .complete
    else if d ≠ .pass ∧ g.fired + g.firedLate + g.truncated = 0 then .shortfall
    else .partialOutcome := by
  have hzero : (g.trimmed = 0 ∧ g.firedLate = 0 ∧ g.truncated = 0 ∧ g.noDrops = true) ↔
      g.trimmed + g.firedLate + g.truncated +
        (g.dropUnavailable + g.dropFull + g.dropLate + g.dropRecoverMiss + g.dropAirLost) = 0 := by
    rw [Tallies.noDrops_iff]
    omega
  have hfired : (d ≠ .pass ∧ g.fired = 0 ∧ g.firedLate = 0 ∧ g.truncated = 0) ↔
      d ≠ .pass ∧ g.fired + g.firedLate + g.truncated = 0 := and_congr_right fun _ => by omega
  unfold Tallies.outcome
  simp only [hzero, hfired]

/-! ### Retirement -/

section Retire
variable {s : State} {i : Slot} {num : PieceNo} {p : Piece}

/-- A piece that keeps entries stays, and one without any completes (R163). -/
theorem State.completeIfDone_of_scheduled (h : s.piece i = some p) (hphase : p.phase = .scheduled) :
    s.completeIfDone i = if p.pendingEntries = 0 then s.complete i else s := by
  unfold State.completeIfDone
  rw [h]
  exact if_congr (and_iff_right hphase) rfl rfl

/-- The retirement of an entry whose owner is SCHEDULED with it. -/
theorem State.retire_of_owner (l : Lane) {e : Entry} (reason : RetireReason) (ho : e.owner = some (i, num))
    (hp : s.piece i = some p) (hphase : p.phase = .scheduled) (hpending : 0 < p.pendingEntries) :
    let u := ((s.setLane l ((s.lane l).erase e)).count (.ofRetire reason) 1).setSlot i (some (p.retireOne reason))
    s.retire l e reason = if p.pendingEntries = 1 then u.complete i else u := by
  have htally : ((s.setLane l ((s.lane l).erase e)).count (.ofRetire reason) 1).tallyOwner e.owner
      (Piece.retireOne reason) =
        ((s.setLane l ((s.lane l).erase e)).count (.ofRetire reason) 1).setSlot i (some (p.retireOne reason)) := by
    rw [ho]
    exact State.updatePiece_of_piece (s := (s.setLane l _).count _ 1) hp _
  have hlast : (p.retireOne reason).pendingEntries = 0 ↔ p.pendingEntries = 1 := by
    show p.pendingEntries - 1 = 0 ↔ _
    omega
  unfold State.retire
  dsimp only
  rw [htally, ho]
  exact (State.completeIfDone_of_scheduled (p := p.retireOne reason) (State.piece_setSlot_self _ i _) hphase).trans
    (if_congr hlast rfl rfl)

end Retire

/-! ### Completion -/

section Complete
variable {s : State} {i : Slot} {p : Piece} {c : Classification}

/-- The report of a completed piece: its notice offered, or counted as suppressed (R165). -/
def State.reported (s : State) (p : Piece) (c : Classification) : State :=
  if c.terms.report then s.offerPiece p (p.tallies.outcome c.dest) else s.count .suppressed 1

theorem State.reported_parts (s : State) (p : Piece) (c : Classification) :
    (s.reported p c).seg = s.seg ∧ (s.reported p c).rcs = s.rcs ∧ (s.reported p c).eng = s.eng := by
  unfold State.reported
  split_ifs
  · exact ⟨s.offerPiece_seg p _, s.offerPiece_rcs p _, s.offerPiece_eng p _⟩
  · exact ⟨rfl, rfl, rfl⟩

theorem State.reported_get {d : Counter} (hd : d.ofOffer = false) : (s.reported p c).sta.get d = s.sta.get d := by
  unfold State.reported
  split_ifs
  · exact State.offerPiece_get hd _
  · exact s.get_count_of_ne (Counter.ne_of_ofOffer hd rfl) 1

/-- A classified piece completes: report, counts, and its slot freed (R164, R165). -/
theorem State.complete_of_classed (hp : s.piece i = some p) (hc : p.classed = some c) : s.complete i =
    (((s.reported p c).count (.ofClass c.cls) 1).count (.ofOutcome (p.tallies.outcome c.dest)) 1).freeSlot i := by
  unfold State.complete
  simp only [hp, hc]
  rfl

theorem State.complete_banks (hp : s.piece i = some p) (hc : p.classed = some c) :
    (s.complete i).rcs.banks = put s.rcs.banks p.bank (s.bank p.bank).unpin := by
  obtain ⟨hseg, hrcs, -⟩ := s.reported_parts p c
  have hslot : (((s.reported p c).count (.ofClass c.cls) 1).count
      (.ofOutcome (p.tallies.outcome c.dest)) 1).piece i = some p := by
    exact (congrFun (State.piece_congr hseg) i).trans hp
  rw [State.complete_of_classed hp hc, State.freeSlot, State.judgeDrained_rcs, State.releaseSlot_of_piece hslot]
  simp only [State.bank, State.count_rcs, hrcs]

theorem State.complete_piece (hp : s.piece i = some p) (hc : p.classed = some c) (j : Slot) :
    (s.complete i).piece j = if i = j then none else s.piece j := by
  rw [State.complete_of_classed hp hc, State.piece_freeSlot]
  exact if_congr Iff.rfl rfl (congrFun (State.piece_congr (s.reported_parts p c).1) j)

theorem State.complete_counts (hp : s.piece i = some p) (hc : p.classed = some c) :
    (s.complete i).sta.get (.ofClass c.cls) = min 4294967295 (s.sta.get (.ofClass c.cls) + 1) ∧
      (s.complete i).sta.get (.ofOutcome (p.tallies.outcome c.dest)) =
        min 4294967295 (s.sta.get (.ofOutcome (p.tallies.outcome c.dest)) + 1) := by
  rw [State.complete_of_classed hp hc]
  refine ⟨?_, ?_⟩
  · rw [State.freeSlot_get rfl, State.get_count, if_neg nofun, State.get_count, if_pos rfl, State.reported_get rfl]
  · rw [State.freeSlot_get rfl, State.get_count, if_pos rfl, State.get_count, if_neg nofun, State.reported_get rfl]

/-- Outside DRAINING the notices and their counts are those of the report (R165, R173). -/
theorem State.complete_report (hp : s.piece i = some p) (hc : p.classed = some c) (hrun : s.eng.state ≠ .draining) :
    (s.complete i).lnk = (s.reported p c).lnk ∧
      (s.complete i).sta.get .suppressed = (s.reported p c).sta.get .suppressed := by
  obtain ⟨-, heng, -, hlnk⟩ := State.releaseSlot_parts (((s.reported p c).count (.ofClass c.cls) 1).count
    (.ofOutcome (p.tallies.outcome c.dest)) 1) i
  have hstate := heng.trans (s.reported_parts p c).2.2
  rw [State.complete_of_classed hp hc, State.freeSlot, State.judgeDrained_of_ne (by rwa [hstate]), hlnk,
    State.releaseSlot_sta, State.get_count, if_neg nofun, State.get_count, if_neg nofun]
  exact ⟨rfl, rfl⟩

/-- The last occupied slot ends DRAINING (R173). -/
theorem State.complete_engine (hp : s.piece i = some p) (hc : p.classed = some c) : (s.complete i).eng.state =
    if s.eng.state = .draining ∧ s.occupied = 1 then .idle else s.eng.state := by
  obtain ⟨hseg, -, heng⟩ := s.reported_parts p c
  rw [State.complete_of_classed hp hc]
  generalize hu : ((s.reported p c).count (.ofClass c.cls) 1).count (.ofOutcome (p.tallies.outcome c.dest)) 1 = u
  have huseg : u.seg = s.seg := hu ▸ hseg
  have hueng : u.eng = s.eng := hu ▸ heng
  obtain ⟨-, hrelease, -, -⟩ := u.releaseSlot_parts i
  have hocc := State.releaseSlot_occupied (s := u) (i := i) (p := p) (by rw [State.piece_congr huseg, hp])
  rw [State.occupied_congr huseg] at hocc
  rw [State.freeSlot, State.judgeDrained_state, hrelease, hueng]
  exact if_congr (and_congr_right fun _ => by omega) rfl rfl

theorem State.complete_lsc (s : State) (i : Slot) : (s.complete i).lsc = s.lsc :=
  (s.complete_life Part.offLanes_endings i).lsc_offLanes

theorem State.complete_vdr (s : State) (i : Slot) : (s.complete i).vdr = s.vdr :=
  (s.complete_life Part.offLanes_endings i).vdr_offLanes

end Complete

/-- Settles O40: retirement by the record of its owner, the outcome by the table, and completion field by field. -/
theorem retirementAndCompletion : Obligations.RetirementAndCompletion := by
  refine ⟨fun s l e reason i num p _ ho hp hphase hpending => ?retired, fun g d => ?outcome,
    fun s i p c hp hc => ?completed⟩
  case retired =>
    refine ⟨(p.retireOne reason).tallies, by cases reason <;> rfl, ?_⟩
    exact State.retire_of_owner l reason ho hp hphase hpending
  case outcome =>
    intro dropped first second third
    have houtcome : g.outcome d = if first then .notEjected else if second then .complete
        else if third then .shortfall else .partialOutcome := g.outcome_eq d
    rw [houtcome]
    exact ⟨fun h => if_pos h, fun h h' => by rw [if_neg h, if_pos h'],
      fun h h' h'' => by rw [if_neg h, if_neg h', if_pos h''],
      fun h h' h'' => by rw [if_neg h, if_neg h', if_neg h'']⟩
  case completed =>
    intro o t
    obtain ⟨hclass, houtcome⟩ := State.complete_counts hp hc
    refine ⟨(State.complete_piece hp hc i).trans (if_pos rfl), fun j hj => (State.complete_piece hp hc j).trans
      (if_neg hj.symm), s.complete_steady i, s.complete_lsc i, s.complete_vdr i, State.complete_banks hp hc, hclass,
      houtcome, fun hreport hrun => ?silent, fun hreport hrun => ?told, State.complete_engine hp hc⟩
    case silent =>
      obtain ⟨hlnk, hcount⟩ := State.complete_report hp hc hrun
      have hquiet : s.reported p c = s.count .suppressed 1 := if_neg (by simp [hreport])
      rw [hquiet] at hlnk hcount
      exact ⟨hlnk, hcount.trans ((State.get_count s _ _ 1).trans (if_pos rfl))⟩
    case told =>
      obtain ⟨hlnk, -⟩ := State.complete_report hp hc hrun
      have hloud : s.reported p c = s.offerPiece p o := if_pos hreport
      rwa [hloud] at hlnk

end Sys2Proof.Machine
end

section
/-! SUPPORT. The steps of a judgment one by one (R150): which entry a step is about, what a valve that opens, closes or
bridges leaves, and the judgments of a valve that cannot open and of one that opens. -/
-- One proof at a time: elaborated side by side, the proofs take more stacks than the check's memory holds.
set_option Elab.async false
namespace Sys2Proof.Machine

/-! ### The first entry of a kind -/

section First
variable {es : List Entry} {p : Entry → Bool} {e x : Entry}

/-- The first entry that a predicate picks from a sound schedule starts before every other it picks. -/
theorem laneSound.find?_start_le (h : laneSound es) (he : es.find? p = some e) (hx : x ∈ es) (hpx : p x = true) :
    e.start ≤ x.start := by
  obtain ⟨-, before, after, rfl, hbefore⟩ := List.find?_eq_some_iff_append.mp he
  obtain ⟨-, hstarts, -⟩ := List.pairwise_append.mp h.starts
  obtain hx | hx := List.mem_append.mp hx
  · exact absurd (hbefore x hx) (by simp [hpx])
  · obtain rfl | hx := List.mem_cons.mp hx
    · exact Nat.le_refl _
    · exact Nat.le_of_lt ((List.pairwise_cons.mp hstarts).1 x hx)

/-- The earliest entry that a predicate picks is the first. -/
theorem laneSound.find?_of_earliest (h : laneSound es) (he : e ∈ es) (hpe : p e = true)
    (hfirst : ∀ x ∈ es, p x = true → e.start ≤ x.start) : es.find? p = some e := by
  cases hf : es.find? p with
  | none => exact absurd hpe (List.find?_eq_none.mp hf e he)
  | some y =>
    have hy := List.mem_of_find?_eq_some hf
    have hle := h.find?_start_le hf he hpe
    have hge := hfirst y hy (List.find?_some hf)
    rw [h.eq_of_start hy he (Nat.le_antisymm hle hge)]

/-- An entry taken out of a sound schedule. -/
theorem laneSound.erase_eq_filter (h : laneSound es) (e : Entry) : es.erase e = es.filter fun x => x ≠ e := by
  rw [h.nodup.erase_eq_filter]
  refine List.filter_congr fun x _ => ?_
  by_cases hx : x = e <;> simp [hx]

end First

/-- A PENDING entry of a row whose close trigger is reached (R150, step 2). -/
def State.overdue (s : State) (r : Row) (e : Entry) : Prop :=
  e.row = .ofRow r ∧ e.active = false ∧ e.stop ≤ s.bpu.pos + s.vdr.leadClose

section Entries
variable {s t : State} {l : Lane} {r : Row} {e n x : Entry}

theorem State.overdue_congr (h : t.steady = s.steady) (r : Row) : t.overdue r = s.overdue r := by
  obtain ⟨hpos, -, hclose⟩ := State.pos_congr h
  funext e
  rw [State.overdue, hpos, hclose, State.overdue]

theorem State.missedPending_eq_some (h : s.missedPending l r = some e) : e ∈ s.lane l ∧ s.overdue r e := by
  obtain ⟨hmem, hrow⟩ := State.mem_of_find h
  have hp := List.find?_some h
  simp only [Bool.and_eq_true, Bool.not_eq_true', State.closeReached, decide_eq_true_eq] at hp
  exact ⟨hmem, hrow, hp⟩

theorem State.missedPending_of_earliest (h : laneSound (s.lane l)) (he : e ∈ s.lane l) (hmissed : s.overdue r e)
    (hfirst : ∀ x ∈ s.lane l, s.overdue r x → e.start ≤ x.start) : s.missedPending l r = some e := by
  obtain ⟨hrow, hpending, hreached⟩ := hmissed
  refine (h.sublist List.filter_sublist).find?_of_earliest (State.mem_rowEntries.mpr ⟨he, hrow⟩)
    (by simp [hpending, State.closeReached, hreached]) fun x hx hpx => ?_
  obtain ⟨hmem, hxrow⟩ := State.mem_rowEntries.mp hx
  simp only [Bool.and_eq_true, Bool.not_eq_true', State.closeReached, decide_eq_true_eq] at hpx
  exact hfirst x hmem ⟨hxrow, hpx⟩

theorem State.firstPending_start_le (hs : laneSound (s.lane l)) (h : s.firstPending l r = some e) (hx : x ∈ s.lane l)
    (hrow : x.row = .ofRow r) (hpending : x.active = false) : e.start ≤ x.start :=
  (hs.sublist List.filter_sublist).find?_start_le h (State.mem_rowEntries.mpr ⟨hx, hrow⟩) (by simp [hpending])

/-- A row without an ACTIVE entry. -/
theorem State.activeEntry_of_count (h : activeCount r (s.lane l) = 0) : s.activeEntry l r = none := by
  refine List.find?_eq_none.mpr fun e he hact => ?_
  obtain ⟨hmem, hrow⟩ := State.mem_rowEntries.mp he
  exact List.countP_eq_zero.mp h e hmem (by simpa [Entry.activeIn, Entry.inRow, hrow] using hact)

theorem State.activeEntry_of_not_serves (h : s.activitySound) (hv : ¬ (s.valve l r).serves) :
    s.activeEntry l r = none :=
  State.activeEntry_of_count ((State.activitySound_iff_activeAt.mp h l r).2 hv)

theorem State.not_active_of_activeEntry (h : s.activeEntry l r = none) (hx : x ∈ s.lane l) (hrow : x.row = .ofRow r) :
    x.active = false := by
  simpa using List.find?_eq_none.mp h x (State.mem_rowEntries.mpr ⟨hx, hrow⟩)

/-! ### The entry that follows -/

/-- The entry that follows another in its lane (R153). -/
def State.follows (s : State) (l : Lane) (e n : Entry) : Prop :=
  n ∈ s.lane l ∧ e.start < n.start ∧ ∀ x ∈ s.lane l, e.start < x.start → n.start ≤ x.start

theorem State.nextAfter_eq_some (h : laneSound (s.lane l)) : nextAfter (s.lane l) e = some n ↔ s.follows l e n := by
  refine ⟨fun hn => ⟨List.mem_of_find?_eq_some hn, by simpa using List.find?_some hn, fun x hx hlt => ?_⟩, ?_⟩
  · exact h.find?_start_le hn hx (by simpa using hlt)
  · rintro ⟨hmem, hlt, hfirst⟩
    exact h.find?_of_earliest hmem (by simpa using hlt) fun x hx hpx => hfirst x hx (by simpa using hpx)

theorem State.bridges_iff : s.bridges r e n = true ↔
    n.row = .ofRow r ∧ n.active = false ∧ n.start ≤ e.stop + s.own .mergeGap := by
  simp [State.bridges, Entry.inRow, and_assoc]

end Entries

/-! ### A valve record replaced, an entry retired -/

section Parts
variable {s : State} {l : Lane} {r : Row} {e n : Entry}

theorem State.setValve_valve (s : State) (l : Lane) (r : Row) (v : Valve) : (s.setValve l r v).valve l r = v :=
  (s.valve_setValve l l r r v).trans (if_pos ⟨rfl, rfl⟩)

theorem State.setValve_busWrites (s : State) (l : Lane) (r : Row) (v : Valve) : (s.setValve l r v).vdr.busWrites =
    if (s.valve l r).isOpen = v.isOpen then s.vdr.busWrites else s.vdr.busWrites ++ [⟨l, r, v.isOpen⟩] := by
  unfold State.setValve
  dsimp only
  split_ifs <;> rfl

/-- An OPEN valve closes. -/
theorem State.setValve_closes {v : Valve} (h : (s.valve l r).state = .opened) (hv : v.state ≠ .opened) :
    (s.setValve l r v).vdr.busWrites = s.vdr.busWrites ++ [⟨l, r, false⟩] := by
  rw [State.setValve_busWrites, Valve.isOpen_eq_false hv, if_neg (by simp [Valve.isOpen, h])]

/-- A valve that is not OPEN opens. -/
theorem State.setValve_opens {v : Valve} (h : (s.valve l r).state ≠ .opened) (hv : v.state = .opened) :
    (s.setValve l r v).vdr.busWrites = s.vdr.busWrites ++ [⟨l, r, true⟩] := by
  have hopen : v.isOpen = true := by simp [Valve.isOpen, hv]
  rw [State.setValve_busWrites, Valve.isOpen_eq_false h, hopen, if_neg nofun]

/-- A valve closed before stays closed. -/
theorem State.setValve_quiet {v : Valve} (h : (s.valve l r).state ≠ .opened) (hv : v.state ≠ .opened) :
    (s.setValve l r v).vdr.busWrites = s.vdr.busWrites := by
  rw [State.setValve_busWrites, Valve.isOpen_eq_false h, Valve.isOpen_eq_false hv, if_pos rfl]

/-- A retirement raises the count of no other reason. -/
theorem State.retire_count_ne (l : Lane) (e : Entry) {reason other : RetireReason} (h : reason ≠ other) :
    (s.retire l e reason).sta.get (.ofRetire other) = s.sta.get (.ofRetire other) := by
  have hends : Endings fun x => x ≠ .count (.ofRetire other) := fun c hc he => by
    cases he
    cases hc
  rw [(s.retire_tail_life hends l e reason).count_eq fun hne => hne rfl, State.get_count,
    if_neg fun he => h (Counter.ofRetire.inj he)]
  rfl

theorem State.enterRecover_valve (s : State) (l : Lane) (r : Row) :
    (s.enterRecover l r).valve l r = (s.valve l r).recovering (s.own .minOff) :=
  s.setValve_valve l r _

theorem State.enterRecover_busWrites (h : (s.valve l r).state = .opened) :
    (s.enterRecover l r).vdr.busWrites = s.vdr.busWrites ++ [⟨l, r, false⟩] :=
  State.setValve_closes h (Valve.recovering_ne_opened _ _)

theorem State.enterRecover_lane (s : State) (l m : Lane) (r : Row) : (s.enterRecover l r).lane m = s.lane m :=
  s.setValve_lane l m r _

theorem State.retire_own (s : State) (l : Lane) (e : Entry) (reason : RetireReason) :
    (s.retire l e reason).own = s.own :=
  State.own_congr (s.retire_steady l e reason)

/-! ### Opening -/

theorem State.openFor_valve (s : State) (l : Lane) (r : Row) (e : Entry) (late : Bool) : (s.openFor l r e late).valve l r =
    { s.valve l r with
      state := .opened, served := .entry, maxOn := some ⟨0, s.own .maxOn⟩
      actuations := min 4294967295 ((s.valve l r).actuations + 1) } :=
  s.setValve_valve l r _

theorem State.openFor_lane (s : State) (l : Lane) (r : Row) (e : Entry) (late : Bool) : (s.openFor l r e late).lane l =
    exchange e { e with active := true, lateStart := e.lateStart || late } (s.lane l) := by
  unfold State.openFor
  dsimp only
  rw [State.lane_setLane_self, State.setValve_lane]

theorem State.openFor_busWrites (h : (s.valve l r).state ≠ .opened) (e : Entry) (late : Bool) :
    (s.openFor l r e late).vdr.busWrites = s.vdr.busWrites ++ [⟨l, r, true⟩] :=
  State.setValve_opens h rfl

/-! ### Closing -/

/-- The reason for which the served entry of a valve retires at its close (R153). -/
def Entry.closeReason (e : Entry) : RetireReason := if e.lateStart then .firedLate else .fired

/-- The valve goes on with the entry that follows (R153). -/
theorem State.closeEntry_bridge (h : laneSound (s.lane l)) (hn : s.follows l e n) (hb : s.bridges r e n = true) :
    s.closeEntry l r e = (s.retire l e e.closeReason).setLane l
      (exchange n { n with active := true } ((s.lane l).erase e)) := by
  unfold State.closeEntry
  simp only [(State.nextAfter_eq_some h).mpr hn, hb, if_true]
  rw [State.retire_lane_self]
  rfl

/-- Without an entry to bridge to the blast ends (R153). -/
theorem State.closeEntry_end (h : laneSound (s.lane l)) (hn : ∀ n, s.follows l e n → s.bridges r e n = false) :
    s.closeEntry l r e = (s.retire l e e.closeReason).enterRecover l r := by
  unfold State.closeEntry
  dsimp only
  cases hf : nextAfter (s.lane l) e with
  | none => rfl
  | some n =>
    have hno := hn n ((State.nextAfter_eq_some h).mp hf)
    simp only [hno]
    rfl

end Parts

/-! ### One step -/

section Step
variable {s : State} {l : Lane} {r : Row} {o : Opening} {p : Bool} {e : Entry}

theorem State.judgeStep_serving (hv : (s.valve l r).serves) (he : s.activeEntry l r = some e) : s.judgeStep l r o p =
    if s.closeReached e then
      some (s.closeEntry l r e, p || ((s.closeEntry l r e).valve l r).state == .closed)
    else none := by
  obtain ⟨hstate, hserved⟩ := hv
  unfold State.judgeStep
  simp only [hstate, hserved, he]

theorem State.judgeStep_recover (hv : (s.valve l r).state = .recover) : s.judgeStep l r o p =
    (s.missedPending l r).map fun e => (s.retire l e .recoverMiss, p) := by
  unfold State.judgeStep
  simp only [hv]

theorem State.judgeStep_pulse (hv : (s.valve l r).state = .opened) (hserved : (s.valve l r).served = .pulse) :
    s.judgeStep l r o p = (s.missedPending l r).map fun e => (s.retire l e .recoverMiss, p) := by
  unfold State.judgeStep
  simp only [hv, hserved]

theorem State.judgeStep_lost (hv : (s.valve l r).state = .closed) (hair : s.vdr.air = .lost) :
    s.judgeStep l r o p = (s.missedPending l r).map fun e => (s.retire l e .airLost, p) := by
  unfold State.judgeStep
  simp only [hv, hair]

theorem State.judgeStep_closed (hv : (s.valve l r).state = .closed) (hair : s.vdr.air = .present)
    (he : s.firstPending l r = some e) : s.judgeStep l r o p =
      if s.openReached e then some (s.openFor l r e (o.marks p e), p) else none := by
  unfold State.judgeStep
  simp only [hv, hair, he]

theorem State.missedPending_eq_none (h : ∀ e ∈ s.lane l, e.row = .ofRow r → e.active = false →
    s.bpu.pos + s.vdr.leadClose < e.stop) : s.missedPending l r = none := by
  cases hm : s.missedPending l r with
  | none => rfl
  | some e =>
    obtain ⟨hmem, hrow, hpending, hreached⟩ := State.missedPending_eq_some hm
    have := h e hmem hrow hpending
    omega

/-- A step applies exactly where the valve is not settled (R150). -/
theorem State.judgeStep_eq_none_iff : s.judgeStep l r o p = none ↔ s.settled l r := by
  refine ⟨State.settled_of_judgeStep_none, fun ⟨hserving, hpending, hclosed⟩ => ?_⟩
  cases hv : (s.valve l r).state with
  | opened =>
    cases hserved : (s.valve l r).served with
    | none => simp only [State.judgeStep, hv, hserved]
    | pulse =>
      rw [State.judgeStep_pulse hv hserved, State.missedPending_eq_none (hpending (.inr (.inl ⟨hv, hserved⟩)))]
      rfl
    | entry =>
      cases he : s.activeEntry l r with
      | none => simp only [State.judgeStep, hv, hserved, he]
      | some e =>
        have := hserving hv hserved e he
        rw [State.judgeStep_serving ⟨hv, hserved⟩ he, if_neg (by simpa [State.closeReached] using this)]
  | recover =>
    rw [State.judgeStep_recover hv, State.missedPending_eq_none (hpending (.inl hv))]
    rfl
  | closed =>
    cases hair : s.vdr.air with
    | lost =>
      rw [State.judgeStep_lost hv hair, State.missedPending_eq_none (hpending (.inr (.inr ⟨hv, hair⟩)))]
      rfl
    | present =>
      cases he : s.firstPending l r with
      | none => simp only [State.judgeStep, hv, hair, he]
      | some e =>
        have := hclosed hv hair e he
        rw [State.judgeStep_closed hv hair he, if_neg (by simpa [State.openReached] using this)]
  | disabled => simp only [State.judgeStep, hv]
  | faulted => simp only [State.judgeStep, hv]

end Step

/-! ### The steps one after another -/

section Loop
variable {s t : State} {l : Lane} {r : Row} {o : Opening} {p q : Bool} {n : Entry}

theorem State.judgeLoop_stop (h : s.judgeStep l r o p = none) (k : Nat) : s.judgeLoop l r o k p = s := by
  cases k with
  | zero => rfl
  | succ k =>
    unfold State.judgeLoop
    rw [h]

theorem State.judgeLoop_next (h : s.judgeStep l r o p = some (t, q)) (k : Nat) :
    s.judgeLoop l r o (k + 1) p = t.judgeLoop l r o k q := by
  conv_lhs => unfold State.judgeLoop
  rw [h]

/-- A judgment is its step repeated, where the state stands once none applies. -/
theorem State.judgeLoop_eq_iterate (k : Nat) (p : Bool) (s : State) : s.judgeLoop l r o k p =
    ((fun x : State × Bool => (x.1.judgeStep l r o x.2).getD x)^[k] (s, p)).1 := by
  induction k generalizing s p with
  | zero => rfl
  | succ k ih =>
    rw [Function.iterate_succ_apply]
    cases h : s.judgeStep l r o p with
    | none =>
      have hrest := (State.judgeLoop_stop h k).symm.trans (ih p s)
      rw [State.judgeLoop_stop h, Option.getD_none]
      exact hrest
    | some x => rw [State.judgeLoop_next (t := x.1) (q := x.2) h, Option.getD_some]; exact ih x.2 x.1

/-- A CLOSED valve of a row without an ACTIVE entry opens for the first PENDING one between its triggers, and the
judgment ends there (R150, R152). -/
theorem State.judgeLoop_opens (hv : (s.valve l r).state = .closed) (hair : s.vdr.air = .present)
    (hnone : s.activeEntry l r = none) (hn : s.firstPending l r = some n)
    (hopen : n.start ≤ s.bpu.pos + s.vdr.leadOpen) (hclose : s.bpu.pos + s.vdr.leadClose < n.stop) (k : Nat) (p : Bool) :
    s.judgeLoop l r o (k + 1) p = s.openFor l r n (o.marks p n) := by
  have hstep : s.judgeStep l r o p = some (s.openFor l r n (o.marks p n), p) := by
    rw [State.judgeStep_closed hv hair hn, if_pos (by simpa [State.openReached] using hopen)]
  rw [State.judgeLoop_next hstep]
  refine State.judgeLoop_stop (State.judgeStep_eq_none_iff.mpr ?_) k
  generalize o.marks p n = late
  obtain ⟨hpos, -, hlead⟩ := State.pos_congr (s.openFor_steady l r n late)
  have hserves := s.openFor_valve l r n late
  refine ⟨fun _ _ x hx => ?_, fun hcan => by simp [hserves] at hcan, fun hc => by simp [hserves] at hc⟩
  obtain ⟨hmem, hrow, hact⟩ := State.activeEntry_eq_some hx
  rw [State.openFor_lane] at hmem
  rw [hpos, hlead]
  obtain rfl | ⟨hmem, -⟩ := mem_exchange hmem
  · exact hclose
  · have hpending := State.not_active_of_activeEntry hnone hmem hrow
    rw [Entry.activeIn_of_pending hpending] at hact
    cases hact

theorem State.judge_opens (hv : (s.valve l r).state = .closed) (hair : s.vdr.air = .present)
    (hnone : s.activeEntry l r = none) (hn : s.firstPending l r = some n)
    (hopen : n.start ≤ s.bpu.pos + s.vdr.leadOpen) (hclose : s.bpu.pos + s.vdr.leadClose < n.stop) :
    s.judge l r o = s.openFor l r n (o.marks false n) :=
  State.judgeLoop_opens hv hair hnone hn hopen hclose _ false

end Loop

/-! ### The judgment of a valve that cannot open -/

/-- A valve that cannot open: in RECOVER, during a test pulse, or CLOSED with the air lost (R150). -/
def State.barred (s : State) (l : Lane) (r : Row) : Prop :=
  (s.valve l r).state = .recover ∨ ((s.valve l r).state = .opened ∧ (s.valve l r).served = .pulse) ∨
    ((s.valve l r).state = .closed ∧ s.vdr.air = .lost)

/-- Nothing but missed entries of a row left their lane, for a reason that a valve that cannot open gives. -/
structure State.DropsOverdue (l : Lane) (r : Row) (s t : State) : Prop where
  vdr : t.vdr = s.vdr
  steady : t.steady = s.steady
  sublist : (t.lane l).Sublist (s.lane l)
  stay : ∀ x ∈ s.lane l, ¬ s.overdue r x → x ∈ t.lane l
  counts : ∀ reason, reason ≠ .recoverMiss → reason ≠ .airLost →
    t.sta.get (.ofRetire reason) = s.sta.get (.ofRetire reason)

section Barred
variable {s t u : State} {l : Lane} {r : Row} {o : Opening} {p : Bool}

theorem State.DropsOverdue.refl (s : State) : State.DropsOverdue l r s s :=
  ⟨rfl, rfl, List.Sublist.refl _, fun _ hx _ => hx, fun _ _ _ => rfl⟩

theorem State.DropsOverdue.trans (h : State.DropsOverdue l r s t) (g : State.DropsOverdue l r t u) :
    State.DropsOverdue l r s u :=
  ⟨g.vdr.trans h.vdr, g.steady.trans h.steady, g.sublist.trans h.sublist,
    fun x hx hm => g.stay x (h.stay x hx hm) (by rwa [State.overdue_congr h.steady]),
    fun reason hr ha => (g.counts reason hr ha).trans (h.counts reason hr ha)⟩

theorem State.DropsOverdue.retire {e : Entry} (he : s.overdue r e) {reason : RetireReason}
    (hreason : reason = .recoverMiss ∨ reason = .airLost) : State.DropsOverdue l r s (s.retire l e reason) where
  vdr := s.retire_vdr l e reason
  steady := s.retire_steady l e reason
  sublist := s.retire_lane_self l e reason ▸ List.erase_sublist
  stay x hx hm := by
    rw [State.retire_lane_self]
    exact (List.mem_erase_of_ne fun h : x = e => hm (h ▸ he)).mpr hx
  counts other hr ha := State.retire_count_ne l e (by obtain rfl | rfl := hreason <;> [exact hr.symm; exact ha.symm])

theorem State.barred_congr (h : t.vdr = s.vdr) : t.barred l r ↔ s.barred l r := by
  unfold State.barred State.valve
  rw [h]

theorem State.judgeStep_barred (h : s.barred l r) {x : State × Bool} (hx : s.judgeStep l r o p = some x) :
    State.DropsOverdue l r s x.1 := by
  have dropped {reason : RetireReason} (hreason : reason = .recoverMiss ∨ reason = .airLost)
      (hm : (s.missedPending l r).map (fun e => (s.retire l e reason, p)) = some x) : State.DropsOverdue l r s x.1 := by
    obtain ⟨e, he, rfl⟩ := Option.map_eq_some_iff.mp hm
    exact .retire (State.missedPending_eq_some he).2 hreason
  obtain hv | ⟨hv, hserved⟩ | ⟨hv, hair⟩ := h
  · exact dropped (.inl rfl) ((State.judgeStep_recover hv).symm.trans hx)
  · exact dropped (.inl rfl) ((State.judgeStep_pulse hv hserved).symm.trans hx)
  · exact dropped (.inr rfl) ((State.judgeStep_lost hv hair).symm.trans hx)

theorem State.judgeLoop_barred (h : s.barred l r) (k : Nat) (p : Bool) :
    State.DropsOverdue l r s (s.judgeLoop l r o k p) := by
  induction k generalizing s p with
  | zero => exact .refl s
  | succ k ih =>
    unfold State.judgeLoop
    split
    · next t q hstep =>
      have hfirst := State.judgeStep_barred h hstep
      exact hfirst.trans (ih ((State.barred_congr hfirst.vdr).mpr h) q)
    · exact .refl s

theorem State.judge_barred (h : s.barred l r) (o : Opening) : State.DropsOverdue l r s (s.judge l r o) :=
  State.judgeLoop_barred h _ false

/-- A valve that cannot open loses its missed entries and no others (R150). -/
theorem State.mem_judge_barred (h : s.barred l r) {x : Entry} :
    x ∈ (s.judge l r o).lane l ↔ x ∈ s.lane l ∧ ¬ s.overdue r x := by
  have hdrops := State.judge_barred h o
  refine ⟨fun hx => ⟨hdrops.sublist.subset hx, fun ⟨hrow, hpending, hreached⟩ => ?_⟩, fun ⟨hx, hm⟩ => hdrops.stay x hx hm⟩
  obtain ⟨hpos, -, hclose⟩ := State.pos_congr hdrops.steady
  obtain ⟨-, hahead, -⟩ := s.settled_judge l r o
  have := hahead ((State.barred_congr hdrops.vdr).mpr h) x hx hrow hpending
  omega

end Barred

end Sys2Proof.Machine
end

section
/-! PROOF. The judgment of a valve, what opens, closes or bridges it, and the expiries of its timers (R150 to R155,
R161). -/
-- One proof at a time: elaborated side by side, the proofs take more stacks than the check's memory holds.
set_option Elab.async false
namespace Sys2Proof.Machine

/-! ### Opening and closing -/

section Close
variable {s : State} {l : Lane} {r : Row} {e n : Entry}

/-- A close counts what the retirement of the served entry counts. -/
theorem State.closeEntry_sta (s : State) (l : Lane) (r : Row) (e : Entry) :
    (s.closeEntry l r e).sta = (s.retire l e e.closeReason).sta := by
  unfold State.closeEntry Entry.closeReason
  dsimp only
  generalize (if e.lateStart then RetireReason.firedLate else .fired) = reason
  split
  · split
    · rfl
    · exact State.setValve_sta _ _ _
  · exact State.setValve_sta _ _ _

/-- A blast that ends without a bridge. -/
theorem State.closeEntry_ended (h : laneSound (s.lane l)) (hv : (s.valve l r).state = .opened)
    (hn : ∀ n, s.follows l e n → s.bridges r e n = false) :
    (s.closeEntry l r e).lane l = ((s.lane l).filter fun x => x ≠ e) ∧
      (s.closeEntry l r e).vdr.busWrites = s.vdr.busWrites ++ [⟨l, r, false⟩] ∧
      (s.closeEntry l r e).valve l r = (s.valve l r).recovering (s.own .minOff) := by
  have hvdr := s.retire_vdr l e e.closeReason
  rw [State.closeEntry_end h hn]
  refine ⟨?_, ?_, ?_⟩
  · rw [State.enterRecover_lane, State.retire_lane_self, h.erase_eq_filter]
  · rw [State.enterRecover_busWrites (by rw [State.retire_valve, hv]), hvdr]
  · rw [State.enterRecover_valve, State.retire_valve, State.retire_own]

end Close

theorem Valve.recovering_eq (v : Valve) (n : Nat) : v.recovering n =
    { v with
      state := if n = 0 then .closed else .recover
      served := .none, maxOn := none, pulse := none
      minOff := if n = 0 then none else some n } := by
  unfold Valve.recovering
  split_ifs <;> rfl

/-- Settles O38: what `openFor` leaves, and `closeEntry` by the entry that follows. -/
theorem valveOpensClosesAndBridges : Obligations.ValveOpensClosesAndBridges := by
  intro s l r e hsound _
  refine ⟨fun late hv => ?opens, fun hv => ?closes⟩
  case opens =>
    exact ⟨s.openFor_valve l r e late, s.openFor_lane l r e late, State.openFor_busWrites (by simp [hv]) e late,
      s.setValve_seg l r _, s.setValve_sta l r _, s.openFor_steady l r e late⟩
  case closes =>
    refine ⟨s.closeEntry_sta l r e ▸ s.retire_count l e _, s.closeEntry_steady l r e, fun n hn hb => ?bridged,
      fun hn => ?ended⟩
    case bridged =>
      have hclose := State.closeEntry_bridge hsound hn (State.bridges_iff.mpr hb)
      refine ⟨?_, ?_⟩
      · rw [hclose]
        exact s.retire_vdr l e _
      · rw [hclose, State.lane_setLane_self, hsound.erase_eq_filter]
        rfl
    case ended =>
      have hends := State.closeEntry_ended hsound hv fun n hf =>
        Bool.eq_false_iff.mpr fun hb => hn n hf (State.bridges_iff.mp hb)
      rw [Valve.recovering_eq] at hends
      exact hends

/-! ### The judgment -/

section Judged
variable {s : State} {l : Lane} {r : Row} {o : Opening} {e n : Entry}

theorem Opening.marks_first (o : Opening) (e : Entry) : o.marks false e = decide (o = .late) := by
  cases o <;> simp [Opening.marks]

/-- The first PENDING entry of a row is no entry to bridge to, where it starts beyond MERGE_GAP. -/
theorem State.no_bridge (hs : laneSound (s.lane l)) (hn : s.firstPending l r = some n)
    (hgap : e.stop + s.own .mergeGap < n.start) (x : Entry) (hx : s.follows l e x) : s.bridges r e x = false := by
  refine Bool.eq_false_iff.mpr fun hb => ?_
  obtain ⟨hrow, hpending, hnear⟩ := State.bridges_iff.mp hb
  have := State.firstPending_start_le hs hn hx.1 hrow hpending
  omega

/-- Under MIN_OFF_US 0 a close that does not bridge opens the next due entry in the same judgment (R155). -/
theorem State.judge_reopens (hs : laneSound (s.lane l)) (ha : s.activitySound) (hair : s.vdr.air = .present)
    (hn : s.firstPending l r = some n) (hopen : n.start ≤ s.bpu.pos + s.vdr.leadOpen)
    (hclose : s.bpu.pos + s.vdr.leadClose < n.stop) (hv : (s.valve l r).serves) (he : s.activeEntry l r = some e)
    (hreached : e.stop ≤ s.bpu.pos + s.vdr.leadClose) (hoff : s.own .minOff = 0)
    (hgap : e.stop + s.own .mergeGap < n.start) :
    s.judge l r o = (s.closeEntry l r e).openFor l r n (o.marks true n) := by
  have hends := State.no_bridge hs hn hgap
  obtain ⟨hlane, -, hvalve⟩ := State.closeEntry_ended hs hv.1 hends
  rw [hoff] at hvalve
  have hstate : ((s.closeEntry l r e).valve l r).state = .closed := by rw [hvalve]; rfl
  have hsteady := s.closeEntry_steady l r e
  obtain ⟨hpos, hleadOpen, hleadClose⟩ := State.pos_congr hsteady
  obtain ⟨hmem, -, hact⟩ := State.activeEntry_eq_some he
  have hstep : s.judgeStep l r o false = some (s.closeEntry l r e, true) := by
    rw [State.judgeStep_serving hv he, if_pos (by simpa [State.closeReached] using hreached), hstate]
    rfl
  have hnone : (s.closeEntry l r e).activeEntry l r = none := by
    obtain ⟨-, hcount⟩ := State.activeAt_retire (State.activitySound_iff_activeAt.mp ha l r) he .fired
    rw [State.retire_lane_self, hs.erase_eq_filter, ← hlane] at hcount
    exact State.activeEntry_of_count hcount
  have hfirst : (s.closeEntry l r e).firstPending l r = some n := by
    have hactive : e.active = true := by
      simp only [Entry.activeIn, Bool.and_eq_true] at hact
      exact hact.1
    have hpending (es : List Entry) : (es.filter fun x => x ≠ e).find? (fun x => x.inRow r && !x.active) =
        es.find? fun x => x.inRow r && !x.active := by
      rw [List.find?_filter]
      congr 1
      funext x
      by_cases hx : x = e <;> simp [hx, hactive]
    unfold State.firstPending State.rowEntries at hn ⊢
    rw [List.find?_filter] at hn ⊢
    rw [hlane]
    simpa using (hpending (s.lane l)).trans (by simpa using hn)
  unfold State.judge
  rw [State.judgeLoop_next hstep]
  exact State.judgeLoop_opens hstate ((congrArg Steady.air hsteady).trans hair) hnone hfirst
    (by rwa [hpos, hleadOpen]) (by rwa [hpos, hleadClose]) _ true

end Judged

/-- Settles O37: a judgment is its step repeated until the valve is settled; each step by the valve's state; and the
judgment of a valve that opens, at once or after its close. -/
theorem judgedValveIsSettled : Obligations.JudgedValveIsSettled := by
  intro s l r o t v
  have hsteady : t.steady = s.steady := s.judge_steady l r o
  obtain ⟨hpos, hleadOpen, hleadClose⟩ := State.pos_congr hsteady
  have hair : t.vdr.air = s.vdr.air := congrArg Steady.air hsteady
  have hsettled : t.settled l r := s.settled_judge l r o
  obtain ⟨hserving, hpending, hclosed⟩ := hsettled
  rw [hpos, hleadClose] at hserving hpending
  rw [hpos, hleadOpen, hair] at hclosed
  rw [hair] at hpending
  have honly := State.OnlyLane.judge s l r o
  refine ⟨hserving, hpending, hclosed, honly.lanes, fun m q hne => ?valves, hsteady,
    ⟨_, State.judgeLoop_eq_iterate _ false s⟩, fun passed => ?step, fun hs ha hpresent n hn hopen hclose => ?opens⟩
  case valves => exact (State.SameBut.judgeLoop o _ _ s).valves m q fun h => hne (by rw [h.1, h.2])
  case step =>
    intro step missed misses late
    have first {reason : RetireReason}
        (hstep : step = (s.missedPending l r).map fun e => (s.retire l e reason, passed)) :
        misses reason := fun hs e he hm hfirst => by
      rw [hstep, State.missedPending_of_earliest hs he hm hfirst]
      rfl
    refine ⟨State.judgeStep_eq_none_iff, fun hv hserved e he hreached => ?_,
      fun hv => first (State.judgeStep_recover hv), fun hv hserved => first (State.judgeStep_pulse hv hserved),
      fun hv hlost => first (State.judgeStep_lost hv hlost), fun hv hpresent e he hopen => ?_⟩
    · have hclose : s.closeReached e = true := by simpa [State.closeReached] using hreached
      refine (State.judgeStep_serving ⟨hv, hserved⟩ he).trans ((if_pos hclose).trans ?_)
      rw [beq_eq_decide]
    · have hreached : s.openReached e = true := by simpa [State.openReached] using hopen
      refine (State.judgeStep_closed hv hpresent he).trans ((if_pos hreached).trans ?_)
      cases o <;> rfl
  case opens =>
    intro opened
    refine ⟨fun hv => ?first, fun e hv hserved he hreached hoff hgap => ?next⟩
    case first =>
      have hidle := State.activeEntry_of_not_serves (l := l) (r := r) ha (Valve.not_serves (by simp [hv]))
      have hjudge : t = s.openFor l r n (o.marks false n) := State.judge_opens hv hpresent hidle hn hopen hclose
      rw [hjudge, State.openFor_lane, Opening.marks_first]
      rfl
    case next =>
      obtain ⟨hlane, -, -⟩ := State.closeEntry_ended hs hv (State.no_bridge hs hn hgap)
      have hjudge : t = (s.closeEntry l r e).openFor l r n (o.marks true n) :=
        State.judge_reopens hs ha hpresent hn hopen hclose ⟨hv, hserved⟩ he hreached hoff hgap
      rw [hjudge, State.openFor_lane, hlane]
      cases o <;> rfl

end Sys2Proof.Machine
end

section
/-! PROOF. The expiries of a valve's timers (R150, R154, R155, R161). -/
-- One proof at a time: elaborated side by side, the proofs take more stacks than the check's memory holds.
set_option Elab.async false
namespace Sys2Proof.Machine

/-! ### What a replaced valve record leaves -/

section Rows
variable {s t : State} {l : Lane} {r : Row}

theorem State.activeEntry_congr (h : t.rowEntries l r = s.rowEntries l r) : t.activeEntry l r = s.activeEntry l r := by
  unfold State.activeEntry
  rw [h]

theorem State.firstPending_congr (h : t.rowEntries l r = s.rowEntries l r) : t.firstPending l r = s.firstPending l r := by
  unfold State.firstPending
  rw [h]

theorem State.setValve_rowEntries (s : State) (l m : Lane) (r q : Row) (v : Valve) :
    (s.setValve l r v).rowEntries m q = s.rowEntries m q :=
  State.rowEntries_congr (s.setValve_lane l m r v) q

theorem State.valve_congr (h : t.vdr = s.vdr) : t.valve = s.valve := by
  funext m q
  simp only [State.valve, h]

end Rows

/-! ### The end of a blast -/

section Blast
variable {s u : State} {l : Lane} {r : Row}

/-- The served entry truncated, with its valve closed (R154). -/
def State.truncated (s : State) (l : Lane) (r : Row) : State :=
  match s.activeEntry l r with
  | some e => (s.enterRecover l r).retire l e .truncated
  | none => s.enterRecover l r

theorem State.truncate_eq (s : State) (l : Lane) (r : Row) : s.truncate l r = (s.truncated l r).judge l r .late := rfl

theorem State.truncated_of_active {e : Entry} (h : s.activeEntry l r = some e) :
    s.truncated l r = (s.enterRecover l r).retire l e .truncated := by
  unfold State.truncated
  rw [h]

theorem State.truncated_vdr (s : State) (l : Lane) (r : Row) : (s.truncated l r).vdr = (s.enterRecover l r).vdr := by
  unfold State.truncated
  split
  · exact State.retire_vdr _ l _ _
  · rfl

theorem State.truncated_steady (s : State) (l : Lane) (r : Row) : (s.truncated l r).steady = s.steady := by
  unfold State.truncated
  split <;> simp

theorem State.truncated_sameBut (s : State) (l : Lane) (r : Row) :
    State.SameBut l r s (s.truncated l r) ∧ State.OnlyLane l s (s.truncated l r) := by
  unfold State.truncated
  split
  · next e he => exact ⟨(State.SameBut.setValve _).trans (.retire (State.mem_of_find he).2 _),
      (State.OnlyLane.setValve s r _).trans (.retire _ e _)⟩
  · exact ⟨.setValve _, .setValve s r _⟩

/-- A judgment after one valve and its row changed reaches that valve and that lane only. -/
theorem State.judge_beside (hsame : State.SameBut l r s u) (honly : State.OnlyLane l s u) (o : Opening) :
    (∀ m, m ≠ l → (u.judge l r o).lane m = s.lane m) ∧
      ∀ m q, (m, q) ≠ (l, r) → (u.judge l r o).valve m q = s.valve m q :=
  ⟨(honly.trans (.judge u l r o)).lanes, fun m q hne =>
    (hsame.trans (State.SameBut.judgeLoop o _ _ u)).valves m q fun h => hne (by rw [h.1, h.2])⟩

/-- A blast that ends under MIN_OFF_US above 0 leaves the valve in RECOVER, and the judgment that follows drops the
overdue entries (R150, R155). -/
theorem State.judge_rests (hvdr : u.vdr = (s.enterRecover l r).vdr) (hsteady : u.steady = s.steady)
    (hv : (s.valve l r).state = .opened) (hoff : 0 < s.own .minOff) (o : Opening) :
    let t := u.judge l r o
    (t.vdr.busWrites = s.vdr.busWrites ++ [⟨l, r, false⟩] ∧ t.valve l r = { s.valve l r with
      state := .recover, served := .none, maxOn := none, pulse := none, minOff := some (s.own .minOff) }) ∧
    t.sta.get (.ofRetire .truncated) = u.sta.get (.ofRetire .truncated) ∧
    ∀ x, x ∈ t.lane l ↔ x ∈ u.lane l ∧ ¬ s.overdue r x := by
  have hrest : u.valve l r = { s.valve l r with
      state := .recover, served := .none, maxOn := none, pulse := none, minOff := some (s.own .minOff) } := by
    rw [State.valve_congr hvdr, State.enterRecover_valve, Valve.recovering_eq, if_neg (by omega), if_neg (by omega)]
  have hbarred : u.barred l r := .inl (by rw [hrest])
  have hdrops := State.judge_barred hbarred o
  refine ⟨⟨?_, ?_⟩, hdrops.counts .truncated nofun nofun, fun x => ?_⟩
  · rw [hdrops.vdr, hvdr, State.enterRecover_busWrites hv]
  · rw [State.valve_congr hdrops.vdr, hrest]
  · rw [State.mem_judge_barred hbarred, State.overdue_congr hsteady]

end Blast

/-! ### The end of RECOVER -/

section Recover
variable {s : State} {l : Lane} {r : Row}

/-- The valve CLOSED at the end of its RECOVER, before it is judged (R155). -/
def State.recovered (s : State) (l : Lane) (r : Row) : State := s.setValve l r ((s.valve l r).idleIn .closed)

theorem State.endRecover_eq (s : State) (l : Lane) (r : Row) : s.endRecover l r = (s.recovered l r).judge l r .late := rfl

theorem State.recovered_valve (s : State) (l : Lane) (r : Row) :
    (s.recovered l r).valve l r = (s.valve l r).idleIn .closed :=
  s.setValve_valve l r _

theorem State.recovered_air (s : State) (l : Lane) (r : Row) : (s.recovered l r).vdr.air = s.vdr.air :=
  s.setValve_air l r _

/-- Without an entry that is due the valve stays CLOSED. -/
theorem State.endRecover_idle (h : s.vdr.air = .lost ∨
    ∀ e, s.firstPending l r = some e → s.bpu.pos + s.vdr.leadOpen < e.start) :
    (s.endRecover l r).vdr = (s.recovered l r).vdr := by
  have hstate : ((s.recovered l r).valve l r).state = .closed := congrArg Valve.state (s.recovered_valve l r)
  have hair := s.recovered_air l r
  rw [State.endRecover_eq]
  obtain hlost | hahead := h
  · exact (State.judge_barred (.inr (.inr ⟨hstate, hair.trans hlost⟩)) .late).vdr
  · cases hlost : s.vdr.air with
    | lost => exact (State.judge_barred (.inr (.inr ⟨hstate, hair.trans hlost⟩)) .late).vdr
    | present =>
      obtain ⟨hpos, hlead, -⟩ := State.pos_congr (s.setValve_steady l r ((s.valve l r).idleIn .closed))
      refine congrArg State.vdr (State.judge_of_settled (State.judgeStep_eq_none_iff.mpr
        ⟨by simp [hstate], fun hcan => by simp [hstate, hair, hlost] at hcan, fun _ _ e he => ?_⟩))
      rw [State.recovered, hpos, hlead]
      exact hahead e ((State.firstPending_congr (s.setValve_rowEntries l l r r _)).symm.trans he)

/-- The first PENDING entry between its triggers is opened for, late (R155). -/
theorem State.endRecover_opens (ha : s.activitySound) (hv : (s.valve l r).state = .recover)
    (hair : s.vdr.air = .present) {e : Entry} (he : s.firstPending l r = some e)
    (hopen : e.start ≤ s.bpu.pos + s.vdr.leadOpen) (hclose : s.bpu.pos + s.vdr.leadClose < e.stop) :
    s.endRecover l r = (s.recovered l r).openFor l r e true := by
  have hstate : ((s.recovered l r).valve l r).state = .closed := congrArg Valve.state (s.recovered_valve l r)
  have hrows := s.setValve_rowEntries l l r r ((s.valve l r).idleIn .closed)
  have hidle := State.activeEntry_of_not_serves (l := l) (r := r) ha (Valve.not_serves (by simp [hv]))
  obtain ⟨hpos, hleadOpen, hleadClose⟩ := State.pos_congr (s.setValve_steady l r ((s.valve l r).idleIn .closed))
  exact State.judge_opens (s := s.recovered l r) hstate ((s.recovered_air l r).trans hair)
    ((State.activeEntry_congr hrows).trans hidle) ((State.firstPending_congr hrows).trans he)
    (by rwa [State.recovered, hpos, hleadOpen]) (by rwa [State.recovered, hpos, hleadClose])

end Recover

/-- Settles O39: each expiry as a change of the valve and its row, then the judgment of the valve. -/
theorem valveTimersExpire : Obligations.ValveTimersExpire := by
  intro s l r hs ha v missed rests
  refine ⟨fun hv hrun => ?maxOn, fun hv hserved => ?pulse, fun (hv : (s.valve l r).state = .recover) => ?minOff⟩
  case maxOn =>
    have hexec : exec (.maxOnExpiry l r) s = .next ((s.truncated l r).judge l r .late) :=
      (if_pos ⟨hv, Option.isSome_iff_ne_none.mpr hrun⟩).trans (congrArg _ (s.truncate_eq l r))
    obtain ⟨hsame, honly⟩ := s.truncated_sameBut l r
    obtain ⟨hlanes, hvalves⟩ := State.judge_beside hsame honly .late
    refine ⟨_, hexec, s.truncate_steady l r, hlanes, hvalves, fun hoff => ?_⟩
    obtain ⟨hrests, hcount, hlane⟩ := State.judge_rests (s.truncated_vdr l r) (s.truncated_steady l r) hv hoff .late
    refine ⟨hrests, fun e he => ⟨hcount.trans ?_, fun x => (hlane x).trans ?_⟩⟩
    · have hsta := congrArg (·.get (.ofRetire .truncated)) (s.setValve_sta l r ((s.valve l r).recovering (s.own .minOff)))
      rw [State.truncated_of_active he, State.retire_count]
      exact congrArg (fun n => min 4294967295 (n + 1)) hsta
    · rw [State.truncated_of_active he, State.retire_lane_self, State.enterRecover_lane, hs.nodup.mem_erase_iff,
        and_comm (a := x ≠ e), and_assoc]
      rfl
  case pulse =>
    have hexec : exec (.pulseExpiry l r) s = .next (s.endPulse l r) := if_pos ⟨hv, hserved⟩
    obtain ⟨hlanes, hvalves⟩ := State.judge_beside (u := s.enterRecover l r) (.setValve _) (.setValve s r _) .late
    refine ⟨_, hexec, s.endPulse_steady l r, hlanes, hvalves, fun hoff => ?_⟩
    obtain ⟨hrests, -, hlane⟩ := State.judge_rests (u := s.enterRecover l r) rfl (s.enterRecover_steady l r) hv hoff .late
    exact ⟨hrests, fun x => (hlane x).trans (by rw [State.enterRecover_lane]; rfl)⟩
  case minOff =>
    have hexec : exec (.minOffExpiry l r) s = .next (s.endRecover l r) := if_pos hv
    obtain ⟨hlanes, hvalves⟩ := State.judge_beside (u := s.recovered l r) (.setValve _) (.setValve s r _) .late
    have hbus : (s.recovered l r).vdr.busWrites = s.vdr.busWrites :=
      State.setValve_quiet (by simp [hv]) (Valve.idleIn_ne_opened _ nofun)
    refine ⟨_, hexec, s.endRecover_steady l r, hlanes, hvalves, fun hidle => ?_, fun e hair he hopen hclose => ?_⟩
    · have hvdr := State.endRecover_idle hidle
      exact ⟨by rw [State.valve_congr hvdr, State.recovered_valve]; rfl, by rw [hvdr, hbus]⟩
    · have hown : (s.recovered l r).own = s.own := State.own_congr (s.setValve_steady l r _)
      have hstate := s.recovered_valve l r
      rw [State.endRecover_opens ha hv hair he hopen hclose]
      refine ⟨?_, ?_, ?_⟩
      · rw [State.openFor_busWrites (by rw [hstate]; nofun), hbus]
      · rw [State.openFor_valve, hstate, hown]
        rfl
      · rw [State.openFor_lane, State.recovered, State.setValve_lane, Bool.or_true]
        rfl

end Sys2Proof.Machine
end

section
/-! PROOF. VALVE_SET and VALVE_PULSE (R158, R161). -/
-- One proof at a time: elaborated side by side, the proofs take more stacks than the check's memory holds.
set_option Elab.async false
namespace Sys2Proof.Machine

/-! ### Lanes and rows by number -/

theorem laneOf_val (l : Lane) : laneOf l.val = some l := dif_pos l.isLt

theorem laneOf_eq_none {n : Nat} (h : 47 < n) : laneOf n = none := dif_neg (by omega)

theorem Row.ofCode_eq (r : Row) : Row.ofCode (if r = .up then 0 else 1) = some r := by cases r <;> rfl

theorem Row.ofCode_eq_none {n : Nat} (h : 1 < n) : Row.ofCode n = none := by
  match n, h with
  | _ + 2, _ => rfl

/-! ### A row retired -/

/-- Some entries of a lane retire for one reason, each counted. -/
theorem State.foldl_retire_count (es : List Entry) (s : State) (l : Lane) (reason : RetireReason)
    (h : s.sta.get (.ofRetire reason) ≤ 4294967295) :
    (es.foldl (fun t e => t.retire l e reason) s).sta.get (.ofRetire reason) =
      min 4294967295 (s.sta.get (.ofRetire reason) + es.length) := by
  induction es generalizing s with
  | nil => exact (Nat.min_eq_right h).symm
  | cons e es ih =>
    have hone := s.retire_count l e reason
    rw [List.foldl_cons, ih _ (hone ▸ Nat.min_le_left _ _), hone, List.length_cons]
    omega

/-- The entries of a valve's row in the order in which they retire: the ACTIVE one first (R158). -/
def State.rowInOrder (s : State) (l : Lane) (r : Row) : List Entry :=
  (s.rowEntries l r).filter (·.active) ++ (s.rowEntries l r).filter fun e => !e.active

section TakeOut
variable {s : State} {l : Lane} {r : Row} {st : ValveState}

theorem State.rowInOrder_perm (s : State) (l : Lane) (r : Row) : (s.rowInOrder l r).Perm (s.rowEntries l r) :=
  List.filter_append_perm _ _

theorem State.mem_rowInOrder {e : Entry} (h : e ∈ s.rowInOrder l r) : e.row = .ofRow r :=
  (State.mem_rowEntries.mp ((s.rowInOrder_perm l r).mem_iff.mp h)).2

theorem State.takeOut_eq (s : State) (l : Lane) (r : Row) (st : ValveState) : s.takeOut l r st =
    (s.rowInOrder l r).foldl (fun t e => t.retire l e .unavailable) (s.setValve l r ((s.valve l r).idleIn st)) := by
  unfold State.takeOut State.retireRow State.rowInOrder
  simp only [State.setValve_rowEntries]

/-- A valve taken out of service: its record, the other valves, the bus and the lanes (R158, R159). -/
theorem State.takeOut_parts (s : State) (l : Lane) (r : Row) (st : ValveState) :
    (s.takeOut l r st).vdr = (s.setValve l r ((s.valve l r).idleIn st)).vdr ∧
      (s.takeOut l r st).lane l = ((s.lane l).filter fun x => !x.inRow r) ∧
      ∀ m, m ≠ l → (s.takeOut l r st).lane m = s.lane m := by
  obtain ⟨-, hvdr, -⟩ := State.foldl_retire_sameBut (l := l) (r := r) (s.rowInOrder l r) (fun _ => State.mem_rowInOrder)
    (s.setValve l r ((s.valve l r).idleIn st)) .unavailable
  have honly (es : List Entry) (t : State) :
      State.OnlyLane l t (es.foldl (fun t e => t.retire l e .unavailable) t) := by
    induction es generalizing t with
    | nil => exact .refl t
    | cons e es ih => exact (State.OnlyLane.retire t e .unavailable).trans (ih _)
  refine ⟨s.takeOut_eq l r st ▸ hvdr, ?_, fun m hm => ?_⟩
  · exact (State.retireRow_lane _ l r).trans (by rw [State.setValve_lane])
  · rw [State.takeOut_eq, (honly _ _).lanes m hm, State.setValve_lane]

theorem State.takeOut_valve (s : State) (l m : Lane) (r q : Row) (st : ValveState) : (s.takeOut l r st).valve m q =
    if l = m ∧ r = q then (s.valve l r).idleIn st else s.valve m q := by
  rw [State.valve_congr (s.takeOut_parts l r st).1, State.valve_setValve]

/-- Each entry of the row is counted. -/
theorem State.takeOut_count (l : Lane) (r : Row) (st : ValveState)
    (h : s.sta.get (.ofRetire .unavailable) ≤ 4294967295) : (s.takeOut l r st).sta.get (.ofRetire .unavailable) =
      min 4294967295 (s.sta.get (.ofRetire .unavailable) + (s.rowEntries l r).length) := by
  rw [State.takeOut_eq, State.foldl_retire_count _ _ _ _ (by rwa [State.setValve_sta]), State.setValve_sta,
    (s.rowInOrder_perm l r).length_eq]

/-- The output of a valve taken out closes where it was open. -/
theorem State.takeOut_busWrites (s : State) (l : Lane) (r : Row) (hst : st ≠ .opened) :
    (s.takeOut l r st).vdr.busWrites =
      s.vdr.busWrites ++ if (s.valve l r).state = .opened then [⟨l, r, false⟩] else [] := by
  rw [(s.takeOut_parts l r st).1]
  by_cases hv : (s.valve l r).state = .opened
  · rw [State.setValve_closes hv (Valve.idleIn_ne_opened _ hst), if_pos hv]
  · rw [State.setValve_quiet hv (Valve.idleIn_ne_opened _ hst), if_neg hv, List.append_nil]

end TakeOut

/-! ### VALVE_SET -/

section Set
variable {s : State} {f : Frame} {rest : List Frame} {l : Lane} {r : Row}

theorem State.valveSet_range {body : List Byte} (h : 47 < byteAt body 0 ∨ 1 < byteAt body 1 ∨ 1 < byteAt body 2) :
    s.valveSet body = s.refuse .range [] := by
  unfold State.valveSet
  obtain h | h | h := h
  · rw [laneOf_eq_none h]
  · rw [Row.ofCode_eq_none h]
    cases laneOf (byteAt body 0) <;> rfl
  · split
    · rw [if_neg (by omega), if_neg (by omega)]
    · rfl

section Named
variable {body : List Byte} (hl : l.val = byteAt body 0) (hr : byteAt body 1 = if r = .up then 0 else 1)
include hl hr

theorem State.valveSet_enable (h : byteAt body 2 = 0) :
    s.valveSet body = (s.enable l r).accept (toBytes 1 ((s.enable l r).valve l r).state.code) := by
  unfold State.valveSet
  simp only [← hl, laneOf_val, hr, Row.ofCode_eq, h, if_true]

theorem State.valveSet_disable (h : byteAt body 2 = 1) :
    s.valveSet body = (s.disable l r).accept (toBytes 1 ((s.disable l r).valve l r).state.code) := by
  unfold State.valveSet
  simp only [← hl, laneOf_val, hr, Row.ofCode_eq, h, if_true]
  rfl

end Named

theorem exec_valveEnable (h : s.asked 0x18 f rest) (hlen : f.body.length = 3) (hmine : byteAt f.body 2 ≠ 1) :
    exec .valveEnable s = .next (((s.unqueued rest).valveSet f.body).reply f) :=
  State.takeRequest_asked h (notOther_of_ne hmine) (by rw [hlen]; rfl)

theorem exec_valveDisable (h : s.asked 0x18 f rest) (hlen : f.body.length = 3) (hmine : byteAt f.body 2 ≠ 0) :
    exec .valveDisable s = .next (((s.unqueued rest).valveSet f.body).reply f) :=
  State.takeRequest_asked h (notOther_of_ne hmine) (by rw [hlen]; rfl)

theorem State.disable_of_running (h : (s.valve l r).state ≠ .disabled) : s.disable l r = s.takeOut l r .disabled :=
  if_neg h

theorem State.enable_of_out (h : (s.valve l r).state = .disabled ∨ (s.valve l r).state = .faulted) : s.enable l r =
    (s.setValve l r ((s.valve l r).idleIn .closed)).judge l r (.ordinary s.openReach) :=
  if_pos h

end Set

/-! ### VALVE_PULSE -/

section Pulse
variable {s : State} {f : Frame} {rest : List Frame} {l : Lane} {r : Row} {body : List Byte}

theorem State.valvePulse_range (h : 47 < byteAt body 0 ∨ 1 < byteAt body 1) :
    s.valvePulse body = s.refuse .range [] := by
  unfold State.valvePulse
  dsimp only
  obtain h | h := h
  · rw [laneOf_eq_none h]
  · rw [Row.ofCode_eq_none h]
    cases laneOf (byteAt body 0) <;> rfl

/-- VALVE_PULSE for a lane and row that the part has, in the order of its table (R161). -/
theorem State.valvePulse_named (hl : l.val = byteAt body 0) (hr : byteAt body 1 = if r = .up then 0 else 1) :
    s.valvePulse body =
      if s.eng.state ≠ .idle then s.refuse .state []
      else if (s.valve l r).state = .disabled ∨ (s.valve l r).state = .faulted then s.refuse .state []
      else if s.vdr.air = .lost then s.refuse .notReady []
      else if s.lane l ≠ [] ∨ (s.valve l r).state = .opened ∨ (s.valve l r).state = .recover then s.refuse .busy []
      else (s.setValve l r { s.valve l r with
          state := .opened, served := .pulse, pulse := some (s.pulseTaken (field body 2 4))
          actuations := satAdd Config.countMax (s.valve l r).actuations 1 }).accept
        (toBytes 4 (s.pulseTaken (field body 2 4)) ++
          toBytes 1 (bit (s.pulseTaken (field body 2 4) != field body 2 4) 1)) := by
  unfold State.valvePulse
  simp only [← hl, laneOf_val, hr, Row.ofCode_eq]

theorem exec_valvePulse (h : s.asked 0x19 f rest) (hlen : f.body.length = 6) :
    exec .valvePulse s = .next (((s.unqueued rest).valvePulse f.body).reply f) :=
  State.takeRequest_asked h rfl (by rw [hlen]; rfl)

/-- A record of a CLOSED valve replaced by one that is OPEN. -/
theorem State.setValve_eq_of_opens {v : Valve} (h : (s.valve l r).state = .closed) (hv : v.state = .opened) :
    s.setValve l r v = { s with
      vdr.valves := put s.vdr.valves l ((look s.vdr.valves l).put r v)
      vdr.busWrites := s.vdr.busWrites ++ [⟨l, r, true⟩] } := by
  have hopen : v.isOpen = true := by simp [Valve.isOpen, hv]
  have hclosed : (s.valve l r).isOpen = false := by simp [Valve.isOpen, h]
  unfold State.setValve
  rw [hopen, hclosed]
  rfl

end Pulse

/-- Settles O42: the answers of the two requests by what they name and by the state of the valve. -/
theorem valveRequestsAct : Obligations.ValveRequestsAct := by
  refine ⟨fun s f rest hask hlen => ?set, fun s f rest hask hlen => ?pulse⟩
  case set =>
    intro lane row action
    refine ⟨fun hbad => ⟨fun hmine => ?_, fun hmine => ?_⟩, fun l r hl hr => ?named⟩
    · rw [exec_valveEnable hask hlen hmine, State.valveSet_range hbad]
      rfl
    · rw [exec_valveDisable hask hlen hmine, State.valveSet_range hbad]
      rfl
    case named =>
      intro v u
      have enabled {t : State} (haction : action = 0) (ht : u.enable l r = t) :
          exec .valveEnable s = .next (t.replied f .ok (toBytes 1 (t.valve l r).state.code)) := by
        rw [exec_valveEnable hask hlen (show byteAt f.body 2 ≠ 1 from fun h => by simp [action, h] at haction),
          State.valveSet_enable hl hr haction, ← ht]
        rfl
      have disabled {t : State} (haction : action = 1) (ht : u.disable l r = t) :
          exec .valveDisable s = .next (t.replied f .ok (toBytes 1 (t.valve l r).state.code)) := by
        rw [exec_valveDisable hask hlen (show byteAt f.body 2 ≠ 0 from fun h => by simp [action, h] at haction),
          State.valveSet_disable hl hr haction, ← ht]
        rfl
      refine ⟨fun haction hv => ?enables, fun haction hd hf => ?stands,
        fun haction (hv : (s.valve l r).state = .disabled) => ?again,
        fun haction (hv : (s.valve l r).state ≠ .disabled) hs => ?disables⟩
      case enables => exact ⟨_, enabled haction (State.enable_of_out hv), rfl⟩
      case stands => exact enabled haction (t := u) (if_neg fun h => h.elim hd hf)
      case again =>
        have hexec := disabled haction (t := u) (if_pos hv)
        rwa [show (u.valve l r).state = .disabled from hv] at hexec
      case disables =>
        have hvalve := u.takeOut_valve l l r r .disabled
        rw [if_pos ⟨rfl, rfl⟩] at hvalve
        obtain ⟨-, hlane, hlanes⟩ := u.takeOut_parts l r .disabled
        have hexec := disabled haction (State.disable_of_running hv)
        rw [hvalve] at hexec
        refine ⟨u.takeOut l r .disabled, hexec, u.takeOut_steady l r _, hvalve, fun m q hne => ?_,
          u.takeOut_busWrites l r nofun, hlane.trans (List.filter_congr fun x _ => ?_), hlanes, u.takeOut_count l r _⟩
        · exact (u.takeOut_valve l m r q .disabled).trans (if_neg fun h => hne (by rw [h.1, h.2]))
        · by_cases hx : x.row = .ofRow r <;> simp [Entry.inRow, hx]
  case pulse =>
    intro sent answer
    have hexec := exec_valvePulse hask hlen
    have refused {st : Status} (h : (s.unqueued rest).valvePulse f.body = (s.unqueued rest).refuse st []) : answer st := by
      show exec .valvePulse s = _
      rw [hexec, h]
      rfl
    refine ⟨fun hbad => refused (State.valvePulse_range hbad), fun l r hl hr => ?_⟩
    have hnamed := State.valvePulse_named (s := s.unqueued rest) hl hr
    intro v
    refine ⟨fun hbusy => refused (hnamed.trans (if_pos hbusy)), fun hidle => ⟨fun hout => ?_, fun hd hf => ⟨fun hair => ?_,
      fun hair => ⟨fun hfull => ?_, fun hempty hclosed => ?taken⟩⟩⟩⟩
    · exact refused (hnamed.trans ((if_neg (not_not.mpr hidle)).trans (if_pos hout)))
    · exact refused (hnamed.trans ((if_neg (not_not.mpr hidle)).trans ((if_neg fun h => h.elim hd hf).trans (if_pos hair))))
    · have hstate : s.lane l ≠ [] ∨ v.state = .opened ∨ v.state = .recover := by
        refine hfull.imp_right fun hne => ?_
        cases hv : v.state with
        | closed => exact absurd hv hne
        | opened => exact .inl rfl
        | recover => exact .inr rfl
        | disabled => exact absurd hv hd
        | faulted => exact absurd hv hf
      have hpresent : ¬ (s.unqueued rest).vdr.air = .lost := by simp [State.unqueued, hair]
      exact refused (hnamed.trans ((if_neg (not_not.mpr hidle)).trans ((if_neg fun h => h.elim hd hf).trans
        ((if_neg hpresent).trans (if_pos hstate)))))
    case taken =>
      intro taken
      have hpresent : ¬ (s.unqueued rest).vdr.air = .lost := by simp [State.unqueued, hair]
      have hfree : ¬ (s.lane l ≠ [] ∨ v.state = .opened ∨ v.state = .recover) := by simp [hempty, hclosed]
      have hclamp : bit (taken != sent) 1 = if taken = sent then 0 else 1 := by
        by_cases h : taken = sent <;> simp [bit, h]
      have hact := hnamed.trans ((if_neg (not_not.mpr hidle)).trans ((if_neg fun h => h.elim hd hf).trans
        ((if_neg hpresent).trans (if_neg hfree))))
      rw [hexec, hact, State.setValve_eq_of_opens (s := s.unqueued rest) hclosed rfl, ← hclamp]
      rfl

end Sys2Proof.Machine
end

section
/-! SUPPORT. Entries that retire for one reason, one after another (R163): their count, what their owners lose, and the
notices that their retirement may place. -/
-- One proof at a time: elaborated side by side, the proofs take more stacks than the check's memory holds.
set_option Elab.async false
namespace Sys2Proof.Machine

/-! ### Entries retired for one reason -/

/-- How many entries of a list name a slot as owner. -/
def ownedIn (i : Slot) (es : List Entry) : Nat := (es.filter fun e => e.owner.map Prod.fst = some i).length

/-- The entries of a list retired for one reason: each counted, and a piece that still holds its slot lost those that
name it. -/
structure State.RetiresAll (reason : RetireReason) (es : List Entry) (s t : State) : Prop where
  count : s.sta.get (.ofRetire reason) ≤ 4294967295 →
    t.sta.get (.ofRetire reason) = min 4294967295 (s.sta.get (.ofRetire reason) + es.length)
  pieces : ∀ i q, t.piece i = some q → ∃ p, s.piece i = some p ∧ q = (Piece.retireOne reason)^[ownedIn i es] p

section RetiresAll
variable {reason : RetireReason} {es fs : List Entry} {s t u : State}

theorem ownedIn_append (i : Slot) (es fs : List Entry) : ownedIn i (es ++ fs) = ownedIn i es + ownedIn i fs := by
  simp [ownedIn]

theorem ownedIn_singleton (i : Slot) (e : Entry) :
    ownedIn i [e] = if e.owner.map Prod.fst = some i then 1 else 0 := by
  unfold ownedIn
  rw [List.filter_cons]
  by_cases h : e.owner.map Prod.fst = some i
  · rw [if_pos h, if_pos (decide_eq_true h)]
    rfl
  · rw [if_neg h, if_neg (Bool.eq_false_iff.mp (decide_eq_false h))]
    rfl

theorem ownedIn_perm (h : es.Perm fs) (i : Slot) : ownedIn i es = ownedIn i fs := (h.filter _).length_eq

theorem State.RetiresAll.perm (h : State.RetiresAll reason es s t) (hp : es.Perm fs) :
    State.RetiresAll reason fs s t :=
  ⟨fun hs => hp.length_eq ▸ h.count hs, fun i q hq => ownedIn_perm hp i ▸ h.pieces i q hq⟩

/-- What leaves the count and the pieces retires nothing. -/
theorem State.RetiresAll.of_parts (hsta : t.sta.get (.ofRetire reason) = s.sta.get (.ofRetire reason))
    (hseg : t.seg = s.seg) : State.RetiresAll reason [] s t :=
  ⟨fun hs => hsta.trans (Nat.min_eq_right hs).symm, fun i q hq => ⟨q, by rwa [State.piece_congr hseg] at hq, rfl⟩⟩

theorem State.RetiresAll.trans (h : State.RetiresAll reason es s t) (g : State.RetiresAll reason fs t u) :
    State.RetiresAll reason (es ++ fs) s u where
  count hs := by
    have ht := h.count hs
    rw [g.count (ht ▸ Nat.min_le_left _ _), ht, List.length_append]
    omega
  pieces i q hq := by
    obtain ⟨p, hp, rfl⟩ := g.pieces i q hq
    obtain ⟨o, ho, rfl⟩ := h.pieces i p hp
    exact ⟨o, ho, by rw [ownedIn_append, Nat.add_comm, Function.iterate_add_apply]⟩

/-- What completes a piece or not leaves the records of the pieces that stay. -/
theorem State.piece_ownerDone {s : State} {o : Option (Slot × PieceNo)} {i : Slot} {q : Piece}
    (h : (s.ownerDone o).piece i = some q) : s.piece i = some q := by
  have done (j : Slot) (hd : (s.complete j).piece i = some q) : s.piece i = some q := by
    cases hp : s.piece j with
    | none => rwa [State.complete, hp] at hd
    | some p =>
      cases hc : p.classed with
      | none => simpa only [State.complete, hp, hc] using hd
      | some c =>
        rw [State.complete_piece hp hc] at hd
        split_ifs at hd
        exact hd
  cases o with
  | none => exact h
  | some o =>
    unfold State.ownerDone State.completeIfDone at h
    dsimp only at h
    split at h
    · split_ifs at h
      · exact done o.1 h
      · exact h
    · exact h

theorem State.retire_retiresAll (s : State) (l : Lane) (e : Entry) (reason : RetireReason) :
    State.RetiresAll reason [e] s (s.retire l e reason) where
  count _ := s.retire_count l e reason
  pieces i q hq := by
    have hq := State.piece_ownerDone hq
    cases ho : e.owner with
    | none => exact ⟨q, by rwa [ho] at hq, by rw [ownedIn_singleton, if_neg (by simp [ho])]; rfl⟩
    | some o =>
      rw [ho, State.tallyOwner, State.piece_updatePiece] at hq
      by_cases hi : o.1 = i
      · rw [if_pos hi] at hq
        obtain ⟨p, hp, rfl⟩ := Option.map_eq_some_iff.mp hq
        exact ⟨p, hi ▸ hp, by rw [ownedIn_singleton, if_pos (by simp [ho, hi])]; rfl⟩
      · rw [if_neg hi] at hq
        exact ⟨q, hq, by rw [ownedIn_singleton, if_neg (by simp [ho, hi])]; rfl⟩

theorem State.foldl_retire_retiresAll (es : List Entry) (s : State) (l : Lane) (reason : RetireReason) :
    State.RetiresAll reason es s (es.foldl (fun t e => t.retire l e reason) s) := by
  induction es generalizing s with
  | nil => exact .of_parts rfl rfl
  | cons e es ih => exact (s.retire_retiresAll l e reason).trans (ih _)

theorem State.setValve_retiresAll (s : State) (l : Lane) (r : Row) (v : Valve) (reason : RetireReason) :
    State.RetiresAll reason [] s (s.setValve l r v) :=
  .of_parts (by rw [State.setValve_sta]) (s.setValve_seg l r v)

theorem Piece.retireOne_airLost (n : Nat) (p : Piece) : (Piece.retireOne .airLost)^[n] p =
    { p with
      tallies.dropAirLost := p.tallies.dropAirLost + n
      pendingEntries := p.pendingEntries - n } := by
  induction n with
  | zero => rfl
  | succ n ih =>
    rw [Function.iterate_succ_apply', ih]
    rfl

theorem Piece.retireOne_unavailable (n : Nat) (p : Piece) : (Piece.retireOne .unavailable)^[n] p =
    { p with
      tallies.dropUnavailable := p.tallies.dropUnavailable + n
      pendingEntries := p.pendingEntries - n } := by
  induction n with
  | zero => rfl
  | succ n ih =>
    rw [Function.iterate_succ_apply', ih]
    rfl

end RetiresAll

/-! ### Faults that do not halt -/

section Faults
variable {s : State} {k : FaultKind}

/-- AIR_LOST and VALVE_FAULT set their flag and are reported, in every engine state (R174). -/
theorem State.raiseFault_plain (hk : k = .airLost ∨ k = .valveFault) : s.raiseFault k =
    (s.flag k).offer (.fault (.raised k) s.eng.state (s.eng.flags.raise k) s.bpu.pos) := by
  refine State.raiseFault_reported (fun h => ?_) fun h => ?_
  · obtain rfl | rfl := hk <;> exact absurd h.1 nofun
  · obtain rfl | rfl := hk <;> exact absurd h.1 nofun

theorem State.raiseFault_plain_parts (hk : k = .airLost ∨ k = .valveFault) :
    (s.raiseFault k).seg = s.seg ∧ (s.raiseFault k).lsc = s.lsc ∧ (s.raiseFault k).vdr = s.vdr ∧
      (s.raiseFault k).eng = { s.eng with flags := s.eng.flags.raise k } ∧
      ∀ c : Counter, c.ofOffer = false → (s.raiseFault k).sta.get c = s.sta.get c := by
  rw [State.raiseFault_plain hk]
  exact ⟨State.offer_seg _ _, State.offer_lsc _ _, State.offer_vdr _ _, State.offer_eng _ _,
    fun c hc => State.offer_get (s := s.flag k) hc _⟩

end Faults

/-! ### Notices -/

/-- The notices stand, and those placed after them are all of one kind. -/
def State.Tells (p : Notice → Prop) (s t : State) : Prop :=
  ∃ ns, t.lnk.notices = s.lnk.notices ++ ns ∧ ∀ n ∈ ns, p n

section Tells
variable {p : Notice → Prop} {s t u : State}

theorem State.Tells.of_same (h : t.lnk.notices = s.lnk.notices) : s.Tells p t :=
  ⟨[], by rw [h, List.append_nil], fun _ hn => absurd hn List.not_mem_nil⟩

theorem State.Tells.trans (h : s.Tells p t) (g : t.Tells p u) : s.Tells p u := by
  obtain ⟨ns, ht, hns⟩ := h
  obtain ⟨ms, hu, hms⟩ := g
  refine ⟨ns ++ ms, by rw [hu, ht, List.append_assoc], fun n hn => ?_⟩
  exact (List.mem_append.mp hn).elim (hns n) (hms n)

theorem State.Tells.foldl {α : Type} {f : State → α → State} (h : ∀ t a, State.Tells p t (f t a)) (as : List α)
    (s : State) : s.Tells p (as.foldl f s) := by
  induction as generalizing s with
  | nil => exact .of_same rfl
  | cons a as ih => exact (h s a).trans (ih _)

theorem State.Tells.length_le (h : s.Tells p t) : s.lnk.notices.length ≤ t.lnk.notices.length := by
  obtain ⟨ns, ht, -⟩ := h
  simp [ht]

theorem State.count_tells (s : State) (c : Counter) (n : Nat) : s.Tells p (s.count c n) := .of_same rfl

theorem State.offer_tells {n : Notice} (hn : p n) : s.Tells p (s.offer n) := by
  unfold State.offer
  split_ifs
  · exact .of_same rfl
  · exact ⟨[n], rfl, by simpa using hn⟩
  · exact .of_same rfl

/-- What is told at the end of a piece: PIECE notices and the end of DRAINING. -/
def Notice.ofEnding : Notice → Prop
  | .piece _ _ _ _ => True
  | .engine _ _ _ _ _ _ => True
  | _ => False

theorem State.offerPiece_tells (x : Piece) (o : PieceOutcome) : s.Tells Notice.ofEnding (s.offerPiece x o) := by
  unfold State.offerPiece
  split_ifs
  · exact .of_same rfl
  · exact .of_same rfl
  · exact ⟨_, rfl, by simp [Notice.ofEnding]⟩

theorem State.judgeDrained_tells (s : State) : s.Tells Notice.ofEnding s.judgeDrained := by
  unfold State.judgeDrained State.setEngine
  split_ifs
  · exact .of_same rfl
  · exact (State.Tells.of_same rfl).trans (State.offer_tells trivial)
  · exact .of_same rfl

theorem State.complete_tells (s : State) (i : Slot) : s.Tells Notice.ofEnding (s.complete i) := by
  unfold State.complete
  split
  · exact .of_same rfl
  · next x _ =>
    split
    · exact .of_same rfl
    · next c _ =>
      have report : s.Tells Notice.ofEnding (if c.terms.report then s.offerPiece x (x.tallies.outcome c.dest)
          else s.count .suppressed 1) := by
        split_ifs
        · exact State.offerPiece_tells x _
        · exact .of_same rfl
      have released (v : State) : v.Tells Notice.ofEnding (v.releaseSlot i) := by
        obtain ⟨-, -, -, hlnk⟩ := v.releaseSlot_parts i
        exact .of_same (by rw [hlnk])
      exact (((report.trans (State.count_tells _ (.ofClass c.cls) 1)).trans (State.count_tells _ (.ofOutcome _) 1)).trans
        (released _)).trans (State.judgeDrained_tells _)

theorem State.retire_tells (s : State) (l : Lane) (e : Entry) (reason : RetireReason) :
    s.Tells Notice.ofEnding (s.retire l e reason) := by
  have tallied (v : State) (f : Piece → Piece) : v.Tells Notice.ofEnding (v.tallyOwner e.owner f) := by
    unfold State.tallyOwner
    split <;> exact .of_same rfl
  have done (v : State) : v.Tells Notice.ofEnding (v.ownerDone e.owner) := by
    unfold State.ownerDone State.completeIfDone
    split
    · split
      · split_ifs
        · exact v.complete_tells _
        · exact .of_same rfl
      · exact .of_same rfl
    · exact .of_same rfl
  have left : s.Tells Notice.ofEnding ((s.setLane l ((s.lane l).erase e)).count (.ofRetire reason) 1) := .of_same rfl
  exact (left.trans (tallied _ (Piece.retireOne reason))).trans (done _)

theorem State.setValve_tells (s : State) (l : Lane) (r : Row) (v : Valve) : s.Tells p (s.setValve l r v) :=
  .of_same (by rw [State.setValve_lnk])

/-- The notices placed before stand before those that updates place. -/
theorem State.Life.notices_prefix {A : Part → Prop} (h : s.Life A t) : s.lnk.notices <+: t.lnk.notices :=
  h.lift (R := fun s t => s.lnk.notices <+: t.lnk.notices) (fun _ => List.prefix_rfl) (fun _ _ _ => List.IsPrefix.trans)
    fun s t g => by
      cases g with
      | notice n _ _ => exact List.prefix_append _ _
      | pieceNotice n _ => exact List.prefix_append _ _
      | valve l r v _ _ => rw [State.setValve_lnk]
      | _ => exact List.prefix_rfl

end Tells

end Sys2Proof.Machine
end

section
/-! PROOF. The loss of the air and its return (R150, R156, R157, R163, R174, R177). -/
-- One proof at a time: elaborated side by side, the proofs take more stacks than the check's memory holds.
set_option Elab.async false
namespace Sys2Proof.Machine

/-! ### One valve at a loss of the air -/

section One
variable {s : State} {l m : Lane} {r q : Row} {e x : Entry}

theorem State.loseAirAt_of_closed (h : (s.valve l r).state ≠ .opened) : s.loseAirAt l r = s := if_neg h

theorem State.loseAirAt_of_active (h : (s.valve l r).state = .opened) (he : s.activeEntry l r = some e) :
    s.loseAirAt l r = (s.setValve l r ((s.valve l r).idleIn .closed)).retire l e .airLost := by
  unfold State.loseAirAt
  simp only [h, he, if_true]

theorem State.loseAirAt_of_none (h : (s.valve l r).state = .opened) (he : s.activeEntry l r = none) :
    s.loseAirAt l r = s.setValve l r ((s.valve l r).idleIn .closed) := by
  unfold State.loseAirAt
  simp only [h, he, if_true]

/-- The cases of a valve at a loss of the air. -/
theorem State.loseAirAt_cases (s : State) (l : Lane) (r : Row) :
    ((s.valve l r).state ≠ .opened ∧ s.loseAirAt l r = s) ∨
    (∃ e, (s.valve l r).state = .opened ∧ s.activeEntry l r = some e ∧
      s.loseAirAt l r = (s.setValve l r ((s.valve l r).idleIn .closed)).retire l e .airLost) ∨
    ((s.valve l r).state = .opened ∧ s.activeEntry l r = none ∧
      s.loseAirAt l r = s.setValve l r ((s.valve l r).idleIn .closed)) := by
  by_cases h : (s.valve l r).state = .opened
  · cases he : s.activeEntry l r with
    | none => exact .inr (.inr ⟨h, rfl, State.loseAirAt_of_none h he⟩)
    | some e => exact .inr (.inl ⟨e, h, rfl, State.loseAirAt_of_active h he⟩)
  · exact .inl ⟨h, State.loseAirAt_of_closed h⟩

theorem State.loseAirAt_sameBut (s : State) (l : Lane) (r : Row) :
    State.SameBut l r s (s.loseAirAt l r) ∧ State.OnlyLane l s (s.loseAirAt l r) := by
  obtain ⟨-, h⟩ | ⟨e, -, he, h⟩ | ⟨-, -, h⟩ := s.loseAirAt_cases l r <;> rw [h]
  · exact ⟨.refl s, .refl s⟩
  · exact ⟨(State.SameBut.setValve _).trans (.retire (State.mem_of_find he).2 _),
      (State.OnlyLane.setValve s r _).trans (.retire _ e _)⟩
  · exact ⟨.setValve _, .setValve s r _⟩

/-- The output of an OPEN valve closes, and the valve is CLOSED with nothing served. -/
theorem State.loseAirAt_vdr (s : State) (l : Lane) (r : Row) :
    (s.loseAirAt l r).vdr.busWrites =
      s.vdr.busWrites ++ (if (s.valve l r).state = .opened then [⟨l, r, false⟩] else []) ∧
    (s.loseAirAt l r).valve l r =
      if (s.valve l r).state = .opened then (s.valve l r).idleIn .closed else s.valve l r := by
  have hidle : ((s.valve l r).idleIn .closed).state ≠ .opened := nofun
  obtain ⟨hv, h⟩ | ⟨e, hv, -, h⟩ | ⟨hv, -, h⟩ := s.loseAirAt_cases l r <;> rw [h]
  · simp only [if_neg hv, List.append_nil, and_self]
  · rw [State.retire_vdr, State.retire_valve, State.setValve_closes hv hidle, State.setValve_valve, if_pos hv, if_pos hv]
    exact ⟨rfl, rfl⟩
  · rw [State.setValve_closes hv hidle, State.setValve_valve, if_pos hv, if_pos hv]
    exact ⟨rfl, rfl⟩

/-- The entry that a valve serves while it is OPEN. -/
def State.airServed (s : State) (v : Lane × Row) : Option Entry :=
  if (s.valve v.1 v.2).state = .opened then s.activeEntry v.1 v.2 else none

theorem State.airServed_eq_some {v : Lane × Row} : s.airServed v = some x ↔
    (s.valve v.1 v.2).state = .opened ∧ s.activeEntry v.1 v.2 = some x := by
  unfold State.airServed
  split_ifs with h <;> simp [h]

theorem State.loseAirAt_retiresAll (s : State) (l : Lane) (r : Row) :
    State.RetiresAll .airLost (s.airServed (l, r)).toList s (s.loseAirAt l r) := by
  unfold State.airServed
  obtain ⟨hv, h⟩ | ⟨e, hv, he, h⟩ | ⟨hv, he, h⟩ := s.loseAirAt_cases l r <;> rw [h]
  · rw [if_neg hv]
    exact .of_parts rfl rfl
  · rw [if_pos hv, he]
    exact (s.setValve_retiresAll l r _ _).trans (State.retire_retiresAll _ l e _)
  · rw [if_pos hv, he]
    exact s.setValve_retiresAll l r _ _

theorem State.mem_loseAirAt (hs : laneSound (s.lane m)) : x ∈ (s.loseAirAt l r).lane m ↔
    x ∈ s.lane m ∧ ¬ (m = l ∧ s.airServed (l, r) = some x) := by
  rw [State.airServed_eq_some]
  obtain ⟨hv, h⟩ | ⟨e, hv, he, h⟩ | ⟨hv, he, h⟩ := s.loseAirAt_cases l r <;> rw [h]
  · simp [hv]
  · rw [State.retire_lane, State.setValve_lane, State.setValve_lane]
    by_cases hm : l = m
    · subst hm
      rw [if_pos rfl, hs.nodup.mem_erase_iff]
      simp [hv, he, and_comm, eq_comm]
    · simp [hm, Ne.symm hm]
  · rw [State.setValve_lane]
    simp [he]

theorem State.loseAirAt_calm (s : State) (l : Lane) (r : Row) : s.Calm (s.loseAirAt l r) := by
  have closed (h : (s.valve l r).state = .opened) := s.setValve_calm l r ((s.valve l r).idleIn .closed)
    (Valve.available_of_opened h)
  obtain ⟨-, h⟩ | ⟨e, hv, -, h⟩ | ⟨hv, -, h⟩ := s.loseAirAt_cases l r <;> rw [h]
  · exact .refl s
  · exact (closed hv).trans (State.retire_calm _ l e _)
  · exact closed hv

end One

/-! ### Every valve at a loss of the air -/

/-- The valves of a list closed at a loss of the air, one after another. -/
def State.airClosed (s : State) (vs : List (Lane × Row)) : State := vs.foldl (fun t v => t.loseAirAt v.1 v.2) s

section All
variable {s : State} {v w : Lane × Row} {vs : List (Lane × Row)}

/-- A valve stands at the closing of another. -/
theorem State.loseAirAt_other (s : State) (h : w ≠ v) :
    (s.loseAirAt v.1 v.2).valve w.1 w.2 = s.valve w.1 w.2 ∧ (s.loseAirAt v.1 v.2).airServed w = s.airServed w := by
  have hne : ¬ (w.1 = v.1 ∧ w.2 = v.2) := fun e => h (Prod.ext e.1 e.2)
  obtain ⟨hsame, -⟩ := s.loseAirAt_sameBut v.1 v.2
  have hvalve := hsame.valves w.1 w.2 hne
  have hrow : (s.loseAirAt v.1 v.2).rowEntries w.1 w.2 = s.rowEntries w.1 w.2 :=
    hsame.rows w.1 (.ofRow w.2) fun e => hne ⟨e.1, EntryRow.ofRow_injective e.2⟩
  refine ⟨hvalve, ?_⟩
  unfold State.airServed
  rw [hvalve, State.activeEntry_congr hrow]

theorem State.airClosed_busWrites (hnodup : vs.Nodup) (s : State) : (s.airClosed vs).vdr.busWrites = s.vdr.busWrites ++
    (vs.filter fun v => (s.valve v.1 v.2).state = .opened).map fun v => ⟨v.1, v.2, false⟩ := by
  induction vs generalizing s with
  | nil => exact (List.append_nil _).symm
  | cons v vs ih =>
    obtain ⟨hv, hnodup⟩ := List.nodup_cons.mp hnodup
    have hrest : (vs.filter fun w => ((s.loseAirAt v.1 v.2).valve w.1 w.2).state = .opened) =
        vs.filter fun w => (s.valve w.1 w.2).state = .opened := List.filter_congr fun w hw => by
      rw [(s.loseAirAt_other fun h : w = v => hv (h ▸ hw)).1]
    refine (ih hnodup _).trans ?_
    rw [hrest, (s.loseAirAt_vdr v.1 v.2).1, List.filter_cons, List.append_assoc]
    by_cases hopen : (s.valve v.1 v.2).state = .opened <;> simp [hopen]

theorem State.airClosed_retiresAll (hnodup : vs.Nodup) (s : State) :
    State.RetiresAll .airLost (vs.filterMap s.airServed) s (s.airClosed vs) := by
  induction vs generalizing s with
  | nil => exact .of_parts rfl rfl
  | cons v vs ih =>
    obtain ⟨hv, hnodup⟩ := List.nodup_cons.mp hnodup
    have hrest : vs.filterMap (s.loseAirAt v.1 v.2).airServed = vs.filterMap s.airServed :=
      List.filterMap_congr fun w hw => (s.loseAirAt_other fun h : w = v => hv (h ▸ hw)).2
    have hall := (s.loseAirAt_retiresAll v.1 v.2).trans (hrest ▸ ih hnodup (s.loseAirAt v.1 v.2))
    cases hserved : s.airServed v with
    | none => rwa [hserved, Option.toList_none, List.nil_append, ← List.filterMap_cons_none hserved] at hall
    | some e => rwa [hserved, Option.toList_some, List.singleton_append, ← List.filterMap_cons_some hserved] at hall

theorem State.airClosed_valve (hnodup : vs.Nodup) (s : State) (w : Lane × Row) : (s.airClosed vs).valve w.1 w.2 =
    if w ∈ vs ∧ (s.valve w.1 w.2).state = .opened then (s.valve w.1 w.2).idleIn .closed else s.valve w.1 w.2 := by
  induction vs generalizing s with
  | nil => exact (if_neg fun h => List.not_mem_nil h.1).symm
  | cons v vs ih =>
    obtain ⟨hv, hnodup⟩ := List.nodup_cons.mp hnodup
    refine (ih hnodup _).trans ?_
    by_cases hw : w = v
    · subst hw
      rw [if_neg fun h => hv h.1, (s.loseAirAt_vdr w.1 w.2).2]
      simp
    · rw [(s.loseAirAt_other hw).1]
      simp [hw]

theorem State.airClosed_mem (hnodup : vs.Nodup) {s : State} (hs : s.lanesSound) {l : Lane} {x : Entry} :
    x ∈ (s.airClosed vs).lane l ↔ x ∈ s.lane l ∧ ¬ ∃ r, (l, r) ∈ vs ∧ s.airServed (l, r) = some x := by
  induction vs generalizing s with
  | nil => simp [State.airClosed]
  | cons v vs ih =>
    obtain ⟨hv, hnodup⟩ := List.nodup_cons.mp hnodup
    have hsound : (s.loseAirAt v.1 v.2).lanesSound := (s.loseAirAt_secures v.1 v.2).lanes hs
    have hother (r : Row) (hr : (l, r) ∈ vs) : (s.loseAirAt v.1 v.2).airServed (l, r) = s.airServed (l, r) :=
      (s.loseAirAt_other fun h : (l, r) = v => hv (h ▸ hr)).2
    refine (ih hnodup hsound).trans ?_
    rw [State.mem_loseAirAt (hs l), and_assoc]
    refine and_congr_right fun _ => ⟨fun ⟨hfirst, hrest⟩ => ?_, fun hno => ⟨fun ⟨hl, hx⟩ => ?_, fun ⟨r, hr, hx⟩ => ?_⟩⟩
    · rintro ⟨r, hr, hx⟩
      obtain hr | hr := List.mem_cons.mp hr
      · exact hfirst (by subst hr; exact ⟨rfl, hx⟩)
      · exact hrest ⟨r, hr, (hother r hr).trans hx⟩
    · exact hno ⟨v.2, by rw [hl]; exact List.mem_cons_self, by rw [hl]; exact hx⟩
    · exact hno ⟨r, List.mem_cons_of_mem v hr, (hother r hr).symm.trans hx⟩

theorem State.airClosed_calm (s : State) (vs : List (Lane × Row)) : s.Calm (s.airClosed vs) := by
  unfold State.airClosed
  exact .foldl (fun t v => t.loseAirAt_calm v.1 v.2) vs s

theorem State.airClosed_steady (s : State) (vs : List (Lane × Row)) : (s.airClosed vs).steady = s.steady := by
  unfold State.airClosed
  exact State.foldl_steady _ (fun t v => t.loseAirAt_steady v.1 v.2) vs s

theorem nodup_valveOrder : valveOrder.Nodup := by
  refine List.nodup_flatMap.mpr ⟨fun l _ => by simp, (List.nodup_finRange 48).imp fun {l m} hne => ?_⟩
  intro v hv hw
  simp only [List.mem_cons, List.not_mem_nil, or_false] at hv hw
  obtain rfl | rfl := hv <;> simp [hne] at hw

end All

/-- AIR_LOST is the closing of every valve, and then the fault (R156, R174). -/
theorem State.loseAir_eq (s : State) : s.loseAir =
    (({ s with vdr.air := .lost } : State).airClosed valveOrder).raiseFault .airLost := rfl

theorem exec_airLost {s : State} (h : s.vdr.air = .present) : exec .airLost s = .next s.loseAir := by
  show execAirLost s = _
  unfold execAirLost
  rw [h]

theorem exec_airRestored {s : State} (h : s.vdr.air = .lost) : exec .airRestored s = .next s.regainAir := by
  show execAirRestored s = _
  unfold execAirRestored
  rw [h]

/-! ### The judgments of all valves -/

section Judgments
variable {s : State} {l : Lane} {r : Row} {o : Opening}

/-- A valve and its row stand at the judgments of others. -/
theorem State.foldl_judge_beside {vs : List (Lane × Row)} (h : (l, r) ∉ vs) (s : State) :
    (vs.foldl (fun t v => t.judge v.1 v.2 o) s).valve l r = s.valve l r ∧
      (vs.foldl (fun t v => t.judge v.1 v.2 o) s).rowEntries l r = s.rowEntries l r := by
  induction vs generalizing s with
  | nil => exact ⟨rfl, rfl⟩
  | cons v vs ih =>
    obtain ⟨hv, hvs⟩ := List.ne_and_not_mem_of_not_mem_cons h
    obtain ⟨hvalve, hrow⟩ := ih hvs (s.judge v.1 v.2 o)
    have hne : ¬ (l = v.1 ∧ r = v.2) := fun e => hv (Prod.ext e.1 e.2)
    have hsame : State.SameBut v.1 v.2 s (s.judge v.1 v.2 o) := State.SameBut.judgeLoop o _ _ s
    exact ⟨hvalve.trans (hsame.valves l r hne),
      hrow.trans (hsame.rows l (.ofRow r) fun e => hne ⟨e.1, EntryRow.ofRow_injective e.2⟩)⟩

/-- Each valve is judged once, as it and its row stood before. -/
theorem State.foldl_judge_at {vs : List (Lane × Row)} (hnodup : vs.Nodup) (hmem : (l, r) ∈ vs) (s : State)
    (o : Opening) : ∃ t : State, t.steady = s.steady ∧ t.valve l r = s.valve l r ∧
      t.rowEntries l r = s.rowEntries l r ∧
      (vs.foldl (fun t v => t.judge v.1 v.2 o) s).valve l r = (t.judge l r o).valve l r ∧
      (vs.foldl (fun t v => t.judge v.1 v.2 o) s).rowEntries l r = (t.judge l r o).rowEntries l r := by
  obtain ⟨before, after, rfl⟩ := List.append_of_mem hmem
  obtain ⟨-, hcons, hdisj⟩ := List.nodup_append.mp hnodup
  have hbefore : (l, r) ∉ before := fun hb => hdisj (l, r) hb (l, r) List.mem_cons_self rfl
  obtain ⟨hvalve, hrow⟩ := State.foldl_judge_beside (o := o) hbefore s
  have hsteady := State.foldl_steady (fun t v => t.judge v.1 v.2 o) (fun t v => t.judge_steady v.1 v.2 o) before s
  rw [List.foldl_append, List.foldl_cons]
  generalize before.foldl (fun t v => t.judge v.1 v.2 o) s = t at *
  exact ⟨t, hsteady, hvalve, hrow, State.foldl_judge_beside (o := o) (List.nodup_cons.mp hcons).1 (t.judge l r o)⟩

theorem State.judgeAll_at (s : State) (o : Opening) (l : Lane) (r : Row) : ∃ t : State, t.steady = s.steady ∧
    t.valve l r = s.valve l r ∧ t.rowEntries l r = s.rowEntries l r ∧
    (s.judgeAll o).valve l r = (t.judge l r o).valve l r ∧
    (s.judgeAll o).rowEntries l r = (t.judge l r o).rowEntries l r :=
  State.foldl_judge_at nodup_valveOrder (mem_valveOrder l r) s o

/-- A CLOSED valve without an entry that is due stays as it is through the judgments of all valves. -/
theorem State.judgeAll_idle (hv : (s.valve l r).state = .closed) (hair : s.vdr.air = .present)
    (h : ∀ e, s.firstPending l r = some e → s.bpu.pos + s.vdr.leadOpen < e.start) :
    (s.judgeAll o).valve l r = s.valve l r := by
  obtain ⟨t, hsteady, hvalve, hrow, hlast, -⟩ := s.judgeAll_at o l r
  obtain ⟨hpos, hlead, -⟩ := State.pos_congr hsteady
  have hstate : (t.valve l r).state = .closed := by rw [hvalve, hv]
  have hpresent : t.vdr.air = .present := (congrArg Steady.air hsteady).trans hair
  have hsettled : t.settled l r := ⟨by simp [hstate], fun hcan => by simp [hstate, hpresent] at hcan, fun _ _ e he => by
    rw [hpos, hlead]
    exact h e ((State.firstPending_congr hrow).symm.trans he)⟩
  rw [hlast, State.judge_of_settled (State.judgeStep_eq_none_iff.mpr hsettled), hvalve]

/-- A CLOSED valve whose first PENDING entry is between its triggers opens for it. -/
theorem State.judgeAll_opens (hv : (s.valve l r).state = .closed) (hair : s.vdr.air = .present)
    (hnone : s.activeEntry l r = none) {e : Entry} (he : s.firstPending l r = some e)
    (hopen : e.start ≤ s.bpu.pos + s.vdr.leadOpen) (hclose : s.bpu.pos + s.vdr.leadClose < e.stop) :
    (s.judgeAll o).valve l r = { s.valve l r with
        state := .opened, served := .entry, maxOn := some ⟨0, s.own .maxOn⟩
        actuations := min 4294967295 ((s.valve l r).actuations + 1) } ∧
      { e with active := true, lateStart := e.lateStart || o.marks false e } ∈ (s.judgeAll o).lane l := by
  obtain ⟨t, hsteady, hvalve, hrow, hlast, hlastRow⟩ := s.judgeAll_at o l r
  obtain ⟨hpos, hleadOpen, hleadClose⟩ := State.pos_congr hsteady
  have hfirst : t.firstPending l r = some e := (State.firstPending_congr hrow).trans he
  have hjudge : t.judge l r o = t.openFor l r e (o.marks false e) :=
    State.judge_opens (by rw [hvalve, hv]) ((congrArg Steady.air hsteady).trans hair)
      ((State.activeEntry_congr hrow).trans hnone) hfirst (by rwa [hpos, hleadOpen]) (by rwa [hpos, hleadClose])
  rw [hjudge] at hlast hlastRow
  refine ⟨by rw [hlast, State.openFor_valve, hvalve, State.own_congr hsteady], ?_⟩
  obtain ⟨hmem, herow⟩ := State.mem_of_find hfirst
  have hopened : { e with active := true, lateStart := e.lateStart || o.marks false e } ∈
      (t.openFor l r e (o.marks false e)).lane l := by
    rw [State.openFor_lane]
    exact List.mem_map.mpr ⟨e, hmem, if_pos rfl⟩
  have hrowmem := State.mem_rowEntries.mpr ⟨hopened, herow⟩
  rw [← hlastRow] at hrowmem
  exact (State.mem_rowEntries.mp hrowmem).1

theorem State.judgeAll_calm (s : State) (o : Opening) : s.Calm (s.judgeAll o) :=
  .foldl (fun t _ => t.judgeLoop_calm _ _ o _ _) valveOrder s

end Judgments

/-- Settles O41: the valves close one after another, each with the entry it serves; at the return each is judged once. -/
theorem airIsLostAndReturns : Obligations.AirIsLostAndReturns := by
  refine ⟨fun s hair => ?lost, fun s hair hs => ?sound, fun s hair => ?restored, fun s hair _ ha => ?opens⟩
  case lost =>
    intro flags open_ served owned u
    have hu : u = ({ s with vdr.air := .lost } : State).airClosed valveOrder := rfl
    clear_value u
    have hserved : valveOrder.filterMap ({ s with vdr.air := .lost } : State).airServed = served := by
      refine Eq.trans ?_ List.filterMap_filter.symm
      refine List.filterMap_congr fun v _ => ?_
      unfold State.airServed
      exact if_congr (decide_eq_true_iff).symm rfl rfl
    have hcalm := ({ s with vdr.air := .lost } : State).airClosed_calm valveOrder
    have hsteady := ({ s with vdr.air := .lost } : State).airClosed_steady valveOrder
    obtain ⟨hcount, hpieces⟩ := State.airClosed_retiresAll nodup_valveOrder ({ s with vdr.air := .lost } : State)
    have hbus := State.airClosed_busWrites nodup_valveOrder ({ s with vdr.air := .lost } : State)
    rw [← hu] at hcalm hsteady hbus hcount hpieces
    rw [hserved] at hcount hpieces
    refine ⟨?_, hbus, hcount, fun i p q hp hq => ?_⟩
    · have hflags : u.eng.flags.raise .airLost = flags := congrArg (·.raise .airLost) hcalm.flags
      have hpos : u.bpu.pos = s.bpu.pos := (State.pos_congr hsteady).1
      rw [exec_airLost hair, State.loseAir_eq, ← hu, State.raiseFault_plain (.inl rfl), hflags, hpos, State.flag, hflags]
    · obtain ⟨o, ho, rfl⟩ := hpieces i q hq
      obtain rfl : p = o := Option.some.inj (hp.symm.trans ho)
      exact Piece.retireOne_airLost _ p
  case sound =>
    have hsound : ({ s with vdr.air := .lost } : State).lanesSound := hs
    have hcalm := ({ s with vdr.air := .lost } : State).airClosed_calm valveOrder
    have hsteady := ({ s with vdr.air := .lost } : State).airClosed_steady valveOrder
    have hvalve := State.airClosed_valve nodup_valveOrder ({ s with vdr.air := .lost } : State)
    have hmem {l : Lane} {x : Entry} := State.airClosed_mem (x := x) (l := l) nodup_valveOrder hsound
    have hexec := exec_airLost hair
    rw [State.loseAir_eq] at hexec
    generalize ({ s with vdr.air := .lost } : State).airClosed valveOrder = u at *
    obtain ⟨-, hlsc, hvdr, heng, -⟩ := State.raiseFault_plain_parts (s := u) (.inl rfl : FaultKind.airLost = .airLost ∨ _)
    refine ⟨_, hexec, (u.raiseFault_steady .airLost).trans hsteady, ?_, fun hrun => ?_, fun l r => ?_, fun l x => ?_⟩
    · rw [heng]
      exact congrArg (·.raise .airLost) hcalm.flags
    · rw [heng]
      exact hcalm.state.resolve_right fun h => hrun h.1
    · rw [State.valve_congr hvdr, hvalve (l, r)]
      exact if_congr (and_iff_right (mem_valveOrder l r)) rfl rfl
    · rw [State.lane_congr hlsc, hmem]
      simp only [mem_valveOrder, true_and, State.airServed_eq_some]
      rfl
  case restored =>
    exact ⟨_, exec_airRestored hair, State.judgeAll_judged _ _, rfl⟩
  case opens =>
    let u : State := State.offer (.fault .airRestored s.eng.state s.eng.flags s.bpu.pos) { s with vdr.air := .present }
    have hsteady : u.steady = { s.steady with air := .present } := State.offer_steady _ _
    have hown : u.own = s.own := State.own_congr (s := { s with vdr.air := .present }) (State.offer_steady _ _)
    have hvdr : u.vdr = { s.vdr with air := .present } := State.offer_vdr _ _
    have hpos : u.bpu = s.bpu := State.offer_bpu _ _
    have hvalve (l : Lane) (r : Row) : u.valve l r = s.valve l r :=
      congrFun (congrFun (State.valve_congr (s := { s with vdr.air := .present }) hvdr) l) r
    have hrow (l : Lane) (r : Row) : u.rowEntries l r = s.rowEntries l r :=
      State.rowEntries_congr (congrFun (State.lane_congr (s := { s with vdr.air := .present }) (State.offer_lsc _ _)) l) r
    refine ⟨u.judgeAll .late, exec_airRestored hair, (State.judgeAll_steady u .late).trans hsteady, ?_, fun hroom => ?_,
      fun l r hv => ⟨fun hahead => ?_, fun e he hopen hclose => ?_⟩⟩
    · exact (u.judgeAll_calm .late).flags.trans (congrArg Eng.flags (State.offer_eng _ _))
    · have hnotices : u.lnk.notices = s.lnk.notices ++ [.fault .airRestored s.eng.state s.eng.flags s.bpu.pos] :=
        State.offer_notices rfl hroom
      have hprefix := (u.judgeAll_life (A := fun _ => True)
        ⟨fun _ _ => trivial, trivial, trivial, fun _ _ => trivial⟩ .late).notices_prefix
      rw [hnotices, List.prefix_iff_eq_take, List.length_append] at hprefix
      exact hprefix.symm
    · rw [State.judgeAll_idle (by rw [hvalve, hv]) (by rw [hvdr]) fun e he => ?_, hvalve]
      rw [hpos, hvdr]
      exact hahead e ((State.firstPending_congr (hrow l r)).symm.trans he)
    · have hnone := State.activeEntry_of_not_serves (l := l) (r := r) ha (Valve.not_serves (by simp [hv]))
      obtain ⟨hopened, hmem⟩ := State.judgeAll_opens (s := u) (o := .late) (l := l) (r := r) (by rw [hvalve, hv])
        (by rw [hvdr]) ((State.activeEntry_congr (hrow l r)).trans hnone) ((State.firstPending_congr (hrow l r)).trans he)
        (by rw [hpos, hvdr]; exact hopen) (by rw [hpos, hvdr]; exact hclose)
      rw [hopened, hown, hvalve]
      exact ⟨rfl, rfl, rfl, rfl, by simpa [Opening.marks] using hmem⟩

end Sys2Proof.Machine
end

section
/-! PROOF. The return frames of the valve bus (R159, R163). -/
-- One proof at a time: elaborated side by side, the proofs take more stacks than the check's memory holds.
set_option Elab.async false
namespace Sys2Proof.Machine

/-! ### One report -/

theorem ValveState.inService_iff (st : ValveState) : st.inService = true ↔ st ≠ .disabled ∧ st ≠ .faulted := by
  cases st <;> simp [ValveState.inService]

/-- A report takes its valve out of service. -/
def State.takes (s : State) (c : CoilReport) : Prop :=
  c.coil = .fault ∧ (s.valve c.lane c.row).state.inService = true

/-- The coil status of a report recorded. -/
def State.coiled (s : State) (c : CoilReport) : State :=
  s.setValve c.lane c.row { s.valve c.lane c.row with coil := c.coil }

section Report
variable {s : State} {c : CoilReport} {m : Lane} {q : Row}

theorem State.takeReport_of_takes (h : s.takes c) : s.takeReport c =
    ((s.coiled c).takeOut c.lane c.row .faulted).raiseFault .valveFault := by
  unfold State.takeReport
  exact if_pos h

theorem State.takeReport_of_not (h : ¬ s.takes c) : s.takeReport c = s.coiled c := by
  unfold State.takeReport
  exact if_neg h

theorem State.coiled_valve (s : State) (c : CoilReport) (m : Lane) (q : Row) : (s.coiled c).valve m q =
    if c.lane = m ∧ c.row = q then { s.valve c.lane c.row with coil := c.coil } else s.valve m q :=
  s.valve_setValve c.lane m c.row q _

theorem State.takeReport_valve_of_takes (h : s.takes c) (m : Lane) (q : Row) : (s.takeReport c).valve m q =
    if c.lane = m ∧ c.row = q then { (s.valve c.lane c.row).idleIn .faulted with coil := .fault } else s.valve m q := by
  obtain ⟨-, -, hvdr, -, -⟩ := State.raiseFault_plain_parts (s := (s.coiled c).takeOut c.lane c.row .faulted)
    (.inr rfl : FaultKind.valveFault = .airLost ∨ _)
  rw [State.takeReport_of_takes h, State.valve_congr hvdr, State.takeOut_valve, State.coiled_valve, State.coiled_valve,
    if_pos (⟨rfl, rfl⟩ : c.lane = c.lane ∧ c.row = c.row), h.1]
  split_ifs <;> rfl

theorem State.takeReport_valve_of_not (h : ¬ s.takes c) (m : Lane) (q : Row) : (s.takeReport c).valve m q =
    if c.lane = m ∧ c.row = q then { s.valve c.lane c.row with coil := c.coil } else s.valve m q := by
  rw [State.takeReport_of_not h, State.coiled_valve]

/-- A report reaches its own valve only. -/
theorem State.takeReport_valve_other (s : State) (h : (c.lane, c.row) ≠ (m, q)) :
    (s.takeReport c).valve m q = s.valve m q := by
  have hne : ¬ (c.lane = m ∧ c.row = q) := fun e => h (by rw [e.1, e.2])
  by_cases ht : s.takes c
  · rw [State.takeReport_valve_of_takes ht, if_neg hne]
  · rw [State.takeReport_valve_of_not ht, if_neg hne]

theorem State.coiled_lane (s : State) (c : CoilReport) (m : Lane) : (s.coiled c).lane m = s.lane m :=
  s.setValve_lane c.lane m c.row _

theorem State.mem_takeReport {x : Entry} : x ∈ (s.takeReport c).lane m ↔
    x ∈ s.lane m ∧ (s.takes c → c.lane = m → x.row ≠ .ofRow c.row) := by
  by_cases ht : s.takes c
  · obtain ⟨-, hlsc, -⟩ := State.raiseFault_plain_parts (s := (s.coiled c).takeOut c.lane c.row .faulted)
      (.inr rfl : FaultKind.valveFault = .airLost ∨ _)
    obtain ⟨-, hlane, hlanes⟩ := (s.coiled c).takeOut_parts c.lane c.row .faulted
    rw [State.takeReport_of_takes ht, State.lane_congr hlsc]
    by_cases hm : c.lane = m
    · subst hm
      rw [hlane, State.coiled_lane]
      simp [ht, Entry.inRow]
    · rw [hlanes m (Ne.symm hm), State.coiled_lane]
      simp [hm]
  · rw [State.takeReport_of_not ht, State.coiled_lane]
    simp [ht]

theorem State.takeReport_rowEntries (h : (c.lane, c.row) ≠ (m, q) ∨ ¬ s.takes c) :
    (s.takeReport c).rowEntries m q = s.rowEntries m q := by
  by_cases ht : s.takes c
  · obtain ⟨-, hlsc, -⟩ := State.raiseFault_plain_parts (s := (s.coiled c).takeOut c.lane c.row .faulted)
      (.inr rfl : FaultKind.valveFault = .airLost ∨ _)
    have hne := h.resolve_right (not_not.mpr ht)
    obtain ⟨-, hlane, hlanes⟩ := (s.coiled c).takeOut_parts c.lane c.row .faulted
    rw [State.takeReport_of_takes ht]
    unfold State.rowEntries
    rw [State.lane_congr hlsc]
    by_cases hm : c.lane = m
    · subst hm
      rw [hlane, State.coiled_lane, List.filter_filter]
      refine List.filter_congr fun x _ => ?_
      by_cases hx : x.row = .ofRow q
      · have hrow : EntryRow.ofRow q ≠ .ofRow c.row := fun hc => hne (by rw [EntryRow.ofRow_injective hc])
        simp [Entry.inRow, hx, hrow]
      · simp [Entry.inRow, hx]
    · rw [hlanes m (Ne.symm hm), State.coiled_lane]
  · rw [State.takeReport_of_not ht]
    exact State.rowEntries_congr (s.coiled_lane c m) q

/-- The entries of a valve taken out retire, the others stay. -/
theorem State.takeReport_retiresAll (s : State) (c : CoilReport) : State.RetiresAll .unavailable
    (if c.coil = .fault ∧ (s.valve c.lane c.row).state.inService = true then s.rowEntries c.lane c.row else [])
    s (s.takeReport c) := by
  have coiled : State.RetiresAll .unavailable [] s (s.coiled c) := s.setValve_retiresAll _ _ _ _
  split_ifs with ht
  · obtain ⟨hseg, -, -, -, hsta⟩ := State.raiseFault_plain_parts (s := (s.coiled c).takeOut c.lane c.row .faulted)
      (.inr rfl : FaultKind.valveFault = .airLost ∨ _)
    have raised := State.RetiresAll.of_parts (reason := .unavailable) (hsta _ rfl) hseg
    have retired := ((s.coiled c).setValve_retiresAll c.lane c.row
      (((s.coiled c).valve c.lane c.row).idleIn .faulted) .unavailable).trans
        (State.foldl_retire_retiresAll ((s.coiled c).rowInOrder c.lane c.row) _ c.lane .unavailable)
    rw [← State.takeOut_eq] at retired
    have hperm := (s.coiled c).rowInOrder_perm c.lane c.row
    rw [State.rowEntries_congr (s.coiled_lane c c.lane)] at hperm
    rw [State.takeReport_of_takes ht]
    simpa using ((coiled.trans retired).trans raised).perm (by simpa using hperm)
  · rw [State.takeReport_of_not ht]
    exact coiled

end Report

/-! ### The fault of a valve -/

section Fault
variable {s : State} {c : CoilReport}

theorem State.takeOut_calm (h : (s.valve c.lane c.row).state.inService = true) :
    s.Calm (s.takeOut c.lane c.row .faulted) := by
  have havailable : (s.valve c.lane c.row).available = true := by
    obtain ⟨hd, hf⟩ := (ValveState.inService_iff _).mp h
    simp [Valve.available, hd, hf]
  rw [State.takeOut_eq]
  exact (s.setValve_calm _ _ _ havailable).trans (.foldl (fun t e => t.retire_calm c.lane e .unavailable) _ _)

theorem State.takeOut_tells (s : State) (l : Lane) (r : Row) (st : ValveState) :
    s.Tells Notice.ofEnding (s.takeOut l r st) := by
  rw [State.takeOut_eq]
  exact (s.setValve_tells l r _).trans (.foldl (fun t e => t.retire_tells l e .unavailable) _ _)

theorem State.takeReport_flags (h : s.takes c) : (s.takeReport c).eng.flags = s.eng.flags.raise .valveFault := by
  have hservice : ((s.coiled c).valve c.lane c.row).state.inService = true := by
    rw [State.coiled_valve, if_pos ⟨rfl, rfl⟩]
    exact h.2
  obtain ⟨-, -, -, heng, -⟩ := State.raiseFault_plain_parts (s := (s.coiled c).takeOut c.lane c.row .faulted)
    (.inr rfl : FaultKind.valveFault = .airLost ∨ _)
  have hcoiled : (s.coiled c).eng = s.eng := s.setValve_eng _ _ _
  rw [State.takeReport_of_takes h, heng]
  exact congrArg (FaultFlags.raise · .valveFault)
    ((State.takeOut_calm hservice).flags.trans (congrArg Eng.flags hcoiled))

/-- A report that takes no valve reaches the valve's record only. -/
theorem State.takeReport_quiet (h : ¬ s.takes c) :
    (s.takeReport c).eng = s.eng ∧ (s.takeReport c).lnk = s.lnk ∧ (s.takeReport c).seg = s.seg := by
  rw [State.takeReport_of_not h]
  exact ⟨s.setValve_eng _ _ _, s.setValve_lnk _ _ _, s.setValve_seg _ _ _⟩

/-- Is it the FAULT notice of a valve? -/
def Notice.isValveFault : Notice → Bool
  | .fault (.raised .valveFault) _ _ _ => true
  | _ => false

theorem Notice.isValveFault_of_ofEnding {n : Notice} (h : n.ofEnding) : n.isValveFault = false := by
  cases n with
  | piece _ _ _ _ => rfl
  | engine _ _ _ _ _ _ => rfl
  | _ => cases h

/-- The FAULT notices of valves in the queue. -/
def State.valveFaults (s : State) : List Notice := s.lnk.notices.filter Notice.isValveFault

/-- Where there is room, each valve taken out has its notice (R159, R174). -/
theorem State.takeReport_valveFaults (h : s.takes c) :
    s.lnk.notices.length ≤ (s.takeReport c).lnk.notices.length ∧
      ((s.takeReport c).lnk.notices.length < 64 →
        (s.takeReport c).valveFaults.length = s.valveFaults.length + 1) := by
  have hcoiled : (s.coiled c).lnk = s.lnk := s.setValve_lnk _ _ _
  obtain ⟨ns, hout, hns⟩ := (s.coiled c).takeOut_tells c.lane c.row .faulted
  rw [hcoiled] at hout
  rw [State.takeReport_of_takes h, State.raiseFault_plain (.inr rfl)]
  generalize (s.coiled c).takeOut c.lane c.row .faulted = u at *
  generalize hn : Notice.fault (.raised .valveFault) u.eng.state (u.eng.flags.raise .valveFault) u.bpu.pos = n
  have hsuppress : (u.flag .valveFault).suppresses n = false := hn ▸ rfl
  have hisFault : n.isValveFault = true := hn ▸ rfl
  have htold : (u.flag .valveFault).lnk.notices = s.lnk.notices ++ ns := hout
  have hquiet : ns.filter Notice.isValveFault = [] :=
    List.filter_eq_nil_iff.mpr fun x hx => Bool.eq_false_iff.mp (Notice.isValveFault_of_ofEnding (hns x hx))
  have hgrows := (State.offer_tells (s := u.flag .valveFault) (p := fun _ => True) (n := n) trivial).length_le
  refine ⟨(by rw [htold, List.length_append] at hgrows; omega), fun hroom => ?_⟩
  have hplaced := State.offer_notices hsuppress (hgrows.trans_lt hroom)
  unfold State.valveFaults
  rw [hplaced, htold, List.filter_append, List.filter_append, hquiet, List.filter_singleton, hisFault]
  simp

end Fault

/-! ### The valves a frame takes out -/

/-- The valves that the reports of a frame take out of service: in service, and reported with a FAULT. -/
def State.takenBy (s : State) (cs : List CoilReport) : List (Lane × Row) :=
  valveOrder.filter fun v => (s.valve v.1 v.2).state.inService &&
    cs.any fun c => decide (c.coil = .fault) && decide ((c.lane, c.row) = v)

/-- The entries of those valves. -/
def State.lostBy (s : State) (cs : List CoilReport) : List Entry :=
  (s.takenBy cs).flatMap fun v => s.rowEntries v.1 v.2

section Frame
variable {s : State} {c : CoilReport} {cs : List CoilReport} {v : Lane × Row}

theorem State.mem_takenBy : v ∈ s.takenBy cs ↔
    (s.valve v.1 v.2).state.inService = true ∧ ∃ c ∈ cs, c.coil = .fault ∧ (c.lane, c.row) = v := by
  obtain ⟨m, q⟩ := v
  simp [State.takenBy, mem_valveOrder]

theorem State.nodup_takenBy (s : State) (cs : List CoilReport) : (s.takenBy cs).Nodup := nodup_valveOrder.filter _

theorem State.mem_takenBy_cons : v ∈ s.takenBy (c :: cs) ↔ (s.takes c ∧ v = (c.lane, c.row)) ∨ v ∈ s.takenBy cs := by
  rw [State.mem_takenBy, State.mem_takenBy, List.exists_mem_cons_iff, and_or_left]
  refine or_congr_left ⟨fun ⟨hv, hc, heq⟩ => ?_, fun ⟨⟨hc, hv⟩, heq⟩ => ?_⟩
  · subst heq
    exact ⟨⟨hc, hv⟩, rfl⟩
  · subst heq
    exact ⟨hv, hc, rfl⟩

/-- A valve taken out is FAULTED, and no later report takes it. -/
theorem State.mem_takenBy_takeReport_of_takes (h : s.takes c) : v ∈ (s.takeReport c).takenBy cs ↔
    v ≠ (c.lane, c.row) ∧ v ∈ s.takenBy cs := by
  rw [State.mem_takenBy, State.mem_takenBy, State.takeReport_valve_of_takes h]
  by_cases hv : v = (c.lane, c.row)
  · subst hv
    simp [Valve.idleIn, ValveState.inService]
  · have hne : ¬ (c.lane = v.1 ∧ c.row = v.2) := fun e => hv (Prod.ext e.1.symm e.2.symm)
    rw [if_neg hne]
    exact (and_iff_right hv).symm

theorem State.mem_takenBy_takeReport_of_not (h : ¬ s.takes c) :
    v ∈ (s.takeReport c).takenBy cs ↔ v ∈ s.takenBy cs := by
  rw [State.mem_takenBy, State.mem_takenBy, State.takeReport_valve_of_not h]
  split_ifs with hv
  · rw [← hv.1, ← hv.2]
  · rfl

/-- The first report that takes a valve, and the valves that the reports after it take. -/
theorem State.takenBy_cons_of_takes (h : s.takes c) :
    ((c.lane, c.row) :: (s.takeReport c).takenBy cs).Perm (s.takenBy (c :: cs)) := by
  have hfirst : (c.lane, c.row) ∉ (s.takeReport c).takenBy cs := fun hm =>
    ((State.mem_takenBy_takeReport_of_takes h).mp hm).1 rfl
  refine (List.perm_ext_iff_of_nodup (List.nodup_cons.mpr ⟨hfirst, State.nodup_takenBy _ _⟩) (s.nodup_takenBy _)).mpr
    fun v => ?_
  rw [List.mem_cons, State.mem_takenBy_takeReport_of_takes h, State.mem_takenBy_cons]
  by_cases hv : v = (c.lane, c.row) <;> simp [hv, h]

theorem State.takenBy_cons_of_not (h : ¬ s.takes c) : (s.takeReport c).takenBy cs = s.takenBy (c :: cs) := by
  refine List.filter_congr fun v hv => Bool.eq_iff_iff.mpr ?_
  have hmem := State.mem_takenBy_takeReport_of_not (cs := cs) (v := v) h
  have hcons := State.mem_takenBy_cons (s := s) (c := c) (cs := cs) (v := v)
  unfold State.takenBy at hmem hcons
  rw [List.mem_filter, List.mem_filter, and_iff_right hv, and_iff_right hv] at hmem hcons
  rw [hmem, hcons]
  simp [h]

theorem State.lostBy_cons_of_takes (h : s.takes c) :
    (s.rowEntries c.lane c.row ++ (s.takeReport c).lostBy cs).Perm (s.lostBy (c :: cs)) := by
  have hsame : (s.takeReport c).lostBy cs =
      ((s.takeReport c).takenBy cs).flatMap fun v => s.rowEntries v.1 v.2 := by
    refine List.flatMap_congr fun v hv => State.takeReport_rowEntries (.inl fun e => ?_)
    exact ((State.mem_takenBy_takeReport_of_takes h).mp hv).1 e.symm
  have hperm := (State.takenBy_cons_of_takes (cs := cs) h).flatMap_right fun v => s.rowEntries v.1 v.2
  rwa [List.flatMap_cons, ← hsame] at hperm

theorem State.lostBy_cons_of_not (h : ¬ s.takes c) : (s.takeReport c).lostBy cs = s.lostBy (c :: cs) := by
  unfold State.lostBy
  rw [State.takenBy_cons_of_not h]
  exact List.flatMap_congr fun v _ => State.takeReport_rowEntries (.inr h)

/-- The reports of a frame, taken one after another. -/
def State.takeReports (s : State) (cs : List CoilReport) : State := cs.foldl (fun u c => u.takeReport c) s

theorem State.takeReports_cons (s : State) (c : CoilReport) (cs : List CoilReport) :
    s.takeReports (c :: cs) = (s.takeReport c).takeReports cs := rfl

theorem State.takeReports_steady (s : State) (cs : List CoilReport) : (s.takeReports cs).steady = s.steady := by
  unfold State.takeReports
  exact State.foldl_steady _ (fun t c => t.takeReport_steady c) cs s

theorem State.takeReports_retiresAll (s : State) (cs : List CoilReport) :
    State.RetiresAll .unavailable (s.lostBy cs) s (s.takeReports cs) := by
  induction cs generalizing s with
  | nil =>
    have hnone : s.lostBy [] = [] := by simp [State.lostBy, State.takenBy]
    rw [hnone]
    exact .of_parts rfl rfl
  | cons c cs ih =>
    have hfirst := (s.takeReport_retiresAll c).trans (ih (s.takeReport c))
    by_cases ht : s.takes c
    · rw [if_pos (show c.coil = .fault ∧ (s.valve c.lane c.row).state.inService = true from ht)] at hfirst
      exact hfirst.perm (State.lostBy_cons_of_takes ht)
    · rw [if_neg (show ¬ (c.coil = .fault ∧ (s.valve c.lane c.row).state.inService = true) from ht),
        State.lostBy_cons_of_not ht] at hfirst
      exact hfirst

/-- The flag of VALVE_FAULT is raised where a valve is taken out. -/
theorem State.takeReports_flags (s : State) (cs : List CoilReport) : (s.takeReports cs).eng.flags =
    if s.takenBy cs = [] then s.eng.flags else s.eng.flags.raise .valveFault := by
  induction cs generalizing s with
  | nil => simp [State.takenBy, State.takeReports]
  | cons c cs ih =>
    rw [State.takeReports_cons, ih]
    by_cases ht : s.takes c
    · have hsome : s.takenBy (c :: cs) ≠ [] := List.ne_nil_of_mem (State.mem_takenBy_cons.mpr (.inl ⟨ht, rfl⟩))
      rw [if_neg hsome, State.takeReport_flags ht]
      split_ifs <;> rfl
    · rw [State.takenBy_cons_of_not ht, (State.takeReport_quiet ht).1]

/-- A frame that takes no valve reaches the records of the valves only. -/
theorem State.takeReports_quiet (h : s.takenBy cs = []) :
    (s.takeReports cs).eng = s.eng ∧ (s.takeReports cs).lnk = s.lnk ∧ (s.takeReports cs).seg = s.seg := by
  induction cs generalizing s with
  | nil => exact ⟨rfl, rfl, rfl⟩
  | cons c cs ih =>
    have ht : ¬ s.takes c := fun ht => by
      have hmem := State.mem_takenBy_cons (cs := cs).mpr (.inl ⟨ht, rfl⟩)
      rw [h] at hmem
      cases hmem
    obtain ⟨heng, hlnk, hseg⟩ := ih ((State.takenBy_cons_of_not ht).trans h)
    obtain ⟨heng', hlnk', hseg'⟩ := State.takeReport_quiet ht
    exact ⟨heng.trans heng', hlnk.trans hlnk', hseg.trans hseg'⟩

/-- Where there is room to the end, each valve taken out has its notice. -/
theorem State.takeReports_valveFaults (s : State) (cs : List CoilReport) :
    s.lnk.notices.length ≤ (s.takeReports cs).lnk.notices.length ∧
      ((s.takeReports cs).lnk.notices.length < 64 →
        (s.takeReports cs).valveFaults.length = s.valveFaults.length + (s.takenBy cs).length) := by
  induction cs generalizing s with
  | nil => exact ⟨Nat.le_refl _, fun _ => by simp [State.takenBy, State.takeReports]⟩
  | cons c cs ih =>
    obtain ⟨hlen, hfaults⟩ := ih (s.takeReport c)
    rw [State.takeReports_cons]
    by_cases ht : s.takes c
    · obtain ⟨hlen', hfaults'⟩ := State.takeReport_valveFaults ht
      refine ⟨hlen'.trans hlen, fun hroom => ?_⟩
      rw [hfaults hroom, hfaults' (hlen.trans_lt hroom), ← (State.takenBy_cons_of_takes ht).length_eq, List.length_cons]
      omega
    · obtain ⟨-, hlnk, -⟩ := State.takeReport_quiet ht
      have hsame : (s.takeReport c).valveFaults = s.valveFaults := by
        unfold State.valveFaults
        rw [hlnk]
      refine ⟨(by rwa [hlnk] at hlen), fun hroom => ?_⟩
      rw [hfaults hroom, hsame, State.takenBy_cons_of_not ht]

/-- A valve that no report names stands. -/
theorem State.takeReports_valve_other {m : Lane} {q : Row} (h : ∀ c ∈ cs, (c.lane, c.row) ≠ (m, q)) (s : State) :
    (s.takeReports cs).valve m q = s.valve m q := by
  induction cs generalizing s with
  | nil => rfl
  | cons c cs ih =>
    obtain ⟨hc, hcs⟩ := List.forall_mem_cons.mp h
    exact (ih hcs _).trans (s.takeReport_valve_other hc)

/-- Where no valve is reported twice, each is as its one report leaves it. -/
theorem State.takeReports_valve (hnodup : (cs.map fun c => (c.lane, c.row)).Nodup) (hc : c ∈ cs) (s : State) :
    (s.takeReports cs).valve c.lane c.row = (s.takeReport c).valve c.lane c.row := by
  obtain ⟨before, after, rfl⟩ := List.append_of_mem hc
  rw [List.map_append, List.map_cons] at hnodup
  obtain ⟨-, hcons, hdisj⟩ := List.nodup_append.mp hnodup
  have hbefore : ∀ d ∈ before, (d.lane, d.row) ≠ (c.lane, c.row) := fun d hd =>
    hdisj _ (List.mem_map_of_mem hd) _ List.mem_cons_self
  have hafter : ∀ d ∈ after, (d.lane, d.row) ≠ (c.lane, c.row) := fun d hd e =>
    (List.nodup_cons.mp hcons).1 (e ▸ List.mem_map_of_mem (f := fun c => (c.lane, c.row)) hd)
  have hvalve := State.takeReports_valve_other hbefore s
  have hsplit : s.takeReports (before ++ c :: after) = ((s.takeReports before).takeReport c).takeReports after :=
    List.foldl_append
  rw [hsplit, State.takeReports_valve_other hafter]
  generalize s.takeReports before = t at hvalve
  have htakes : t.takes c ↔ s.takes c := by rw [State.takes, State.takes, hvalve]
  by_cases ht : s.takes c
  · rw [State.takeReport_valve_of_takes ht, State.takeReport_valve_of_takes (htakes.mpr ht), hvalve]
  · rw [State.takeReport_valve_of_not ht, State.takeReport_valve_of_not (mt htakes.mp ht), hvalve]

/-- The entries of the valves taken out leave their lanes. -/
theorem State.mem_takeReports {l : Lane} {x : Entry} (s : State) (cs : List CoilReport) :
    x ∈ (s.takeReports cs).lane l ↔ x ∈ s.lane l ∧ ∀ v ∈ s.takenBy cs, v.1 = l → x.row ≠ .ofRow v.2 := by
  induction cs generalizing s with
  | nil => simp [State.takenBy, State.takeReports]
  | cons c cs ih =>
    rw [State.takeReports_cons, ih, State.mem_takeReport, and_assoc]
    refine and_congr_right fun _ => ?_
    by_cases ht : s.takes c
    · have hall : (∀ v ∈ s.takenBy (c :: cs), v.1 = l → x.row ≠ .ofRow v.2) ↔
          ∀ v ∈ (c.lane, c.row) :: (s.takeReport c).takenBy cs, v.1 = l → x.row ≠ .ofRow v.2 :=
        forall_congr' fun v => imp_congr_left (State.takenBy_cons_of_takes ht).mem_iff.symm
      rw [hall, List.forall_mem_cons]
      exact and_congr_left fun _ => ⟨fun h => h ht, fun h _ => h⟩
    · rw [State.takenBy_cons_of_not ht]
      exact and_iff_right fun h => absurd h ht

end Frame

theorem exec_valveReturnFrame {s : State} (reports : List CoilReport) (good broken : Bool) (h : s.vdr.inFrame = true) :
    exec (.valveReturnFrame reports good broken) s = .next (if good = true ∧ broken = false then
      ({ s with vdr.inFrame := false } : State).takeReports reports else { s with vdr.inFrame := false }) := by
  show execValveReturnFrame reports good broken s = _
  unfold execValveReturnFrame State.takeReports
  rw [if_pos h]
  exact (apply_ite Host.Outcome.next _ _ _).symm

/-- A report spelled out (R159). -/
theorem State.takeReport_eq (s : State) (c : CoilReport) : s.takeReport c =
    if c.coil = .fault ∧ (s.valve c.lane c.row).state ≠ .disabled ∧ (s.valve c.lane c.row).state ≠ .faulted then
      State.raiseFault .valveFault (((s.coiled c).rowInOrder c.lane c.row).foldl
        (fun t e => t.retire c.lane e .unavailable) ((s.coiled c).setValve c.lane c.row
          (((s.coiled c).valve c.lane c.row).idleIn .faulted)))
    else s.coiled c := by
  rw [← State.takeOut_eq]
  unfold State.takeReport
  exact if_congr (and_congr_right fun _ => ValveState.inService_iff _) rfl rfl

/-- The valves of a kind, in lane order, UP before DOWN. -/
theorem filter_valveOrder (p : Lane × Row → Prop) [DecidablePred p] : valveOrder.filter (fun v => decide (p v)) =
    (List.finRange 48).flatMap fun l => [Row.up, Row.down].flatMap fun r => if p (l, r) then [(l, r)] else [] := by
  unfold valveOrder
  rw [List.filter_flatMap]
  refine List.flatMap_congr fun l _ => ?_
  by_cases hu : p (l, .up) <;> by_cases hd : p (l, .down) <;> simp [hu, hd]

/-- Settles O43: a frame as its reports one after another, and what they leave of each valve, lane, piece and count. -/
theorem returnFrameReportsCoils : Obligations.ReturnFrameReportsCoils := by
  intro s reports good broken hframe
  have hexec := exec_valveReturnFrame reports good broken hframe
  refine ⟨fun hbad => ?bad, fun hgood hwhole => ?reports, fun hgood hwhole _ hnodup => ?apart⟩
  case bad => rw [hexec, if_neg (by rintro ⟨rfl, rfl⟩; simp at hbad)]
  case reports =>
    intro faulty taken lost owned raised
    rw [if_pos ⟨hgood, hwhole⟩] at hexec
    have htaken : ({ s with vdr.inFrame := false } : State).takenBy reports = taken := by
      refine Eq.trans (List.filter_congr fun v _ => ?_) (filter_valveOrder faulty)
      rw [Bool.eq_iff_iff]
      simp only [Bool.and_eq_true, ValveState.inService_iff, List.any_eq_true, decide_eq_true_eq, faulty, and_assoc]
      rfl
    have hlost : ({ s with vdr.inFrame := false } : State).lostBy reports = lost := by
      unfold State.lostBy
      rw [htaken]
      rfl
    obtain ⟨hcount, hpieces⟩ := ({ s with vdr.inFrame := false } : State).takeReports_retiresAll reports
    obtain ⟨-, hfaults⟩ := ({ s with vdr.inFrame := false } : State).takeReports_valveFaults reports
    rw [hlost] at hcount hpieces
    rw [htaken] at hfaults
    refine ⟨_, hexec, ?_, hcount, fun i p q hp hq => ?_, hfaults⟩
    · unfold State.takeReports
      congr 1
      funext u c
      exact u.takeReport_eq c
    · obtain ⟨o, ho, rfl⟩ := hpieces i q hq
      obtain rfl : p = o := Option.some.inj (hp.symm.trans ho)
      exact Piece.retireOne_unavailable _ p
  case apart =>
    intro takes
    rw [if_pos ⟨hgood, hwhole⟩] at hexec
    have htaken (v : Lane × Row) : v ∈ ({ s with vdr.inFrame := false } : State).takenBy reports ↔
        ∃ c, takes c ∧ (c.lane, c.row) = v := by
      rw [State.mem_takenBy]
      constructor
      · rintro ⟨hv, c, hc, hfault, rfl⟩
        exact ⟨c, ⟨hc, hfault, (ValveState.inService_iff _).mp hv⟩, rfl⟩
      · rintro ⟨c, ⟨hc, hfault, hv⟩, rfl⟩
        exact ⟨(ValveState.inService_iff _).mpr hv, c, hc, hfault, rfl⟩
    have hsteady := ({ s with vdr.inFrame := false } : State).takeReports_steady reports
    refine ⟨_, hexec, hsteady, fun c hc => ?valve, fun l r hno => State.takeReports_valve_other hno _, fun l x => ?lane,
      fun ⟨c, hc⟩ => ?raised, fun hno => ?quiet⟩
    case valve =>
      rw [State.takeReports_valve hnodup hc]
      refine Eq.trans ?_ (if_congr (and_congr_right fun _ => ValveState.inService_iff _) rfl rfl)
      by_cases ht : ({ s with vdr.inFrame := false } : State).takes c
      · rw [State.takeReport_valve_of_takes ht, if_pos ⟨rfl, rfl⟩]
        exact (if_pos ht).symm
      · rw [State.takeReport_valve_of_not ht, if_pos ⟨rfl, rfl⟩]
        exact (if_neg ht).symm
    case lane =>
      refine (State.mem_takeReports _ reports).trans (and_congr_right fun _ => ⟨fun h c hc hl => ?_, fun h v hv hl => ?_⟩)
      · exact h (c.lane, c.row) ((htaken _).mpr ⟨c, hc, rfl⟩) hl
      · obtain ⟨c, hc, rfl⟩ := (htaken v).mp hv
        exact h c hc hl
    case raised =>
      rw [State.takeReports_flags, if_neg (List.ne_nil_of_mem ((htaken _).mpr ⟨c, hc, rfl⟩))]
      rfl
    case quiet =>
      refine State.takeReports_quiet (List.eq_nil_iff_forall_not_mem.mpr fun v hv => ?_)
      obtain ⟨c, hc, -⟩ := (htaken v).mp hv
      exact hno c hc

end Sys2Proof.Machine
end
